-- ==== Sys2Proof/Word.lean ====
section
/-! DEFINITION. The plain types the other files share: a byte on a link and a timer. -/

namespace Sys2Proof

/-- One byte on a link (R167). -/
abbrev Byte := BitVec 8

/-- A timer of the block: `none` while it is stopped, `some ms` while it runs, with the duration it was last started with.
How much of the duration is left is timing, which the model leaves out (log 14). -/
abbrev Timer := Option Nat

end Sys2Proof
end

