-- ==== Sys2Proof/Syntax.lean ====
section
/-! DEFINITION. The commands the KE-60 takes: one constructor per row of spec/opcode_table.json, with the operands the
spec's text gives it. -/

namespace Sys2Proof

/-- The three framed links (spec/00_scope.md 4.1). -/
inductive Link where
  | stand
  | remote
  | service
  deriving DecidableEq, Repr

/-- The two speed pickups (R41). -/
inductive Pickup where
  | a
  | b
  deriving DecidableEq, Repr

/-- The six analog channels, in scan order (R57). -/
inductive Channel where
  | lube
  | coolant
  | fuel
  | battery
  | intake
  | crankcase
  deriving DecidableEq, Repr

/-- The four discrete inputs (section 4.8). -/
inductive Discrete where
  | emergencyStop
  | turningGear
  | groundRelay
  | starterEngaged
  deriving DecidableEq, Repr

/-- The six trainline wires (R112). -/
inductive Wire where
  | w1
  | w2
  | w3
  | w4
  | run
  | stop
  deriving DecidableEq, Repr

/-- The number of a protection entry, 0 to 15 (section 5.1). -/
abbrev Entry := Fin 16

/-- The commands. A request command carries the link it is taken from, its SEQ and its payload bytes; the frame it stands
for is then the oldest one queued on that link (R169, log 1). -/
inductive Instr where
  | powerOn
  | resetLine
  | selfCheckEnd
  | linkBreak (link : Link)
  | goodFrame (link : Link) (kind seq : Byte) (payload : List Byte)
  | badFrame (link : Link)
  | interByteGap (link : Link)
  | replySent (link : Link)
  | unknownKind (link : Link) (kind seq : Byte) (payload : List Byte)
  | enrol (link : Link) (seq : Byte) (payload : List Byte)
  | status (link : Link) (seq : Byte) (payload : List Byte)
  | demand (link : Link) (seq : Byte) (payload : List Byte)
  | claim (link : Link) (seq : Byte) (payload : List Byte)
  | yield (link : Link) (seq : Byte) (payload : List Byte)
  | take (link : Link) (seq : Byte) (payload : List Byte)
  | keep (link : Link) (seq : Byte) (payload : List Byte)
  | resetProtection (link : Link) (seq : Byte) (payload : List Byte)
  | resetAll (link : Link) (seq : Byte) (payload : List Byte)
  | acknowledge (link : Link) (seq : Byte) (payload : List Byte)
  | latch (link : Link) (seq : Byte) (payload : List Byte)
  | readLatched (link : Link) (seq : Byte) (payload : List Byte)
  | readCrankHistory (link : Link) (seq : Byte) (payload : List Byte)
  | readProtectionTable (link : Link) (seq : Byte) (payload : List Byte)
  | readAnalogChannelRecords (link : Link) (seq : Byte) (payload : List Byte)
  | readSourceTableSummary (link : Link) (seq : Byte) (payload : List Byte)
  | readConfigurationEntry (link : Link) (seq : Byte) (payload : List Byte)
  | readEngineRunRecord (link : Link) (seq : Byte) (payload : List Byte)
  | force (link : Link) (seq : Byte) (payload : List Byte)
  | releaseForce (link : Link) (seq : Byte) (payload : List Byte)
  | mask (link : Link) (seq : Byte) (payload : List Byte)
  | unmask (link : Link) (seq : Byte) (payload : List Byte)
  | writeEntry (link : Link) (seq : Byte) (payload : List Byte)
  | applyTable (link : Link) (seq : Byte) (payload : List Byte)
  | lockGroup (link : Link) (seq : Byte) (payload : List Byte)
  | unlockGroup (link : Link) (seq : Byte) (payload : List Byte)
  | fixGroup (link : Link) (seq : Byte) (payload : List Byte)
  | clearTripCount (link : Link) (seq : Byte) (payload : List Byte)
  | pickupPulse (pickup : Pickup)
  | windowCompletes
  | conversion (channel : Channel) (raw : BitVec 12)
  | holdTimerExpiry (channel : Channel)
  | discreteInputLevelChange (input : Discrete) (level : Bool)
  | debouncedChange (input : Discrete)
  | filterTimerExpiry (entry : Entry)
  | prelubeMinimumExpiry
  | prelubeLimitExpiry
  | primeTimerExpiry
  | engageTimerExpiry
  | crankLimitExpiry
  | batteryDropoutExpiry
  | budgetTimerExpiry
  | accelerationTimerExpiry
  | stallTimerExpiry
  | lubeArmingExpiry
  | restTimerExpiry
  | zeroHoldExpiryCrankRest
  | zeroHoldExpiryRundown
  | unloadTimerExpiry
  | minuteTick
  | freshnessTimerExpiry (link : Link)
  | trainlineWireLevelChange (wire : Wire) (level : Bool)
  | trainlineDebouncedChange (wire : Wire)
  | settleTimerExpiry
  | invalidTimerExpiry
  | stopHoldExpiry
  | yieldStageExpiry
  | takeStageExpiry
  | dwellTimerExpiry
  | rampInterval
  | idleDwellExpiry
  | lowIdleDwellExpiry
  | autoStopTimerExpiry
  | batteryLowRestartExpiry
  | storeWriteCompletion
  deriving DecidableEq, Repr

end Sys2Proof
end

