-- ==== Sys2Proof/Config.lean ====
section
/-! DEFINITION. The configuration's shape (R179) and the values of a new part that the spec leaves open. The defaults, the
ranges and the named reading of the fields stand in Machine/Params.lean. -/

namespace Sys2Proof.Machine

/-- One configuration table: five groups of fields, each field a signed 16-bit count in its own unit (R179). The position
in a vector is the field number of R179. -/
structure Table where
  /-- group 0, NOTCH TABLE -/
  notch : Vector Int 33
  /-- group 1, START TIMING -/
  start : Vector Int 20
  /-- group 2, PROTECTION THRESHOLDS -/
  prot : Vector Int 27
  /-- group 3, SPEED SENSING -/
  speed : Vector Int 4
  /-- group 4, LINKS AND FEATURES -/
  links : Vector Int 30
  deriving DecidableEq, Repr

/-- The protection state of one group (R179, R180). -/
inductive GroupState where
  | opened
  | locked
  | fixed
  deriving DecidableEq, Repr

/-- DESIGN CHOICE, unsafe (log 4): whether the store of a new part has a good check. -/
def Config.newPartStoreGood : Bool := true

/-- DESIGN CHOICE, unsafe (log 5): the level of every discrete input and trainline wire in the state after reset. -/
def Config.newPartLineLevel : Bool := false

end Sys2Proof.Machine
end

