-- ==== Sys2Proof/Machine/Types.lean ====
section
/-! DEFINITION. The records State is made of, one per block of the KE-60 (spec/00_scope.md 3.1). Plain data throughout. -/

namespace Sys2Proof.Machine

/-! ### RSQ: the engine run record, the crank history and the engine counters (chapters 1 and 2) -/

/-- The eleven engine states (R2). -/
inductive Engine where
  | stopped
  | autoStopped
  | lockedOut
  | prelube
  | priming
  | cranking
  | crankRest
  | accelerating
  | running
  | unloading
  | rundown
  deriving DecidableEq, Repr

/-- start kind (R1). -/
inductive StartKind where
  | none
  | commanded
  | auto
  deriving DecidableEq, Repr

/-- start result (R1). -/
inductive StartResult where
  | none
  | inProgress
  | started
  | failedPrelube
  | failedPrime
  | failedAttempts
  | abandoned
  | stoppedByCommand
  | stoppedByProtection
  | refused
  deriving DecidableEq, Repr

/-- The reasons of R5. -/
inductive Reason where
  | engineState
  | turningGear
  | battery
  | crankCount
  | budget
  | forced
  | defaulted
  deriving DecidableEq, Repr

/-- stop cause (R1). -/
inductive StopCause where
  | none
  | command
  | autoStop
  | protection
  | startFailure
  deriving DecidableEq, Repr

/-- How a crank attempt ended (R31). -/
inductive CrankOutcome where
  | inProgress
  | fired
  | noFire
  | stalled
  | slow
  | noEngage
  | battery
  | budget
  | command
  | protection
  deriving DecidableEq, Repr

/-- One crank record (R31). -/
structure CrankRecord where
  startedAt : Nat
  attempt : Nat
  /-- tenths of a second -/
  duration : Nat
  outcome : CrankOutcome
  cold : Bool
  /-- tenths of a volt; absent for NO ENGAGE -/
  batteryMin : Option Int
  age : Nat
  isOpen : Bool
  deriving DecidableEq, Repr

/-- The twelve sequence timers (R1). -/
structure SeqTimers where
  prelubeMinimum : Timer
  prelubeLimit : Timer
  prime : Timer
  engage : Timer
  crankLimit : Timer
  batteryDropout : Timer
  acceleration : Timer
  stall : Timer
  lubeArming : Timer
  rest : Timer
  zeroHold : Timer
  unload : Timer
  deriving DecidableEq, Repr

/-- The seven engine counters and the two accumulators (R29). -/
structure EngineCounters where
  startsRequested : Nat
  successfulStarts : Nat
  failedStarts : Nat
  autoStops : Nat
  autoRestarts : Nat
  crankSeconds : Nat
  runTime : Nat
  crankAcc : Nat
  runAcc : Nat
  deriving DecidableEq, Repr

/-- What the Run Sequencer holds (R1, R2, R29, R30, R32, R33). -/
structure Rsq where
  engine : Engine
  startKind : StartKind
  cold : Bool
  attempt : Nat
  startResult : StartResult
  startReason : Option Reason
  stopCause : StopCause
  restartPending : Bool
  lubeArmed : Bool
  crankFuelLatch : Bool
  zeroConfirmed : Bool
  timers : SeqTimers
  prelubePump : Bool
  fuelPump : Bool
  starter : Bool
  fuelEnable : Bool
  minute : Nat
  /-- oldest first -/
  history : List CrankRecord
  /-- the budget timer of R33: the headroom it was started with, in tenths of a second -/
  budget : Option Nat
  counters : EngineCounters
  deriving DecidableEq, Repr

/-! ### SPD: speed sensing (chapter 3) -/

/-- What SPD keeps of one pickup (R41 to R44). -/
structure PickupRec where
  count : Nat
  failed : Bool
  rpm : Nat
  aboveRange : Bool
  failCount : Nat
  recoveryCount : Nat
  deriving DecidableEq, Repr

/-- What the Speed Unit holds (R55). -/
structure Spd where
  a : PickupRec
  b : PickupRec
  disagreeCount : Nat
  agreeCount : Nat
  speedDisagree : Bool
  lostCount : Nat
  senseLost : Bool
  measured : Nat
  overspeed : Nat
  /-- the force stored by FORCE and not yet released -/
  force : Option Nat
  /-- the force as the last completed window took it (R53) -/
  forceInEffect : Option Nat
  deriving DecidableEq, Repr

/-! ### INS: the engine inputs (chapter 4) -/

/-- Channel state (R60). -/
inductive ChannelState where
  | valid
  | held
  | substituted
  deriving DecidableEq, Repr

/-- One analog channel's record (section 4.3). -/
structure ChannelRec where
  raw : Nat
  eng : Int
  state : ChannelState
  goodSeen : Bool
  goodCount : Nat
  holdTimer : Timer
  /-- the forced flag and the forced value -/
  forced : Option Int
  /-- the given value as the consumers last received it (R59, R66) -/
  given : Int
  deriving DecidableEq, Repr

/-- One discrete input (section 4.8): `true` is ACTIVE. -/
structure DiscreteRec where
  level : Bool
  debounced : Bool
  timer : Timer
  forced : Option Bool
  deriving DecidableEq, Repr

/-- What the Input Scanner holds (R68, R73): the channels, the discrete inputs, and the channel the scan converts next
(R57). -/
structure Ins where
  lube : ChannelRec
  coolant : ChannelRec
  fuel : ChannelRec
  battery : ChannelRec
  intake : ChannelRec
  crankcase : ChannelRec
  emergencyStop : DiscreteRec
  turningGear : DiscreteRec
  groundRelay : DiscreteRec
  starterEngaged : DiscreteRec
  scanNext : Channel
  deriving DecidableEq, Repr

/-! ### PRU: the protection table (chapter 5) -/

/-- Entry state (R74). -/
inductive EntryState where
  | idle
  | pending
  | active
  | held
  deriving DecidableEq, Repr

/-- The class of an entry (section 5.1). -/
inductive ProtClass where
  | alarm
  | derate
  | notchLimit
  | idleDown
  | shutdown
  deriving DecidableEq, Repr

/-- One entry record (R74). -/
structure EntryRec where
  state : EntryState
  condition : Bool
  acknowledged : Bool
  masked : Bool
  tripCount : Nat
  filter : Timer
  deriving DecidableEq, Repr

/-- What the Protection Unit holds (R74, R87, R89). -/
structure Pru where
  entries : Vector EntryRec 16
  coolantPct : Int
  intakePct : Int
  bell : Bool
  deriving DecidableEq, Repr

/-! ### AUT: sources, trainline, holder and handover (chapters 6 and 7) -/

/-- A commander; its code is that of section 6.1. -/
inductive Source where
  | stand
  | trainline
  | remote
  | service
  deriving DecidableEq, Repr

/-- Link state of a framed source (R100). -/
inductive LinkState where
  | down
  | active
  | inert
  deriving DecidableEq, Repr

/-- The limits declared at enrolment (R100). -/
structure Envelope where
  maxNotch : Nat
  mayStart : Bool
  mayStop : Bool
  autoStop : Bool
  /-- in 10 ms units -/
  interval : Nat
  deriving DecidableEq, Repr

/-- run request (R100). -/
inductive RunRequest where
  | none
  | start
  | stop
  deriving DecidableEq, Repr

/-- claim outcome (R100, section 7.10). -/
inductive ClaimOutcome where
  | none
  | granted
  | refused
  | broken
  | expired
  | lapsed
  deriving DecidableEq, Repr

/-- One framed source table entry (R100). -/
structure FramedSource where
  linkState : LinkState
  envelope : Option Envelope
  demand : Nat
  run : RunRequest
  limited : Bool
  fresh : Bool
  freshness : Timer
  outcome : ClaimOutcome
  deriving DecidableEq, Repr

/-- One trainline wire's filter (R112). -/
structure WireFilter where
  level : Bool
  debounced : Bool
  timer : Timer
  deriving DecidableEq, Repr

/-- The six wires' filters. -/
structure Wires where
  w1 : WireFilter
  w2 : WireFilter
  w3 : WireFilter
  w4 : WireFilter
  run : WireFilter
  stop : WireFilter
  deriving DecidableEq, Repr

/-- Six wire levels (R117). -/
structure WireLevels where
  w1 : Bool
  w2 : Bool
  w3 : Bool
  w4 : Bool
  run : Bool
  stop : Bool
  deriving DecidableEq, Repr

/-- Trainline state (R101). -/
inductive TrainlineState where
  | absent
  | quiet
  | live
  deriving DecidableEq, Repr

/-- The trainline's entry (R101). -/
structure Trainline where
  state : TrainlineState
  decoded : Nat
  invalid : Bool
  effective : Nat
  fresh : Bool
  settle : Timer
  invalidTimer : Timer
  stopHold : Timer
  wires : Wires
  forced : Option WireLevels
  deriving DecidableEq, Repr

/-- Stage of a handover (R122). -/
inductive Stage where
  | awaitYield
  | awaitTake
  deriving DecidableEq, Repr

/-- The handover record (R122). -/
structure Handover where
  claimant : Link
  holderAtStart : Source
  number : Nat
  stage : Stage
  timer : Timer
  override : Bool
  deriving DecidableEq, Repr

/-- What the Authority Unit holds (R100, R101, R118, R122). -/
structure Aut where
  stand : FramedSource
  remote : FramedSource
  service : FramedSource
  trainline : Trainline
  holder : Option Source
  handover : Option Handover
  nextNumber : Nat
  deriving DecidableEq, Repr

/-! ### NTU: the notch and the load (chapter 8) -/

/-- The kind of a running dwell timer (R142). -/
inductive DwellKind where
  | up
  | down
  deriving DecidableEq, Repr

/-- A running dwell timer: its kind and the duration in ms it was started with. -/
structure Dwell where
  kind : DwellKind
  ms : Nat
  deriving DecidableEq, Repr

/-- What the Notch Unit holds (R139). -/
structure Ntu where
  applied : Nat
  lowIdle : Bool
  e : Nat
  dwell : Option Dwell
  loadTarget : Nat
  loadRef : Nat
  loadPermit : Bool
  setpoint : Nat
  governorRef : Nat
  excitationRef : Nat
  unloadReported : Bool
  deriving DecidableEq, Repr

/-! ### IRU: automatic idle reduction (chapter 9) -/

/-- IRU state (R157). -/
inductive IruState where
  | off
  | idleDwell
  | lowIdleDwell
  | stopping
  | watch
  | restartPending
  deriving DecidableEq, Repr

/-- What the Idle Reduction Unit holds (R157). -/
structure Iru where
  state : IruState
  idleDwell : Timer
  lowIdleDwell : Timer
  autoStop : Timer
  batteryLow : Timer
  /-- the low-idle request as last handed to NTU, which is NTU's low idle requested (R139) -/
  lowIdleRequest : Bool
  demandSeen : Bool
  restartSent : Bool
  fuelOff : Option Nat
  restartRefused : Bool
  deriving DecidableEq, Repr

/-! ### The link interfaces (chapter 10) -/

/-- A good request frame (R167). -/
structure Frame where
  kind : Byte
  seq : Byte
  payload : List Byte
  deriving DecidableEq, Repr

/-- The result codes (R170). -/
inductive Result where
  | done
  | inProgress
  | busy
  | notHolder
  | refusedState
  | badField
  | notPermitted
  | handoverBusy
  | handoverBroken
  | alreadyLatched
  | badTable
  | locked
  | doneLimited
  deriving DecidableEq, Repr

/-- The status word (R171). -/
structure StatusWord where
  b0 : Byte
  b1 : Byte
  b2 : Byte
  b3 : Byte
  b4 : Byte
  b5 : Byte
  deriving DecidableEq, Repr

/-- A reply frame (R170); LENGTH and CHECK follow from it. -/
structure Reply where
  kind : Byte
  seq : Byte
  result : Result
  status : StatusWord
  payload : List Byte
  deriving DecidableEq, Repr

/-- The two baud rates (R167). -/
inductive Baud where
  | b19200
  | b57600
  deriving DecidableEq, Repr

/-- What one link interface holds (R178). -/
structure LinkIf where
  /-- oldest first -/
  queue : List Frame
  /-- the reply being sent -/
  sending : Option Reply
  latch : Option (List Byte)
  goodFrames : Nat
  checkErrors : Nat
  queueOverflows : Nat
  inertDiscards : Nat
  overflow : Bool
  lastReturned : Option StatusWord
  attn : Bool
  baud : Baud
  deriving DecidableEq, Repr

/-- LKS, LKR and LKV. -/
structure Links where
  stand : LinkIf
  remote : LinkIf
  service : LinkIf
  deriving DecidableEq, Repr

/-! ### CFG: the configuration store (chapter 11) -/

/-- What the Configuration Store holds (R179, R183). -/
structure Cfg where
  active : Table
  edited : Table
  groups : Vector GroupState 5
  /-- store check bad -/
  checkBad : Bool
  defaulted : Bool
  writing : Bool
  /-- the self-check is running -/
  checking : Bool
  /-- the table the non-volatile store holds -/
  store : Table
  /-- whether the non-volatile store's check is good -/
  storeGood : Bool
  deriving DecidableEq, Repr

end Sys2Proof.Machine
end

