-- ==== Sys2Proof/Machine/Params.lean ====
section
/-! DEFINITION. The configured quantities: the built-in defaults, the range of every field (R179 and the tables of each
chapter), reading and writing a field by its identity, and each quantity by its name. -/

namespace Sys2Proof.Machine

/-! ### Defaults and ranges -/

/-- Default, least and greatest value of one field. -/
structure FieldSpec where
  dflt : Int
  lo : Int
  hi : Int
  deriving DecidableEq, Repr

/-- Group 0, NOTCH TABLE (sections 8.1 and 8.9). -/
def notchFields : List FieldSpec :=
  [⟨270, 0, 1600⟩, ⟨335, 0, 1600⟩, ⟨335, 0, 1600⟩, ⟨400, 0, 1600⟩, ⟨485, 0, 1600⟩,
   ⟨570, 0, 1600⟩, ⟨660, 0, 1600⟩, ⟨750, 0, 1600⟩, ⟨840, 0, 1600⟩, ⟨930, 0, 1600⟩] ++
  [⟨180, 0, 5000⟩, ⟨500, 0, 5000⟩, ⟨900, 0, 5000⟩, ⟨1350, 0, 5000⟩,
   ⟨1850, 0, 5000⟩, ⟨2350, 0, 5000⟩, ⟨2900, 0, 5000⟩, ⟨3400, 0, 5000⟩] ++
  List.replicate 8 ⟨30, 10, 200⟩ ++
  [⟨10, 5, 100⟩, ⟨20, 5, 100⟩, ⟨25, 5, 200⟩, ⟨60, 5, 400⟩, ⟨3400, 100, 5000⟩, ⟨200, 0, 800⟩, ⟨1000, 100, 1600⟩]

/-- Group 1, START TIMING (the table of R1, then section 2.6); times in 0.1 s, CRANK WINDOW in minutes. -/
def startFields : List FieldSpec :=
  [⟨450, 50, 3000⟩, ⟨900, 50, 6000⟩, ⟨100, 50, 1200⟩, ⟨1200, 100, 9000⟩, ⟨35, 5, 200⟩, ⟨150, 20, 600⟩,
   ⟨150, 20, 1200⟩, ⟨20, 5, 100⟩, ⟨80, 20, 300⟩, ⟨200, 100, 400⟩, ⟨200, 50, 600⟩, ⟨300, 50, 600⟩] ++
  [⟨620, 400, 800⟩, ⟨480, 300, 700⟩, ⟨150, 50, 600⟩, ⟨600, 100, 6000⟩, ⟨3, 1, 5⟩, ⟨300, 50, 1200⟩,
   ⟨30, 10, 60⟩, ⟨900, 300, 1800⟩]

/-- Group 2, PROTECTION THRESHOLDS (section 5.8). -/
def protFields : List FieldSpec :=
  [⟨50, 10, 400⟩, ⟨20, 5, 100⟩, ⟨100, 20, 400⟩, ⟨250, 20, 600⟩, ⟨20, 5, 100⟩, ⟨1100, 800, 1300⟩,
   ⟨1040, 700, 1290⟩, ⟨50, 10, 300⟩, ⟨5, 1, 50⟩, ⟨150, 50, 400⟩, ⟨170, 51, 450⟩, ⟨30, 5, 100⟩,
   ⟨400, 0, 700⟩, ⟨420, 1, 750⟩] ++
  [⟨980, 700, 1200⟩, ⟨1060, 701, 1300⟩, ⟨50, 10, 99⟩, ⟨960, 600, 1199⟩, ⟨550, 300, 900⟩, ⟨700, 301, 1100⟩,
   ⟨70, 10, 99⟩, ⟨530, 200, 899⟩, ⟨640, 400, 800⟩, ⟨660, 401, 850⟩, ⟨600, 50, 3000⟩, ⟨2, 1, 15⟩, ⟨3, 1, 15⟩]

/-- Group 3, SPEED SENSING (section 3.8). -/
def speedFields : List FieldSpec :=
  [⟨150, 60, 300⟩, ⟨2, 1, 8⟩, ⟨24, 4, 100⟩, ⟨1150, 600, 1500⟩]

/-- Group 4, LINKS AND FEATURES (R167, sections 6.7, 9.6 and 4.6, R179). -/
def linkFields : List FieldSpec :=
  [⟨0, 0, 1⟩, ⟨0, 0, 1⟩, ⟨0, 0, 1⟩, ⟨1, 0, 1⟩, ⟨1, 0, 1⟩, ⟨1, 0, 1⟩, ⟨1, 0, 1⟩] ++
  [⟨1, 0, 1⟩, ⟨10, 1, 60⟩, ⟨5, 0, 60⟩, ⟨400, 200, 800⟩, ⟨660, 550, 800⟩, ⟨250, 0, 600⟩, ⟨630, 500, 750⟩,
   ⟨600, 100, 6000⟩, ⟨240, 30, 1440⟩, ⟨50, 10, 300⟩, ⟨20, 5, 100⟩] ++
  [⟨0, 0, 1000⟩, ⟨1000, 1, 1000⟩, ⟨-500, -500, 1500⟩, ⟨2000, 1, 2000⟩, ⟨0, 0, 1000⟩, ⟨1000, 1, 1000⟩,
   ⟨0, 0, 1000⟩, ⟨1000, 1, 1000⟩, ⟨-500, -500, 1500⟩, ⟨2000, 1, 2000⟩, ⟨-500, -500, 500⟩, ⟨1000, 1, 1000⟩]

/-- The fields of each group, in field order (R179). -/
def groupFields (g : Nat) : List FieldSpec :=
  match g with
  | 0 => notchFields
  | 1 => startFields
  | 2 => protFields
  | 3 => speedFields
  | 4 => linkFields
  | _ => []

/-- The field with identity (group, number), where there is one (R179). -/
def fieldSpec (g f : Nat) : Option FieldSpec := (groupFields g)[f]?

/-- The built-in table of defaults (R184). -/
def defaultTable : Table where
  notch := ⟨⟨notchFields.map (·.dflt)⟩, rfl⟩
  start := ⟨⟨startFields.map (·.dflt)⟩, rfl⟩
  prot := ⟨⟨protFields.map (·.dflt)⟩, rfl⟩
  speed := ⟨⟨speedFields.map (·.dflt)⟩, rfl⟩
  links := ⟨⟨linkFields.map (·.dflt)⟩, rfl⟩

/-! ### A field by its identity -/

/-- The value of field (group, number); 0 where there is no such field. -/
def Table.field (t : Table) (g f : Nat) : Int :=
  match g with
  | 0 => t.notch[f]?.getD 0
  | 1 => t.start[f]?.getD 0
  | 2 => t.prot[f]?.getD 0
  | 3 => t.speed[f]?.getD 0
  | 4 => t.links[f]?.getD 0
  | _ => 0

/-- Replace the value of field (group, number); nothing changes where there is no such field. -/
def Table.setField (t : Table) (g f : Nat) (v : Int) : Table :=
  match g with
  | 0 => { t with notch := t.notch.setIfInBounds f v }
  | 1 => { t with start := t.start.setIfInBounds f v }
  | 2 => { t with prot := t.prot.setIfInBounds f v }
  | 3 => { t with speed := t.speed.setIfInBounds f v }
  | 4 => { t with links := t.links.setIfInBounds f v }
  | _ => t

/-- Copy one group of `src` over `t` (R180). -/
def Table.copyGroup (t src : Table) (g : Fin 5) : Table :=
  match g with
  | 0 => { t with notch := src.notch }
  | 1 => { t with start := src.start }
  | 2 => { t with prot := src.prot }
  | 3 => { t with speed := src.speed }
  | 4 => { t with links := src.links }

/-! ### Units -/

/-- A duration held in 0.1 s, in ms. -/
def tenthsMs (v : Int) : Nat := v.toNat * 100

/-- A duration held in minutes, in ms. -/
def minutesMs (v : Int) : Nat := v.toNat * 60000

namespace Table

/-! ### NOTCH TABLE (section 8.1) -/

/-- speed(LOW IDLE) -/
def lowIdleSpeed (t : Table) : Nat := t.notch[0].toNat
/-- speed(p) of the position that notch p stands for (R138). -/
def speedAt (t : Table) (p : Nat) : Nat := (t.notch[p + 1]?.getD 0).toNat
/-- load(p) of notch p; 0 for IDLE (R138). -/
def loadAt (t : Table) (p : Nat) : Nat := if p = 0 then 0 else (t.notch[p + 9]?.getD 0).toNat
/-- UP DWELL(p), in ms. -/
def upDwell (t : Table) (p : Nat) : Nat := tenthsMs (t.notch[p + 18]?.getD 0)
/-- DOWN DWELL, in ms. -/
def downDwell (t : Table) : Nat := tenthsMs t.notch[26]
/-- BAND -/
def band (t : Table) : Int := t.notch[27]
/-- RAMP UP -/
def rampUp (t : Table) : Nat := t.notch[28].toNat
/-- RAMP DOWN -/
def rampDown (t : Table) : Nat := t.notch[29].toNat
/-- LOAD MAX -/
def loadMax (t : Table) : Nat := t.notch[30].toNat
/-- GOV ZERO -/
def govZero (t : Table) : Int := t.notch[31]
/-- GOV SPAN -/
def govSpan (t : Table) : Int := t.notch[32]

/-! ### START TIMING (R1, section 2.6) -/

/-- PRELUBE NORMAL -/
def prelubeNormal (t : Table) : Int := t.start[0]
/-- PRELUBE COLD -/
def prelubeCold (t : Table) : Int := t.start[1]
/-- PRELUBE FAST -/
def prelubeFast (t : Table) : Int := t.start[2]
/-- PRELUBE MAX -/
def prelubeMax (t : Table) : Int := t.start[3]
/-- PRELUBE PRESSURE -/
def prelubePressure (t : Table) : Int := t.start[4]
/-- PRIME PRESSURE -/
def primePressure (t : Table) : Int := t.start[5]
/-- PRIME LIMIT -/
def primeLimit (t : Table) : Int := t.start[6]
/-- ENGAGE LIMIT -/
def engageLimit (t : Table) : Int := t.start[7]
/-- CRANK FUEL SPEED -/
def crankFuelSpeed (t : Table) : Int := t.start[8]
/-- FIRE SPEED -/
def fireSpeed (t : Table) : Int := t.start[9]
/-- CRANK LIMIT -/
def crankLimit (t : Table) : Int := t.start[10]
/-- CRANK LIMIT COLD -/
def crankLimitCold (t : Table) : Int := t.start[11]
/-- CRANK MIN -/
def crankMin (t : Table) : Int := t.start[12]
/-- CRANK DROPOUT -/
def crankDropout (t : Table) : Int := t.start[13]
/-- ACCEL LIMIT -/
def accelLimit (t : Table) : Int := t.start[14]
/-- CRANK REST -/
def crankRest (t : Table) : Int := t.start[15]
/-- MAX ATTEMPTS -/
def maxAttempts (t : Table) : Nat := t.start[16].toNat
/-- UNLOAD LIMIT -/
def unloadLimit (t : Table) : Int := t.start[17]
/-- CRANK WINDOW, in minutes -/
def crankWindow (t : Table) : Nat := t.start[18].toNat
/-- CRANK BUDGET, in 0.1 s -/
def crankBudget (t : Table) : Nat := t.start[19].toNat

/-! ### PROTECTION THRESHOLDS (section 5.8) -/

/-- CRANKCASE LIMIT -/
def crankcaseLimit (t : Table) : Int := t.prot[0]
/-- CRANKCASE FILTER -/
def crankcaseFilter (t : Table) : Int := t.prot[1]
/-- LUBE LOW AT IDLE -/
def lubeLowIdle (t : Table) : Int := t.prot[2]
/-- LUBE LOW AT N8 -/
def lubeLowN8 (t : Table) : Int := t.prot[3]
/-- LUBE FILTER -/
def lubeFilter (t : Table) : Int := t.prot[4]
/-- HOT ENGINE SET -/
def hotSet (t : Table) : Int := t.prot[5]
/-- HOT ENGINE CLEAR -/
def hotClear (t : Table) : Int := t.prot[6]
/-- HOT ENGINE FILTER -/
def hotFilter (t : Table) : Int := t.prot[7]
/-- GROUND FILTER -/
def groundFilter (t : Table) : Int := t.prot[8]
/-- LOW FUEL SET -/
def lowFuelSet (t : Table) : Int := t.prot[9]
/-- LOW FUEL CLEAR -/
def lowFuelClear (t : Table) : Int := t.prot[10]
/-- LOW FUEL FILTER -/
def lowFuelFilter (t : Table) : Int := t.prot[11]
/-- COLD ENGINE SET -/
def coldSet (t : Table) : Int := t.prot[12]
/-- COLD ENGINE CLEAR -/
def coldClear (t : Table) : Int := t.prot[13]
/-- COOLANT DERATE START -/
def coolantStart (t : Table) : Int := t.prot[14]
/-- COOLANT DERATE END -/
def coolantEnd (t : Table) : Int := t.prot[15]
/-- COOLANT DERATE FLOOR -/
def coolantFloor (t : Table) : Int := t.prot[16]
/-- COOLANT DERATE CLEAR -/
def coolantClear (t : Table) : Int := t.prot[17]
/-- INTAKE DERATE START -/
def intakeStart (t : Table) : Int := t.prot[18]
/-- INTAKE DERATE END -/
def intakeEnd (t : Table) : Int := t.prot[19]
/-- INTAKE DERATE FLOOR -/
def intakeFloor (t : Table) : Int := t.prot[20]
/-- INTAKE DERATE CLEAR -/
def intakeClear (t : Table) : Int := t.prot[21]
/-- BATTERY LOW SET -/
def batteryLowSet (t : Table) : Int := t.prot[22]
/-- BATTERY LOW CLEAR -/
def batteryLowClear (t : Table) : Int := t.prot[23]
/-- BATTERY LOW FILTER -/
def batteryLowFilter (t : Table) : Int := t.prot[24]
/-- OVERSPEED TRIP LIMIT -/
def overspeedTripLimit (t : Table) : Nat := t.prot[25].toNat
/-- GROUND TRIP LIMIT -/
def groundTripLimit (t : Table) : Nat := t.prot[26].toNat

/-! ### SPEED SENSING (section 3.8) -/

/-- T, ring gear teeth -/
def teeth (t : Table) : Nat := t.speed[0].toNat
/-- P MIN -/
def pMin (t : Table) : Nat := t.speed[1].toNat
/-- TOL -/
def tol (t : Table) : Nat := t.speed[2].toNat
/-- OVERSPEED LIMIT -/
def overspeedLimit (t : Table) : Int := t.speed[3]

/-! ### LINKS AND FEATURES (R179) -/

/-- STAND BAUD, REMOTE BAUD, SERVICE BAUD -/
def baudOf (t : Table) (l : Link) : Baud :=
  let v := match l with
    | .stand => t.links[0]
    | .remote => t.links[1]
    | .service => t.links[2]
  if v = 1 then .b57600 else .b19200
/-- REMOTE LINK ENABLE -/
def remoteEnable (t : Table) : Bool := t.links[3] = 1
/-- SERVICE LINK ENABLE -/
def serviceEnable (t : Table) : Bool := t.links[4] = 1
/-- TRAINLINE FOLLOW -/
def trainlineFollow (t : Table) : Bool := t.links[5] = 1
/-- TRAINLINE AUTO STOP -/
def trainlineAutoStop (t : Table) : Bool := t.links[6] = 1
/-- AIR ENABLE -/
def airEnable (t : Table) : Bool := t.links[7] = 1
/-- IDLE DWELL TIME, in minutes -/
def idleDwellTime (t : Table) : Int := t.links[8]
/-- LOW IDLE DWELL TIME, in minutes -/
def lowIdleDwellTime (t : Table) : Int := t.links[9]
/-- AIR COOLANT MIN -/
def airCoolantMin (t : Table) : Int := t.links[10]
/-- AIR BATTERY MIN -/
def airBatteryMin (t : Table) : Int := t.links[11]
/-- RESTART COOLANT -/
def restartCoolant (t : Table) : Int := t.links[12]
/-- RESTART BATTERY -/
def restartBattery (t : Table) : Int := t.links[13]
/-- RESTART BATTERY FILTER -/
def restartBatteryFilter (t : Table) : Int := t.links[14]
/-- AUTO STOP MAX, in minutes -/
def autoStopMax (t : Table) : Int := t.links[15]
/-- HANDOVER YIELD TIME -/
def yieldTime (t : Table) : Int := t.links[16]
/-- HANDOVER TAKE TIME -/
def takeTime (t : Table) : Int := t.links[17]

/-- A channel's zero and span (R58, section 4.6). -/
def zeroSpan (t : Table) (c : Channel) : Int × Int :=
  match c with
  | .lube => (t.links[18], t.links[19])
  | .coolant => (t.links[20], t.links[21])
  | .fuel => (t.links[22], t.links[23])
  | .battery => (t.links[24], t.links[25])
  | .intake => (t.links[26], t.links[27])
  | .crankcase => (t.links[28], t.links[29])

end Table

/-- The ends of a channel's range, in its unit (R58). -/
def channelRange (c : Channel) : Int × Int :=
  match c with
  | .lube => (0, 1000)
  | .coolant => (-500, 1500)
  | .fuel => (0, 1000)
  | .battery => (0, 1000)
  | .intake => (-500, 1500)
  | .crankcase => (-500, 500)

/-- A channel's substitute (R58). -/
def substituteOf (c : Channel) : Int :=
  match c with
  | .lube => 0
  | .coolant => 1500
  | .fuel => 0
  | .battery => 0
  | .intake => 1500
  | .crankcase => 500

/-- The debounce time of a discrete input, in ms (R70). -/
def debounceMs (d : Discrete) : Nat :=
  match d with
  | .emergencyStop => 20
  | .turningGear => 100
  | .groundRelay => 100
  | .starterEngaged => 20

end Sys2Proof.Machine
end

