-- ==== Sys2Proof/Machine/Resets.lean ====
section
/-! DEFINITION. The value of each block's state after POWER-ON and RESET LINE, from the reset tables of the chapters. -/

namespace Sys2Proof.Machine

/-- All sequence timers stopped (R1). -/
def stoppedTimers : SeqTimers where
  prelubeMinimum := none
  prelubeLimit := none
  prime := none
  engage := none
  crankLimit := none
  batteryDropout := none
  acceleration := none
  stall := none
  lubeArming := none
  rest := none
  zeroHold := none
  unload := none

/-- The engine counters cleared (R29). -/
def clearedCounters : EngineCounters where
  startsRequested := 0
  successfulStarts := 0
  failedStarts := 0
  autoStops := 0
  autoRestarts := 0
  crankSeconds := 0
  runTime := 0
  crankAcc := 0
  runAcc := 0

/-- RSQ after reset (R1, R28, R29, R30, R32). -/
def resetRsq : Rsq where
  engine := .stopped
  startKind := .none
  cold := false
  attempt := 0
  startResult := .none
  startReason := none
  stopCause := .none
  restartPending := false
  lubeArmed := false
  crankFuelLatch := false
  zeroConfirmed := false
  timers := stoppedTimers
  prelubePump := false
  fuelPump := false
  starter := false
  fuelEnable := false
  minute := 0
  history := []
  budget := none
  counters := clearedCounters

/-- One pickup after reset (R55). -/
def resetPickup : PickupRec where
  count := 0
  failed := false
  rpm := 0
  aboveRange := false
  failCount := 0
  recoveryCount := 0

/-- SPD after reset (R55). -/
def resetSpd : Spd where
  a := resetPickup
  b := resetPickup
  disagreeCount := 0
  agreeCount := 0
  speedDisagree := false
  lostCount := 0
  senseLost := false
  measured := 0
  overspeed := 0
  force := none
  forceInEffect := none

/-- One analog channel after reset (R68). -/
def resetChannel : ChannelRec where
  raw := 0
  eng := 0
  state := .valid
  goodSeen := false
  goodCount := 0
  holdTimer := none
  forced := none
  given := 0

/-- One discrete input after reset, its line at `level`: INACTIVE, its debounce timer running when the level is ACTIVE
(R73). -/
def resetDiscrete (d : Discrete) (level : Bool) : DiscreteRec where
  level := level
  debounced := false
  timer := if level then some (debounceMs d) else none
  forced := none

/-- INS after reset, the discrete lines at the levels given (R68, R73); the scan restarts from LUBE PRESSURE (R57). -/
def resetIns (emergencyStop turningGear groundRelay starterEngaged : Bool) : Ins where
  lube := resetChannel
  coolant := resetChannel
  fuel := resetChannel
  battery := resetChannel
  intake := resetChannel
  crankcase := resetChannel
  emergencyStop := resetDiscrete .emergencyStop emergencyStop
  turningGear := resetDiscrete .turningGear turningGear
  groundRelay := resetDiscrete .groundRelay groundRelay
  starterEngaged := resetDiscrete .starterEngaged starterEngaged
  scanNext := .lube

/-- One protection entry after reset (R98). -/
def resetEntry : EntryRec where
  state := .idle
  condition := false
  acknowledged := true
  masked := false
  tripCount := 0
  filter := none

/-- PRU after reset (R98). -/
def resetPru : Pru where
  entries := Vector.replicate 16 resetEntry
  coolantPct := 100
  intakePct := 100
  bell := false

/-- One framed source after reset (R100). -/
def resetSource : FramedSource where
  linkState := .down
  envelope := none
  demand := 0
  run := .none
  limited := false
  fresh := false
  freshness := none
  outcome := .none

/-- One trainline wire after reset, its line at `level`: debounced off, its debounce timer of 60 ms running when the line
is on (R112). -/
def resetWire (level : Bool) : WireFilter where
  level := level
  debounced := false
  timer := if level then some 60 else none

/-- The trainline entry after reset, the wires at the levels given (R101, R112). -/
def resetTrainline (l : WireLevels) : Trainline where
  state := .absent
  decoded := 0
  invalid := false
  effective := 0
  fresh := false
  settle := none
  invalidTimer := none
  stopHold := none
  wires :=
    { w1 := resetWire l.w1, w2 := resetWire l.w2, w3 := resetWire l.w3, w4 := resetWire l.w4,
      run := resetWire l.run, stop := resetWire l.stop }
  forced := none

/-- AUT after reset (R100, R101, R118, R122). -/
def resetAut (l : WireLevels) : Aut where
  stand := resetSource
  remote := resetSource
  service := resetSource
  trainline := resetTrainline l
  holder := none
  handover := none
  nextNumber := 1

/-- NTU after reset (R139). -/
def resetNtu : Ntu where
  applied := 0
  lowIdle := false
  e := 0
  dwell := none
  loadTarget := 0
  loadRef := 0
  loadPermit := false
  setpoint := 0
  governorRef := 0
  excitationRef := 0
  unloadReported := false

/-- IRU after reset (R157). -/
def resetIru : Iru where
  state := .off
  idleDwell := none
  lowIdleDwell := none
  autoStop := none
  batteryLow := none
  lowIdleRequest := false
  demandSeen := false
  restartSent := false
  fuelOff := none
  restartRefused := false

/-- One link interface after reset, at the baud rate given (R178). That a reply being sent is given up is a DESIGN CHOICE,
unsafe: the reset table of R178 has no row for it (log 26). -/
def resetLink (b : Baud) : LinkIf where
  queue := []
  sending := none
  latch := none
  goodFrames := 0
  checkErrors := 0
  queueOverflows := 0
  inertDiscards := 0
  overflow := false
  lastReturned := none
  attn := false
  baud := b

/-- The three link interfaces after reset, at the rates of the active table so loaded (R178, R184). -/
def resetLinks (t : Table) : Links where
  stand := resetLink (t.baudOf .stand)
  remote := resetLink (t.baudOf .remote)
  service := resetLink (t.baudOf .service)

/-- The table the self-check loads: the store's with a good check, else the defaults (R184). -/
def loadedTable (store : Table) (good : Bool) : Table := if good then store else defaultTable

/-- CFG after reset, from the non-volatile store: the self-check runs, a store write in progress is lost and leaves a bad
check, and the group states are as last held (R179, R183, R184). That the active table and CONFIG DEFAULTED take their
values in the reset event, and not at a later moment of the self-check, is a DESIGN CHOICE (log 6). -/
def resetCfg (c : Cfg) : Cfg :=
  let good := c.storeGood && !c.writing
  { c with
    active := loadedTable c.store good
    checkBad := !good
    defaulted := !good
    writing := false
    checking := true
    storeGood := good }

/-- CFG of a part that has never been configured (R179: every group OPEN), before its first reset. The contents of its
store are a DESIGN CHOICE, unsafe (log 4). -/
def newPartCfg : Cfg where
  active := defaultTable
  edited := defaultTable
  groups := Vector.replicate 5 .opened
  checkBad := !Config.newPartStoreGood
  defaulted := !Config.newPartStoreGood
  writing := false
  checking := true
  store := defaultTable
  storeGood := Config.newPartStoreGood

/-- Six wire levels, all at one level. -/
def allLevels (b : Bool) : WireLevels := ⟨b, b, b, b, b, b⟩

end Sys2Proof.Machine
end

