-- ==== Sys2Proof/Machine/State.lean ====
section
/-! DEFINITION. The whole state of the KE-60, the reasons a step could stop, and the state right after reset. -/

namespace Sys2Proof.Machine

/-- The state of the KE-60: one field per block, the three link interfaces together, and the queue of the commands that
are waiting, first in first out. -/
structure State where
  rsq : Rsq
  spd : Spd
  ins : Ins
  pru : Pru
  aut : Aut
  ntu : Ntu
  iru : Iru
  links : Links
  cfg : Cfg
  pending : List Instr
  deriving DecidableEq, Repr

/-- Why a step could stop the machine. There is no reason: the spec names no condition that stops the block (INVENTORY.md,
Faults), so the type has no constructor and nothing raises a fault. -/
inductive Fault where
  deriving DecidableEq, Repr

/-- Why a step could refuse a command. -/
inductive Refusal where
  /-- Raised only by an arm of exec whose command has no meaning yet; safe. No arm raises it: every command has its
  meaning. -/
  | notModelled (mnemonic : String)
  deriving DecidableEq, Repr

/-- The machine right after reset: every block at the reset values of its chapter, the self-check running (R184), no
command waiting. What the spec leaves open is named in the log: the store of a new part (log 4), the levels of the input
lines (log 5), the moment the active table is loaded (log 6). -/
def State.reset : State where
  rsq := resetRsq
  spd := resetSpd
  ins := resetIns Config.newPartLineLevel Config.newPartLineLevel Config.newPartLineLevel Config.newPartLineLevel
  pru := resetPru
  aut := resetAut (allLevels Config.newPartLineLevel)
  ntu := resetNtu
  iru := resetIru
  links := resetLinks (resetCfg newPartCfg).active
  cfg := resetCfg newPartCfg
  pending := []

end Sys2Proof.Machine
end

