-- ==== Sys2Proof/Machine/Bytes.lean ====
section
/-! DEFINITION. Bytes on a link: the codes of the named values, big-endian fields, the CRC-16 check and the request and
reply frames as they stand on the line (R167, R170). -/

namespace Sys2Proof.Machine

/-! ### Fields -/

/-- The low eight bits of a count. -/
def byte (n : Nat) : Byte := BitVec.ofNat 8 n

/-- A 16-bit field, high byte first (spec/00_scope.md 5.5). -/
def be16 (n : Nat) : List Byte := [byte (n / 256), byte n]

/-- A 32-bit field, high byte first. -/
def be32 (n : Nat) : List Byte := be16 (n / 65536) ++ be16 n

/-- A signed 16-bit field, high byte first. -/
def beInt (i : Int) : List Byte := be16 (BitVec.ofInt 16 i).toNat

/-- The signed 16-bit count of two bytes, high byte first. -/
def intOf (hi lo : Byte) : Int := (hi ++ lo : BitVec 16).toInt

/-- A flag at bit `i` of a byte. -/
def flag (b : Bool) (i : Nat) : Nat := if b then 2 ^ i else 0

/-! ### Codes -/

/-- Engine state codes (R2). -/
def Engine.code : Engine → Nat
  | .stopped => 0
  | .autoStopped => 1
  | .lockedOut => 2
  | .prelube => 3
  | .priming => 4
  | .cranking => 5
  | .crankRest => 6
  | .accelerating => 7
  | .running => 8
  | .unloading => 9
  | .rundown => 10

/-- Reason codes (R5). -/
def Reason.code : Reason → Nat
  | .engineState => 1
  | .turningGear => 2
  | .battery => 3
  | .crankCount => 4
  | .budget => 5
  | .forced => 6
  | .defaulted => 7

/-- Start kind codes (R177). -/
def StartKind.code : StartKind → Nat
  | .none => 0
  | .commanded => 1
  | .auto => 2

/-- Start result codes (R177). -/
def StartResult.code : StartResult → Nat
  | .none => 0
  | .inProgress => 1
  | .started => 2
  | .failedPrelube => 3
  | .failedPrime => 4
  | .failedAttempts => 5
  | .abandoned => 6
  | .stoppedByCommand => 7
  | .stoppedByProtection => 8
  | .refused => 9

/-- Stop cause codes (R177). -/
def StopCause.code : StopCause → Nat
  | .none => 0
  | .command => 1
  | .autoStop => 2
  | .protection => 3
  | .startFailure => 4

/-- Crank outcome codes (R40). -/
def CrankOutcome.code : CrankOutcome → Nat
  | .inProgress => 0
  | .fired => 1
  | .noFire => 2
  | .stalled => 3
  | .slow => 4
  | .noEngage => 5
  | .battery => 6
  | .budget => 7
  | .command => 8
  | .protection => 9

/-- Channel state codes (R175). -/
def ChannelState.code : ChannelState → Nat
  | .valid => 0
  | .held => 1
  | .substituted => 2

/-- Entry state codes (R176). -/
def EntryState.code : EntryState → Nat
  | .idle => 0
  | .pending => 1
  | .active => 2
  | .held => 3

/-- Class codes (section 5.1). -/
def ProtClass.code : ProtClass → Nat
  | .alarm => 1
  | .derate => 2
  | .notchLimit => 3
  | .idleDown => 4
  | .shutdown => 5

/-- Source codes (section 6.1). -/
def Source.code : Source → Nat
  | .stand => 1
  | .trainline => 2
  | .remote => 3
  | .service => 4

/-- The source that speaks on a link (section 6.1). -/
def linkSource : Link → Source
  | .stand => .stand
  | .remote => .remote
  | .service => .service

/-- Link state codes (R176). -/
def LinkState.code : LinkState → Nat
  | .down => 0
  | .active => 1
  | .inert => 2

/-- Run request codes (R176). -/
def RunRequest.code : RunRequest → Nat
  | .none => 0
  | .start => 1
  | .stop => 2

/-- Claim outcome codes (section 7.10). -/
def ClaimOutcome.code : ClaimOutcome → Nat
  | .none => 0
  | .granted => 1
  | .refused => 2
  | .broken => 3
  | .expired => 4
  | .lapsed => 5

/-- Trainline state codes (R176). -/
def TrainlineState.code : TrainlineState → Nat
  | .absent => 0
  | .quiet => 1
  | .live => 2

/-- IRU state codes (R157). -/
def IruState.code : IruState → Nat
  | .off => 0
  | .idleDwell => 1
  | .lowIdleDwell => 2
  | .stopping => 3
  | .watch => 4
  | .restartPending => 5

/-- Group state codes (R187). -/
def GroupState.code : GroupState → Nat
  | .opened => 0
  | .locked => 1
  | .fixed => 2

/-- Result codes (R170). -/
def Result.code : Result → Nat
  | .done => 0
  | .inProgress => 1
  | .busy => 2
  | .notHolder => 3
  | .refusedState => 4
  | .badField => 5
  | .notPermitted => 6
  | .handoverBusy => 7
  | .handoverBroken => 8
  | .alreadyLatched => 9
  | .badTable => 10
  | .locked => 11
  | .doneLimited => 12

/-! ### The kind table (R169) -/

/-- ENROL -/
def kindEnrol : Byte := 0x01
/-- STATUS -/
def kindStatus : Byte := 0x02
/-- DEMAND -/
def kindDemand : Byte := 0x03
/-- CLAIM -/
def kindClaim : Byte := 0x04
/-- YIELD -/
def kindYield : Byte := 0x05
/-- TAKE -/
def kindTake : Byte := 0x06
/-- KEEP -/
def kindKeep : Byte := 0x07
/-- RESET PROTECTION -/
def kindResetProtection : Byte := 0x08
/-- RESET ALL -/
def kindResetAll : Byte := 0x09
/-- ACKNOWLEDGE -/
def kindAcknowledge : Byte := 0x0A
/-- LATCH -/
def kindLatch : Byte := 0x0B
/-- READ -/
def kindRead : Byte := 0x0C
/-- FORCE -/
def kindForce : Byte := 0x10
/-- RELEASE FORCE -/
def kindReleaseForce : Byte := 0x11
/-- MASK -/
def kindMask : Byte := 0x12
/-- UNMASK -/
def kindUnmask : Byte := 0x13
/-- WRITE ENTRY -/
def kindWriteEntry : Byte := 0x14
/-- APPLY -/
def kindApply : Byte := 0x15
/-- LOCK GROUP -/
def kindLockGroup : Byte := 0x16
/-- UNLOCK GROUP -/
def kindUnlockGroup : Byte := 0x17
/-- FIX GROUP -/
def kindFixGroup : Byte := 0x18
/-- CLEAR TRIP COUNT -/
def kindClearTripCount : Byte := 0x19

/-- Whether a KIND is a code of the kind table (R169, test 3). -/
def knownKind (k : Byte) : Bool :=
  (1 ≤ k.toNat && k.toNat ≤ 12) || (16 ≤ k.toNat && k.toNat ≤ 25)

/-- Whether a KIND is one of the Service kinds 0x10 to 0x19 (R169, test 5). -/
def serviceKind (k : Byte) : Bool := 16 ≤ k.toNat && k.toNat ≤ 25

/-! ### The check and the frames on the line (R167) -/

/-- One bit of the CRC-16: the polynomial 0x1021, most significant bit first. -/
def crcBit (r : BitVec 16) : BitVec 16 :=
  if r.msb then (r <<< 1) ^^^ 0x1021#16 else r <<< 1

/-- One byte of the CRC-16. -/
def crcByte (r : BitVec 16) (b : Byte) : BitVec 16 :=
  Nat.iterate crcBit 8 (r ^^^ (b.setWidth 16 <<< 8))

/-- The CRC-16 of a byte string: register at 0xFFFF, result not inverted. -/
def crc16 (bs : List Byte) : BitVec 16 := bs.foldl crcByte 0xFFFF#16

/-- The byte that begins a frame. -/
def syncByte : Byte := 0xC5

/-- SYNC, then the body from LENGTH on, then CHECK over the body. -/
def framed (body : List Byte) : List Byte := syncByte :: body ++ be16 (crc16 body).toNat

/-- Whether a request frame's LENGTH lies in 2 to 34, that is its payload in 0 to 32 bytes. -/
def Frame.fits (f : Frame) : Bool := f.payload.length ≤ 32

/-- A request frame on the line. -/
def requestWire (f : Frame) : List Byte :=
  framed (byte (f.payload.length + 2) :: f.kind :: f.seq :: f.payload)

/-- The bytes of a status word, byte 0 first. -/
def statusBytes (w : StatusWord) : List Byte := [w.b0, w.b1, w.b2, w.b3, w.b4, w.b5]

/-- A reply frame on the line: LENGTH is 9 plus the payload length (R170). -/
def replyWire (r : Reply) : List Byte :=
  framed (byte (r.payload.length + 9) :: r.kind :: r.seq :: byte r.result.code :: statusBytes r.status ++ r.payload)

end Sys2Proof.Machine
end

