-- ==== Sys2Proof/Machine/Operands.lean ====
section
/-! DEFINITION. The operand forms: what the payload of each request says, the trainline's wire code, and access to a
sub-record by a command's operand. -/

namespace Sys2Proof.Machine

/-! ### Sub-records by operand -/

/-- The channel record of a channel. -/
def Ins.channel (i : Ins) : Channel → ChannelRec
  | .lube => i.lube
  | .coolant => i.coolant
  | .fuel => i.fuel
  | .battery => i.battery
  | .intake => i.intake
  | .crankcase => i.crankcase

/-- Replace the channel record of a channel. -/
def Ins.setChannel (i : Ins) (c : Channel) (r : ChannelRec) : Ins :=
  match c with
  | .lube => { i with lube := r }
  | .coolant => { i with coolant := r }
  | .fuel => { i with fuel := r }
  | .battery => { i with battery := r }
  | .intake => { i with intake := r }
  | .crankcase => { i with crankcase := r }

/-- The channel the scan converts after a channel: the order of R57, and LUBE PRESSURE again after CRANKCASE PRESSURE, as
the pass repeats. -/
def scanAfter : Channel → Channel
  | .lube => .coolant
  | .coolant => .fuel
  | .fuel => .battery
  | .battery => .intake
  | .intake => .crankcase
  | .crankcase => .lube

/-- The record of a discrete input. -/
def Ins.discrete (i : Ins) : Discrete → DiscreteRec
  | .emergencyStop => i.emergencyStop
  | .turningGear => i.turningGear
  | .groundRelay => i.groundRelay
  | .starterEngaged => i.starterEngaged

/-- Replace the record of a discrete input. -/
def Ins.setDiscrete (i : Ins) (d : Discrete) (r : DiscreteRec) : Ins :=
  match d with
  | .emergencyStop => { i with emergencyStop := r }
  | .turningGear => { i with turningGear := r }
  | .groundRelay => { i with groundRelay := r }
  | .starterEngaged => { i with starterEngaged := r }

/-- The filter of a trainline wire. -/
def Wires.wire (w : Wires) : Wire → WireFilter
  | .w1 => w.w1
  | .w2 => w.w2
  | .w3 => w.w3
  | .w4 => w.w4
  | .run => w.run
  | .stop => w.stop

/-- Replace the filter of a trainline wire. -/
def Wires.setWire (w : Wires) (x : Wire) (f : WireFilter) : Wires :=
  match x with
  | .w1 => { w with w1 := f }
  | .w2 => { w with w2 := f }
  | .w3 => { w with w3 := f }
  | .w4 => { w with w4 := f }
  | .run => { w with run := f }
  | .stop => { w with stop := f }

/-- The framed source entry of a link. -/
def Aut.source (a : Aut) : Link → FramedSource
  | .stand => a.stand
  | .remote => a.remote
  | .service => a.service

/-- Replace the framed source entry of a link. -/
def Aut.setSource (a : Aut) (l : Link) (f : FramedSource) : Aut :=
  match l with
  | .stand => { a with stand := f }
  | .remote => { a with remote := f }
  | .service => { a with service := f }

/-- The interface of a link. -/
def Links.link (x : Links) : Link → LinkIf
  | .stand => x.stand
  | .remote => x.remote
  | .service => x.service

/-- Replace the interface of a link. -/
def Links.setLink (x : Links) (l : Link) (f : LinkIf) : Links :=
  match l with
  | .stand => { x with stand := f }
  | .remote => { x with remote := f }
  | .service => { x with service := f }

/-- The record of a protection entry. -/
def Pru.entry (p : Pru) (e : Entry) : EntryRec := p.entries[e]

/-- Replace the record of a protection entry. -/
def Pru.setEntry (p : Pru) (e : Entry) (r : EntryRec) : Pru := { p with entries := p.entries.set e r }

/-- Change every protection entry alike. -/
def Pru.mapEntries (f : EntryRec → EntryRec) (p : Pru) : Pru :=
  { p with entries := ⟨⟨p.entries.toList.map f⟩, by simp⟩ }

/-- The sixteen entries in table order. -/
def allEntries : List Entry := [0, 1, 2, 3, 4, 5, 6, 7, 8, 9, 10, 11, 12, 13, 14, 15]

/-- The entry a payload of exactly one byte names (R91, R94, R95). -/
def entryOperand : List Byte → Option Entry
  | [b] => if h : b.toNat < 16 then some ⟨b.toNat, h⟩ else none
  | _ => none

/-- The group a payload of exactly one byte names (R180). -/
def groupOperand : List Byte → Option (Fin 5)
  | [b] => if h : b.toNat < 5 then some ⟨b.toNat, h⟩ else none
  | _ => none

/-! ### ENROL and DEMAND -/

/-- Whether a link may enrol (R102, link permitted). -/
def linkPermitted (t : Table) : Link → Bool
  | .stand => true
  | .remote => t.remoteEnable
  | .service => t.serviceEnable

/-- The envelope of an ENROL payload that passes the five checks of R102. -/
def enrolOperand (t : Table) (l : Link) : List Byte → Option Envelope
  | [role, maxNotch, flags, interval] =>
    if role.toNat = (linkSource l).code ∧ linkPermitted t l ∧ 10 ≤ interval.toNat ∧ interval.toNat ≤ 200 ∧
        maxNotch.toNat ≤ 8 then
      some
        { maxNotch := maxNotch.toNat, mayStart := flags.getLsbD 0, mayStop := flags.getLsbD 1,
          autoStop := flags.getLsbD 2, interval := interval.toNat }
    else none
  | _ => none

/-- The run request a byte codes (section 6.5). -/
def runOperand (b : Byte) : Option RunRequest :=
  if b = 0 then some .none else if b = 1 then some .start else if b = 2 then some .stop else none

/-- The notch and run request of a DEMAND payload that passes the field test of R108. -/
def demandOperand : List Byte → Option (Nat × RunRequest)
  | [notch, run] => if notch.toNat ≤ 8 then (runOperand run).map fun r => (notch.toNat, r) else none
  | _ => none

/-! ### WRITE ENTRY and FORCE -/

/-- The identity and value of a WRITE ENTRY payload, and the field's range, where the field exists (R181). -/
def writeOperand : List Byte → Option (Fin 5 × Nat × Int × FieldSpec)
  | [g, f, hi, lo] =>
    if h : g.toNat < 5 then
      (fieldSpec g.toNat f.toNat).map fun spec => (⟨g.toNat, h⟩, f.toNat, intOf hi lo, spec)
    else none
  | _ => none

/-- The channel of a FORCE target 1 to 6, in scan order (R185). -/
def channelTarget (n : Nat) : Option Channel :=
  match n with
  | 1 => some .lube
  | 2 => some .coolant
  | 3 => some .fuel
  | 4 => some .battery
  | 5 => some .intake
  | 6 => some .crankcase
  | _ => none

/-- The discrete input of a FORCE target 7 to 10 (R185). -/
def discreteTarget (n : Nat) : Option Discrete :=
  match n with
  | 7 => some .emergencyStop
  | 8 => some .turningGear
  | 9 => some .groundRelay
  | 10 => some .starterEngaged
  | _ => none

/-- What a FORCE asks for (R185). -/
inductive ForceValue where
  | speed (rpm : Nat)
  | channel (c : Channel) (v : Int)
  | discrete (d : Discrete) (v : Bool)
  | wires (w : WireLevels)
  deriving DecidableEq, Repr

/-- The wire levels in bits 0 to 5 of a byte; bits 6 and 7 are not read (R185, log 17). -/
def wireBits (b : Byte) : WireLevels :=
  ⟨b.getLsbD 0, b.getLsbD 1, b.getLsbD 2, b.getLsbD 3, b.getLsbD 4, b.getLsbD 5⟩

/-- The force of a FORCE payload that passes the field test of R185. -/
def forceOperand : List Byte → Option ForceValue
  | [target, hi, lo] =>
    let v := intOf hi lo
    if target = 0 then
      if 0 ≤ v ∧ v ≤ 1600 then some (.speed v.toNat) else none
    else
      match channelTarget target.toNat with
      | some c => if (channelRange c).1 ≤ v ∧ v ≤ (channelRange c).2 then some (.channel c v) else none
      | none => none
  | [target, b] =>
    if target = 11 then some (.wires (wireBits b))
    else
      match discreteTarget target.toNat with
      | some d => if b = 0 then some (.discrete d false) else if b = 1 then some (.discrete d true) else none
      | none => none
  | _ => none

/-! ### READ (R174) -/

/-- The seven READ targets. -/
inductive ReadTarget where
  | latched
  | crankHistory
  | protection
  | analog
  | sources
  | configuration
  | runRecord
  deriving DecidableEq, Repr

/-- The target a target byte names. -/
def readTargetOf (b : Byte) : Option ReadTarget :=
  match b.toNat with
  | 0 => some .latched
  | 1 => some .crankHistory
  | 2 => some .protection
  | 3 => some .analog
  | 4 => some .sources
  | 5 => some .configuration
  | 6 => some .runRecord
  | _ => none

/-- The target of a READ payload, where it names one. -/
def readTarget : List Byte → Option ReadTarget
  | [] => none
  | b :: _ => readTargetOf b

/-- Whether a READ payload belongs to the row of target `t`: it names `t`, or it names no target, and then every READ row
answers it alike, BAD FIELD (log 12). -/
def readRow (t : ReadTarget) (payload : List Byte) : Bool :=
  match readTarget payload with
  | some u => u = t
  | none => true

/-! ### The trainline's wire code (R113) -/

/-- The notch of a wire code W1W2W3W4, where the code is valid. -/
def codeNotch (w1 w2 w3 w4 : Bool) : Option Nat :=
  match w1, w2, w3, w4 with
  | false, false, false, false => some 0
  | false, false, false, true => some 1
  | false, false, true, true => some 2
  | false, false, true, false => some 3
  | false, true, true, false => some 4
  | false, true, true, true => some 5
  | false, true, false, true => some 6
  | false, true, false, false => some 7
  | true, true, false, false => some 8
  | _, _, _, _ => none

/-- The notch the wire levels stand for. -/
def WireLevels.notch (w : WireLevels) : Option Nat := codeNotch w.w1 w.w2 w.w3 w.w4

end Sys2Proof.Machine
end

