-- ==== Sys2Proof/Machine/Flags.lean ====
section
/-! DEFINITION. What is computed from the state and held nowhere else: the families of engine states, the class summary and
the other hand-offs of PRU, the hand-offs of AUT, the effective notch, the idle reduction conditions, the status word and
the level ATTN is to show. -/

namespace Sys2Proof.Machine

/-! ### Families of engine states and the outputs of each (R2) -/

/-- at rest: STOPPED, AUTO STOPPED, LOCKED OUT -/
def Engine.atRest : Engine → Bool
  | .stopped | .autoStopped | .lockedOut => true
  | _ => false

/-- starting: PRELUBE, PRIMING, CRANKING, CRANK REST, ACCELERATING -/
def Engine.starting : Engine → Bool
  | .prelube | .priming | .cranking | .crankRest | .accelerating => true
  | _ => false

/-- running: RUNNING, UNLOADING -/
def Engine.runningFamily : Engine → Bool
  | .running | .unloading => true
  | _ => false

/-- PRELUBE PUMP of a state (R2) -/
def prelubePumpIn : Engine → Bool
  | .prelube | .priming | .cranking => true
  | _ => false

/-- FUEL PUMP of a state (R2) -/
def fuelPumpIn : Engine → Bool
  | .priming | .cranking | .crankRest | .accelerating | .running | .unloading => true
  | _ => false

/-- STARTER of a state (R2) -/
def starterIn : Engine → Bool
  | .cranking => true
  | _ => false

/-- FUEL ENABLE of a state, given the crank fuel latch (R2) -/
def fuelEnableIn (e : Engine) (crankFuelLatch : Bool) : Bool :=
  match e with
  | .cranking => crankFuelLatch
  | .accelerating | .running | .unloading => true
  | _ => false

/-! ### PRU's entries (section 5.1) -/

/-- The class of an entry. -/
def classOf (e : Entry) : ProtClass :=
  if e.val ≤ 5 then .shutdown
  else if e.val ≤ 7 then .idleDown
  else if e.val ≤ 9 then .notchLimit
  else if e.val ≤ 11 then .derate
  else .alarm

/-- Whether an entry is latching: the SHUTDOWN and IDLE-DOWN entries are. -/
def latching (e : Entry) : Bool := e.val ≤ 7

/-- An entry's trip limit, where it has one (R93). -/
def tripLimit (t : Table) (e : Entry) : Option Nat :=
  if e.val = 1 then some t.overspeedTripLimit
  else if e.val = 7 then some t.groundTripLimit
  else none

/-- Whether an entry's trip count is at or above its trip limit. -/
def overTripLimit (t : Table) (e : Entry) (r : EntryRec) : Bool :=
  match tripLimit t e with
  | some n => n ≤ r.tripCount
  | none => false

/-- in service: ACTIVE or HELD (R74) -/
def EntryRec.inService (r : EntryRec) : Bool :=
  match r.state with
  | .active | .held => true
  | .idle | .pending => false

/-- Whether any SHUTDOWN-class entry is in service (R84). -/
def Pru.shutdownInService (p : Pru) : Bool :=
  allEntries.any fun e => classOf e = .shutdown && (p.entry e).inService

/-- the idle-down flag (R85) -/
def Pru.idleDown (p : Pru) : Bool :=
  allEntries.any fun e => (classOf e = .shutdown || classOf e = .idleDown) && (p.entry e).inService

/-- the lowest notch limit (R86): 3 for COLD ENGINE, 4 for LOW FUEL PRESSURE -/
def Pru.notchLimit (p : Pru) : Option Nat :=
  if (p.entry 9).state = .active then some 3
  else if (p.entry 8).state = .active then some 4
  else none

/-- the derate percentage handed to NTU (R87) -/
def Pru.deratePct (p : Pru) : Int :=
  min (if (p.entry 10).state = .active then p.coolantPct else 100)
    (if (p.entry 11).state = .active then p.intakePct else 100)

/-- the governing entry (R88) -/
def Pru.governing (p : Pru) : Option Entry := allEntries.find? fun e => (p.entry e).inService

/-- the more-than-one flag (R88) -/
def Pru.moreThanOne (p : Pru) : Bool := 2 ≤ (allEntries.filter fun e => (p.entry e).inService).length

/-- whether the bell is to sound (R89) -/
def Pru.bellWanted (p : Pru) : Bool :=
  allEntries.any fun e => (p.entry e).inService && !(p.entry e).acknowledged

/-- a derate percentage at temperature `v` (R87) -/
def deratePercent (start stop floorPct v : Int) : Int :=
  if v ≤ start then 100
  else if stop ≤ v then floorPct
  else 100 - (v - start) * (100 - floorPct) / (stop - start)

/-- the low lube threshold at a measured speed (R82) -/
def lubeThreshold (t : Table) (speed : Nat) : Int :=
  let idle : Int := t.speedAt 0
  let n8 : Int := t.speedAt 8
  if (speed : Int) ≤ idle then t.lubeLowIdle
  else if n8 ≤ (speed : Int) then t.lubeLowN8
  else t.lubeLowIdle + (speed - idle) * (t.lubeLowN8 - t.lubeLowIdle) / (n8 - idle)

/-! ### INS, SPD and the crank history -/

/-- the discrete state an input's consumer sees: the forced state, else the debounced one (R72) -/
def DiscreteRec.used (d : DiscreteRec) : Bool := d.forced.getD d.debounced

/-- the SENSOR RANGE condition (R64) -/
def Ins.sensorRange (i : Ins) : Bool :=
  i.lube.state = .substituted || i.coolant.state = .substituted || i.fuel.state = .substituted ||
    i.battery.state = .substituted || i.intake.state = .substituted || i.crankcase.state = .substituted

/-- the PICKUP FAULT condition (R46) -/
def Spd.pickupFault (s : Spd) : Bool := s.a.failed || s.b.failed || s.speedDisagree

/-- used starter time, in tenths of a second (section 2.4) -/
def usedStarterTime (h : List CrankRecord) : Nat := (h.map (·.duration)).sum

/-- Whether any force is active (R185). -/
def forcesActive (s : State) : Bool :=
  s.spd.force.isSome || s.ins.lube.forced.isSome || s.ins.coolant.forced.isSome || s.ins.fuel.forced.isSome ||
    s.ins.battery.forced.isSome || s.ins.intake.forced.isSome || s.ins.crankcase.forced.isSome ||
    s.ins.emergencyStop.forced.isSome || s.ins.turningGear.forced.isSome || s.ins.groundRelay.forced.isSome ||
    s.ins.starterEngaged.forced.isSome || s.aut.trainline.forced.isSome

/-! ### AUT's hand-offs (R111, R118) -/

/-- The link a source speaks on. -/
def sourceLink : Source → Option Link
  | .stand => some .stand
  | .trainline => none
  | .remote => some .remote
  | .service => some .service

/-- Whether the source of a link holds authority. -/
def Aut.holds (a : Aut) (l : Link) : Bool := a.holder = some (linkSource l)

/-- the holder demand (R111) -/
def Aut.holderDemand (a : Aut) : Nat :=
  match a.holder with
  | none => 0
  | some .trainline => a.trainline.effective
  | some .stand => a.stand.demand
  | some .remote => a.remote.demand
  | some .service => a.service.demand

/-- The max notch of a framed source's envelope; 0 while it is absent. -/
def FramedSource.maxNotch (f : FramedSource) : Nat :=
  match f.envelope with
  | some e => e.maxNotch
  | none => 0

/-- the holder's envelope maximum (R111); the trainline's is 8 (R101), and with no holder it is 0 (R139) -/
def Aut.envelopeMax (a : Aut) : Nat :=
  match a.holder with
  | none => 0
  | some .trainline => 8
  | some .stand => a.stand.maxNotch
  | some .remote => a.remote.maxNotch
  | some .service => a.service.maxNotch

/-- the holder's fresh flag; clear when the holder is NONE (R135) -/
def Aut.holderFresh (a : Aut) : Bool :=
  match a.holder with
  | none => false
  | some .trainline => a.trainline.fresh
  | some .stand => a.stand.fresh
  | some .remote => a.remote.fresh
  | some .service => a.service.fresh

/-- The auto stop field of a framed source's envelope. -/
def FramedSource.autoStop (f : FramedSource) : Bool :=
  match f.envelope with
  | some e => e.autoStop
  | none => false

/-- the auto-stop permission (R118) -/
def autoStopPermitted (s : State) : Bool :=
  match s.aut.holder with
  | none => true
  | some .trainline => s.cfg.active.trainlineAutoStop
  | some .stand => s.aut.stand.autoStop
  | some .remote => s.aut.remote.autoStop
  | some .service => s.aut.service.autoStop

/-- Whether a handover stands in a stage. -/
def Aut.inStage (a : Aut) (g : Stage) : Bool :=
  match a.handover with
  | some h => h.stage = g
  | none => false

/-- The debounced levels of the six wires (R112). -/
def Wires.debouncedLevels (w : Wires) : WireLevels :=
  ⟨w.w1.debounced, w.w2.debounced, w.w3.debounced, w.w4.debounced, w.run.debounced, w.stop.debounced⟩

/-- The line levels of the six wires. -/
def Wires.lineLevels (w : Wires) : WireLevels :=
  ⟨w.w1.level, w.w2.level, w.w3.level, w.w4.level, w.run.level, w.stop.level⟩

/-- The levels the decoder, the state and the STOP hold use: the forced ones, else the debounced ones (R117). -/
def Trainline.used (t : Trainline) : WireLevels := t.forced.getD t.wires.debouncedLevels

/-- The trainline state that TRAINLINE FOLLOW and a RUN level give (R101). -/
def trainlineStateOf (follow run : Bool) : TrainlineState :=
  if follow then (if run then .live else .quiet) else .absent

/-- The TRAINLINE CODE condition (R114). -/
def Trainline.codeFault (t : Trainline) : Bool := t.invalid && !decide (t.state = .absent)

/-! ### NTU -/

/-- the effective notch E (R140) -/
def effectiveNotch (s : State) : Nat :=
  if s.rsq.engine ≠ .running ∨ s.aut.holder = none ∨ s.pru.idleDown = true then 0
  else
    let base := min (min s.aut.holderDemand s.aut.envelopeMax) (min (s.pru.notchLimit.getD 8) 8)
    let captured := if s.aut.holderFresh then base else min base s.ntu.applied
    if s.aut.inStage .awaitTake then min captured s.ntu.applied else captured

/-- whether the speed of a notch's position is confirmed (R143) -/
def speedConfirmed (s : State) (p : Nat) : Bool :=
  (s.cfg.active.speedAt p : Int) - s.cfg.active.band ≤ (s.spd.measured : Int)

/-- the confirmed position c (R151): the highest confirmed notch from 0 to `p`, 0 when none is -/
def confirmedPosition (s : State) : Nat → Nat
  | 0 => 0
  | p + 1 => if speedConfirmed s (p + 1) then p + 1 else confirmedPosition s p

/-- the load target (R151) -/
def loadTargetNow (s : State) : Nat :=
  if s.ntu.loadPermit then
    let q := min (min s.ntu.applied s.ntu.e) (confirmedPosition s s.ntu.applied)
    ((s.cfg.active.loadAt q : Int) * s.pru.deratePct / 100).toNat
  else 0

/-- whether LOAD PERMIT is to be energised (R150) -/
def loadPermitWanted (s : State) : Bool :=
  s.rsq.engine.runningFamily && 1 ≤ s.ntu.applied && !s.pru.idleDown

/-- the governor setpoint (R153) -/
def setpointOf (t : Table) (e : Engine) (n : Ntu) : Nat :=
  match e with
  | .running | .unloading => if n.lowIdle then t.lowIdleSpeed else t.speedAt n.applied
  | .accelerating => t.speedAt 0
  | _ => 0

/-- A duty output in per mille, clamped to 0 to 1000 (R153, R154). -/
def perMille (v : Int) : Nat := (max 0 (min 1000 v)).toNat

/-- GOVERNOR REF of a setpoint (R153) -/
def governorRefOf (t : Table) (setpoint : Nat) : Nat :=
  perMille (((setpoint : Int) - t.govZero) * 1000 / t.govSpan)

/-- EXCITATION REF of a load reference (R154) -/
def excitationRefOf (t : Table) (loadRef : Nat) : Nat := perMille ((loadRef * 1000 / t.loadMax : Nat) : Int)

/-! ### IRU -/

/-- the idle reduction conditions (R158) -/
def idleConditions (s : State) : Bool :=
  s.rsq.engine = .running && s.ntu.applied = 0 && s.ntu.e = 0 && !s.ntu.loadPermit && s.cfg.active.airEnable &&
    autoStopPermitted s && s.cfg.active.airCoolantMin ≤ s.ins.coolant.given &&
    s.cfg.active.airBatteryMin ≤ s.ins.battery.given &&
    (match s.pru.governing with
      | none => true
      | some e => classOf e = .alarm) &&
    s.aut.handover.isNone && !forcesActive s

/-! ### RSQ's permissives (R5, R36) -/

/-- The first start permissive that fails, in the order of R5. -/
def failingPermissive (s : State) : Option Reason :=
  if s.ins.turningGear.used then some .turningGear
  else if s.ins.battery.given < s.cfg.active.crankMin then some .battery
  else if 6 ≤ s.rsq.history.length then some .crankCount
  else if s.cfg.active.crankBudget < usedStarterTime s.rsq.history + 50 then some .budget
  else if forcesActive s then some .forced
  else if s.cfg.defaulted then some .defaulted
  else none

/-- The state at rest that R23 names. -/
def restState (s : State) : Engine :=
  if s.pru.shutdownInService then .lockedOut
  else if s.rsq.stopCause = .autoStop then .autoStopped
  else .stopped

/-! ### The status word and ATTN (R171, R172) -/

/-- The claimant's source code, 0 when there is no handover. -/
def Aut.claimantCode (a : Aut) : Nat :=
  match a.handover with
  | some h => (linkSource h.claimant).code
  | none => 0

/-- The holder code, 0 for NONE. -/
def Aut.holderCode (a : Aut) : Nat :=
  match a.holder with
  | some h => h.code
  | none => 0

/-- Status word byte 2 (R171). -/
def statusByte2 (s : State) (l : Link) : Nat :=
  flag s.ntu.lowIdle 0 + flag s.ntu.loadPermit 1 + flag s.aut.handover.isSome 2 +
    flag (s.aut.handover.isSome && s.aut.holds l) 3 + flag (forcesActive s) 4 + flag s.cfg.defaulted 5 +
    flag s.iru.restartRefused 6 + flag s.pru.bell 7

/-- Status word byte 3 (R171). -/
def statusByte3 (s : State) (l : Link) : Nat :=
  s.aut.holderCode + flag (s.aut.holds l) 3 + (s.aut.source l).outcome.code * 16 + flag (s.links.link l).overflow 7

/-- Status word byte 4 (R171). -/
def statusByte4 (p : Pru) : Nat :=
  match p.governing with
  | some e => e.val + (classOf e).code * 16 + flag p.moreThanOne 7
  | none => 0

/-- The status word built for a link (R171). -/
def statusWord (s : State) (l : Link) : StatusWord where
  b0 := byte s.rsq.engine.code
  b1 := byte s.ntu.applied
  b2 := byte (statusByte2 s l)
  b3 := byte (statusByte3 s l)
  b4 := byte (statusByte4 s.pru)
  b5 := byte (s.ntu.e + s.iru.state.code * 16)

/-- The level ATTN of a link is to show (R172). -/
def attnWanted (s : State) (l : Link) : Bool :=
  (s.aut.source l).linkState = .active && (s.links.link l).lastReturned ≠ some (statusWord s l)

end Sys2Proof.Machine
end

