-- ==== Sys2Proof/Machine/Ops.lean ====
section
/-! DEFINITION. The shared operations. First the updates of one block, then the operations that carry one event through the
blocks: a change of engine state, an event at the protection table, the ends and beginnings of a start, a change of holder,
the settling of NTU and IRU at the end of an event, and the reply to a request. What one block hands another happens inside
the same step, in the order of log 7. -/

namespace Sys2Proof.Machine

/-! ### Updates of one block -/

/-- Change RSQ. -/
def State.mapRsq (f : Rsq → Rsq) (s : State) : State := { s with rsq := f s.rsq }
/-- Change SPD. -/
def State.mapSpd (f : Spd → Spd) (s : State) : State := { s with spd := f s.spd }
/-- Change INS. -/
def State.mapIns (f : Ins → Ins) (s : State) : State := { s with ins := f s.ins }
/-- Change PRU. -/
def State.mapPru (f : Pru → Pru) (s : State) : State := { s with pru := f s.pru }
/-- Change AUT. -/
def State.mapAut (f : Aut → Aut) (s : State) : State := { s with aut := f s.aut }
/-- Change NTU. -/
def State.mapNtu (f : Ntu → Ntu) (s : State) : State := { s with ntu := f s.ntu }
/-- Change IRU. -/
def State.mapIru (f : Iru → Iru) (s : State) : State := { s with iru := f s.iru }
/-- Change the link interfaces. -/
def State.mapLinks (f : Links → Links) (s : State) : State := { s with links := f s.links }
/-- Change CFG. -/
def State.mapCfg (f : Cfg → Cfg) (s : State) : State := { s with cfg := f s.cfg }

/-- Change the interface of one link. -/
def State.mapLink (l : Link) (f : LinkIf → LinkIf) (s : State) : State :=
  s.mapLinks fun x => x.setLink l (f (x.link l))
/-- Change the source table entry of one link. -/
def State.mapSource (l : Link) (f : FramedSource → FramedSource) (s : State) : State :=
  s.mapAut fun a => a.setSource l (f (a.source l))
/-- Change the sequence timers. -/
def State.mapTimers (f : SeqTimers → SeqTimers) (s : State) : State :=
  s.mapRsq fun r => { r with timers := f r.timers }
/-- Change one channel record. -/
def State.mapChannel (c : Channel) (f : ChannelRec → ChannelRec) (s : State) : State :=
  s.mapIns fun i => i.setChannel c (f (i.channel c))
/-- Change one discrete input's record. -/
def State.mapDiscrete (d : Discrete) (f : DiscreteRec → DiscreteRec) (s : State) : State :=
  s.mapIns fun i => i.setDiscrete d (f (i.discrete d))

/-- Add 1 to a count that stays at `top` (R29, R74, R178). -/
def satInc (top n : Nat) : Nat := if n < top then n + 1 else top

/-! ### PRU: one entry's moves (R75 to R78, R95) -/

/-- Energise the bell exactly when it is wanted (R89). -/
def ringBell (p : Pru) : Pru := { p with bell := p.bellWanted }

/-- The record of an entry that has just entered service (R77). -/
def EntryRec.entered (r : EntryRec) : EntryRec :=
  { r with state := .active, tripCount := satInc 65535 r.tripCount, acknowledged := false }

/-- The record of an entry that has just left service for IDLE (R77). -/
def EntryRec.left (r : EntryRec) : EntryRec := { r with state := .idle, acknowledged := true }

/-- An entry's record after its condition becomes `v` (R75). A value it already has changes no state. -/
def EntryRec.withCondition (isLatching : Bool) (v : Bool) (r : EntryRec) : EntryRec :=
  if r.condition = v then r
  else
    let r := { r with condition := v }
    match r.state, v with
    | .idle, true => if r.masked then { r with state := .pending } else r.entered
    | .held, true => { r with state := .active }
    | .pending, false => { r with state := .idle }
    | .active, false => if isLatching then { r with state := .held } else r.left
    | _, _ => r

/-- Set the condition of an entry; its filter timer is stopped whenever the condition is true (R75, R78). -/
def setCondition (e : Entry) (v : Bool) (p : Pru) : Pru :=
  let r := (p.entry e).withCondition (latching e) v
  p.setEntry e (if v then { r with filter := none } else r)

/-- Judge an entry on an arrival of its input (R78): whether the value passes the set test, whether it passes the clear
test, and the filter time in ms where there is one. -/
def judge (e : Entry) (setTest clearTest : Bool) (filter : Option Nat) (p : Pru) : Pru :=
  let r := p.entry e
  if r.condition then (if clearTest then setCondition e false p else p)
  else
    match filter with
    | none => if setTest then setCondition e true p else p
    | some ms =>
      if setTest then (if r.filter.isNone then p.setEntry e { r with filter := some ms } else p)
      else p.setEntry e { r with filter := none }

/-- A report of an event entry (R76): from IDLE it enters service and is HELD in the same event; a HELD entry stays so. -/
def reportEvent (e : Entry) (p : Pru) : Pru :=
  let r := p.entry e
  match r.state with
  | .idle => p.setEntry e { r.entered with state := .held }
  | _ => p

/-- The condition turned false and the filter cancelled, where what the entry is judged under ends (R80, R81). -/
def withdrawCondition (e : Entry) (p : Pru) : Pru :=
  let q := setCondition e false p
  q.setEntry e { q.entry e with filter := none }

/-- Clear an entry's mask; a PENDING entry enters service (R75, R95). -/
def EntryRec.unmasked (r : EntryRec) : EntryRec :=
  let r := { r with masked := false }
  match r.state with
  | .pending => r.entered
  | _ => r

/-! ### RSQ: the crank history (chapter 2) -/

/-- Change the newest record of a history. -/
def modifyNewest (f : CrankRecord → CrankRecord) : List CrankRecord → List CrankRecord
  | [] => []
  | [r] => [f r]
  | r :: rest => r :: modifyNewest f rest

/-- The newest record of a history. -/
def newest (h : List CrankRecord) : Option CrankRecord := h.getLast?

/-- Whether a record is open and IN PROGRESS (R31). -/
def CrankRecord.cranking (r : CrankRecord) : Bool := r.isOpen && r.outcome = .inProgress

/-- The elapsed duration of the open IN PROGRESS record; 0 when there is none. -/
def elapsedCranking (h : List CrankRecord) : Nat :=
  match newest h with
  | some r => if r.cranking then r.duration else 0
  | none => 0

/-- Add a written duration to the crank accumulator and CRANK SECONDS (R29). -/
def addCrankTime (tenths : Nat) (c : EngineCounters) : EngineCounters :=
  let total := c.crankAcc + tenths
  { c with crankSeconds := min 65535 (c.crankSeconds + total / 10), crankAcc := total % 10 }

/-- Open a record, as RSQ enters CRANKING, and start the budget timer with the headroom (R33). -/
def openRecord (budgetTenths : Nat) (battery : Int) (r : Rsq) : Rsq :=
  { r with
    budget := some (budgetTenths - usedStarterTime r.history)
    history := r.history ++
      [{ startedAt := r.minute, attempt := r.attempt, duration := 0, outcome := .inProgress, cold := r.cold,
         batteryMin := some battery, age := 0, isOpen := true }] }

/-- Write the open record at the attempt's end or firing (R34): the budget timer stops, the duration `tenths` and the
outcome are written, the battery minimum is frozen or, for NO ENGAGE, removed, and the record closes unless it FIRED. The
duration is added to the crank accumulator (R29). -/
def writeAttempt (o : CrankOutcome) (tenths : Nat) (r : Rsq) : Rsq :=
  { r with
    budget := none
    counters := addCrankTime tenths r.counters
    history := modifyNewest
      (fun c =>
        { c with
          duration := tenths
          outcome := o
          batteryMin := if o = .noEngage then none else c.batteryMin
          isOpen := decide (o = .fired) })
      r.history }

/-- Finish a FIRED record: keep FIRED, or change the outcome, and close it; the duration stays (R14, R34). -/
def closeFired (o : CrankOutcome) (r : Rsq) : Rsq :=
  { r with history := modifyNewest (fun c => { c with outcome := o, isOpen := false }) r.history }

/-- The cranking time elapsed when a timer started at the entry to CRANKING expires: that timer's duration, in tenths; the
budget timer, had it been shorter, would have expired first (log 3). -/
def elapsedAtExpiry (t : Timer) (r : Rsq) : Nat :=
  let tenths := t.getD 0 / 100
  min tenths (r.budget.getD tenths)

/-- The cranking time, in tenths, at which the first of the budget, crank limit and engage timers that run is due: no
duration passes it, nor 600 (R31, R33, log 3). -/
def crankingDue (r : Rsq) : Nat :=
  min 600
    (min (r.budget.getD 600) (min (r.timers.crankLimit.getD 60000 / 100) (r.timers.engage.getD 60000 / 100)))

/-- A minute tick at the history (R37): ages increment, then final records at CRANK WINDOW or beyond leave. -/
def ageHistory (window : Nat) (h : List CrankRecord) : List CrankRecord :=
  (h.map fun c => { c with age := c.age + 1 }).filter fun c => c.isOpen || c.age < window

/-- One speed window, a tenth of a second, of cranking (R33, R41): the open record's elapsed duration grows, but not past
the moment at which the budget, crank limit or engage timer is due. That an attempt begins on a window boundary, so that
its elapsed tenths are the windows it has lasted, is a DESIGN CHOICE (log 3). -/
def tickCranking (r : Rsq) : Rsq :=
  { r with
    history := modifyNewest
      (fun c => if c.cranking && c.duration < crankingDue r then { c with duration := c.duration + 1 } else c) r.history }

/-! ### RSQ: entering an engine state (R2) -/

/-- The engine state and the outputs it commands change together (R2). Every sequence timer is cancelled except the lube
arming timer, which runs on while FUEL ENABLE stays energised; where FUEL ENABLE is off, it is cancelled and lube armed
clears (R13, log 11). -/
def enterState (new : Engine) (r : Rsq) : Rsq :=
  let fuel := fuelEnableIn new r.crankFuelLatch
  { r with
    engine := new
    prelubePump := prelubePumpIn new
    fuelPump := fuelPumpIn new
    starter := starterIn new
    fuelEnable := fuel
    timers := { stoppedTimers with lubeArming := if fuel then r.timers.lubeArming else none }
    lubeArmed := r.lubeArmed && fuel }

/-! ### AUT: the end of a handover -/

/-- End the handover in flight with an outcome for its claimant (R125, R127, R129, R130, R132). -/
def endHandover (o : ClaimOutcome) (s : State) : State :=
  match s.aut.handover with
  | some h =>
    (s.mapSource h.claimant fun f => { f with outcome := o }).mapAut fun a => { a with handover := none }
  | none => s

/-! ### NTU: the pieces of its work -/

/-- Set the governor setpoint by the engine state; GOVERNOR REF follows at each change of the setpoint (R153). -/
def refreshGovernor (s : State) : State :=
  let p := setpointOf s.cfg.active s.rsq.engine s.ntu
  if s.ntu.setpoint = p then s
  else s.mapNtu fun n => { n with setpoint := p, governorRef := governorRefOf s.cfg.active p }

/-- LOAD PERMIT off, then load reference, load target and EXCITATION REF to 0 (R146, R147, R150). -/
def dropLoad (n : Ntu) : Ntu :=
  { n with loadPermit := false, loadRef := 0, loadTarget := 0, excitationRef := 0 }

/-- The idle-down jump (R146): load off, then the applied notch to 0 and the dwell timer stopped. -/
def idleDownJump (s : State) : State :=
  refreshGovernor (s.mapNtu fun n => { dropLoad n with applied := 0, dwell := none })

/-- NTU at a change of engine state (R147), but for the tests that stand at the end of the event (`settle`). -/
def ntuEngineChange (old new : Engine) (s : State) : State :=
  let s1 :=
    if old.runningFamily && !new.runningFamily then
      s.mapNtu fun n =>
        { dropLoad n with applied := 0, lowIdle := false, dwell := none, unloadReported := false }
    else if old = .unloading && new = .running then s.mapNtu fun n => { n with unloadReported := false }
    else if old = .accelerating && new = .running then
      s.mapNtu fun n => { n with dwell := some ⟨.up, s.cfg.active.upDwell 0⟩ }
    else s
  refreshGovernor s1

/-! ### IRU: the pieces of its work -/

/-- IRU goes OFF: every timer cancelled, the low-idle request withdrawn, demand seen clear (R160, R161, R164). -/
def iruOff (i : Iru) : Iru :=
  { i with
    state := .off, idleDwell := none, lowIdleDwell := none, autoStop := none, batteryLow := none
    lowIdleRequest := false, demandSeen := false }

/-- RSQ takes a restart trigger in RUNDOWN: restart pending sets if the stop cause is AUTO STOP (R24). -/
def noteRestart (s : State) : State :=
  if s.rsq.engine = .rundown ∧ s.rsq.stopCause = .autoStop then s.mapRsq fun r => { r with restartPending := true }
  else s

/-- IRU enters RESTART PENDING and hands RSQ the restart trigger (R161, R162). -/
def handRestartTrigger (s : State) : State :=
  noteRestart (s.mapIru fun i => { i with state := .restartPending, lowIdleRequest := false })

/-- IRU at a change of engine state (R161 to R164). -/
def iruEngineChange (old new : Engine) (s : State) : State :=
  match s.iru.state with
  | .stopping =>
    match new with
    | .rundown => if old = .unloading ∧ s.iru.demandSeen = true then handRestartTrigger s else s
    | .unloading => s
    | .autoStopped =>
      s.mapIru fun i =>
        { iruOff i with
          state := .watch, restartSent := false, autoStop := some (minutesMs s.cfg.active.autoStopMax) }
    | _ => s.mapIru iruOff
  | .restartPending =>
    match new with
    | .rundown | .autoStopped => s
    | _ => s.mapIru iruOff
  | .watch => if new = .autoStopped then s else s.mapIru iruOff
  | .off | .idleDwell | .lowIdleDwell => s

/-! ### A change of engine state, through every block (R2) -/

/-- SPD at a change of engine state: the sense-lost latch clears at rest (R51). -/
def spdEngineChange (new : Engine) (s : State) : State :=
  if new.atRest then s.mapSpd fun p => { p with senseLost := false } else s

/-- PRU at a change of engine state: LOW LUBE PRESSURE when lube armed has cleared (R81), LOW FUEL PRESSURE and COLD ENGINE
at the ways in and out of RUNNING and UNLOADING (R80). -/
def pruEngineChange (old new : Engine) (wasArmed : Bool) (s : State) : State :=
  let t := s.cfg.active
  let lube : Pru → Pru := fun p => if wasArmed && !s.rsq.lubeArmed then withdrawCondition 4 p else p
  let bound : Pru → Pru := fun p =>
    if old.runningFamily && !new.runningFamily then withdrawCondition 9 (withdrawCondition 8 p)
    else if new = .running && !old.runningFamily then
      judge 9 (s.ins.coolant.given < t.coldSet) (t.coldClear ≤ s.ins.coolant.given) none
        (judge 8 (s.ins.fuel.given < t.lowFuelSet) (t.lowFuelClear ≤ s.ins.fuel.given)
          (some (tenthsMs t.lowFuelFilter)) p)
    else p
  s.mapPru fun p => ringBell (bound (lube p))

/-- AUT at a change of engine state: a handover to SERVICE ends REFUSED when the engine leaves rest (R132). -/
def autEngineChange (new : Engine) (s : State) : State :=
  match s.aut.handover with
  | some h => if h.claimant = .service ∧ new.atRest = false then endHandover .refused s else s
  | none => s

/-- Every change of engine state is an event for every other block (R2). -/
def changeEngine (new : Engine) (s : State) : State :=
  let old := s.rsq.engine
  let wasArmed := s.rsq.lubeArmed
  iruEngineChange old new
    (ntuEngineChange old new
      (autEngineChange new (pruEngineChange old new wasArmed (spdEngineChange new (s.mapRsq (enterState new))))))

/-- RSQ changes the stop cause; a change away from AUTO STOP takes an IRU in STOPPING to OFF (R161). -/
def setStopCause (c : StopCause) (s : State) : State :=
  let s1 := s.mapRsq fun r => { r with stopCause := c }
  if s.iru.state = .stopping ∧ s.rsq.stopCause = .autoStop ∧ c ≠ .autoStop then s1.mapIru iruOff else s1

/-! ### Beginning a start (R6, R7, R27) -/

/-- The minimum prelube time RSQ chooses (R7). -/
def prelubeTime (s : State) : Int :=
  let t := s.cfg.active
  let fast : Bool :=
    s.rsq.startKind = .auto && 400 ≤ s.ins.coolant.given &&
      (match s.iru.fuelOff with
        | some m => s.rsq.minute < m + 30
        | none => false)
  if s.rsq.cold then t.prelubeCold else if fast then t.prelubeFast else t.prelubeNormal

/-- Entry to PRELUBE (R7). -/
def enterPrelube (s : State) : State :=
  (changeEngine .prelube s).mapTimers fun x =>
    { x with
      prelubeMinimum := some (tenthsMs (prelubeTime s))
      prelubeLimit := some (tenthsMs s.cfg.active.prelubeMax) }

/-- An accepted start (R6). -/
def acceptStart (k : StartKind) (s : State) : State :=
  let s1 := s.mapRsq fun r =>
    { r with
      startKind := k, cold := decide (s.ins.coolant.given < 0), attempt := 1, startResult := .inProgress
      startReason := none, stopCause := .none, restartPending := false
      counters :=
        { r.counters with
          startsRequested := satInc 65535 r.counters.startsRequested
          autoRestarts :=
            if k = .auto then satInc 65535 r.counters.autoRestarts else r.counters.autoRestarts } }
  enterPrelube (s1.mapIru fun i => { i with restartRefused := false })

/-- The start result and reason of a refused start (R5). -/
def noteRefusal (why : Reason) (s : State) : State :=
  s.mapRsq fun r => { r with startResult := .refused, startReason := some why }

/-- RSQ takes an auto restart or a restart trigger from IRU (R4, R24, R27): in AUTO STOPPED the permissives decide, in
RUNDOWN it is noted, in any other state it is dropped (log 10). A refusal takes the engine to STOPPED and is reported to
IRU (R164). -/
def autoRestart (s : State) : State :=
  match s.rsq.engine with
  | .autoStopped =>
    match failingPermissive s with
    | none => acceptStart .auto s
    | some why =>
      (changeEngine .stopped (noteRefusal why s)).mapIru fun i => { iruOff i with restartRefused := true }
  | .rundown => noteRestart s
  | _ => s

/-! ### Coming to rest (R3, R23) -/

/-- RSQ reaches the state at rest that R23 names; AUTO STOPPED with restart pending is taken as an auto restart at once,
and elsewhere restart pending clears. -/
def comeToRest (s : State) : State :=
  let new := restState s
  let s1 := (changeEngine new s).mapRsq fun r => { r with restartPending := false }
  if new = .autoStopped ∧ s.rsq.restartPending = true then autoRestart s1 else s1

/-- Entry to RUNDOWN: at measured speed 0 the zero hold timer starts with 2 s (R23). -/
def enterRundown (s : State) : State :=
  (changeEngine .rundown s).mapTimers fun x =>
    { x with zeroHold := if s.spd.measured = 0 then some 2000 else none }

/-- "to rest by R3": RUNDOWN while the measured speed is above 0, else the state at rest. -/
def toRest (s : State) : State := if 0 < s.spd.measured then enterRundown s else comeToRest s

/-! ### A SHUTDOWN in service, and the last one leaving (R25, R26) -/

/-- What a cut-off writes in the crank history: in CRANKING the open record ends, in ACCELERATING the FIRED record is
changed (R19, R25). -/
def cutAttempt (o : CrankOutcome) (s : State) : State :=
  match s.rsq.engine with
  | .cranking => s.mapRsq fun r => writeAttempt o (elapsedCranking r.history) r
  | .accelerating => s.mapRsq (closeFired o)
  | _ => s

/-- The stop cause becomes PROTECTION unless it is START FAILURE (R25). -/
def stopByProtection (s : State) : State :=
  if s.rsq.stopCause = .startFailure then s else setStopCause .protection s

/-- The start result of a start that a SHUTDOWN ends (R25). -/
def noteProtection (s : State) : State :=
  if s.rsq.engine.starting = true ∧ s.rsq.startResult = .inProgress then
    s.mapRsq fun r => { r with startResult := .stoppedByProtection }
  else s

/-- RSQ takes a SHUTDOWN entry entering service (R25); during the self-check it changes nothing (R28). -/
def takeShutdown (s : State) : State :=
  if s.cfg.checking then s
  else
    match s.rsq.engine with
    | .stopped | .autoStopped => changeEngine .lockedOut s
    | .lockedOut => s
    | .rundown => (stopByProtection s).mapRsq fun r => { r with restartPending := false }
    | _ => toRest (stopByProtection (noteProtection (cutAttempt .protection s)))

/-- RSQ takes the report that the last SHUTDOWN entry has left service (R26). -/
def takeLastLeft (s : State) : State :=
  if s.cfg.checking then s
  else
    match s.rsq.engine with
    | .lockedOut => (changeEngine .stopped s).mapRsq fun r => { r with stopCause := .none }
    | _ => s

/-! ### An event at the protection table (R77, R84, R85) -/

/-- Whether a SHUTDOWN entry has entered service between two tables. -/
def shutdownEntered (before after : Pru) : Bool :=
  allEntries.any fun e => classOf e = .shutdown && !(before.entry e).inService && (after.entry e).inService

/-- Hand on what an event at the table has changed: a SHUTDOWN in service and the last one leaving to RSQ, the idle-down
flag to NTU. The notch limit, the derate and the class summary are read where they are used. -/
def handOff (before : Pru) (s : State) : State :=
  let s1 := if shutdownEntered before s.pru then takeShutdown s else s
  let s2 := if before.shutdownInService && !s.pru.shutdownInService then takeLastLeft s1 else s1
  if !before.idleDown && s.pru.idleDown then idleDownJump s2 else s2

/-- One event at the protection table: its entries move by `f`, the bell follows, and what has changed is handed on. -/
def pruEvent (f : Pru → Pru) (s : State) : State := handOff s.pru (s.mapPru fun p => ringBell (f p))

/-! ### The ways a start goes on and ends (R8 to R18) -/

/-- A start is abandoned (R18). -/
def abandonStart (why : Reason) (s : State) : State :=
  toRest (s.mapRsq fun r => { r with startResult := .abandoned, startReason := some why })

/-- A start fails (R17): entry 5 START FAILURE is reported, and its SHUTDOWN takes the engine to rest. -/
def failStart (result : StartResult) (s : State) : State :=
  pruEvent (reportEvent 5)
    (s.mapRsq fun r =>
      { r with
        startResult := result, stopCause := .startFailure
        counters := { r.counters with failedStarts := satInc 65535 r.counters.failedStarts } })

/-- RSQ enters CRANKING with the permissives passed (R10, R33). -/
def beginCranking (s : State) : State :=
  let t := s.cfg.active
  (changeEngine .cranking (s.mapRsq fun r => { r with crankFuelLatch := false })).mapRsq fun r =>
    openRecord t.crankBudget s.ins.battery.given
      { r with
        timers :=
          { r.timers with
            engage := if s.ins.starterEngaged.used then none else some (tenthsMs t.engageLimit)
            crankLimit := some (tenthsMs (if r.cold then t.crankLimitCold else t.crankLimit)) } }

/-- Entry to CRANKING: the permissives are tested again, and one that fails abandons the start (R10). -/
def enterCranking (s : State) : State :=
  match failingPermissive s with
  | some why => abandonStart why s
  | none => beginCranking s

/-- Entry to PRIMING (R9): at PRIME PRESSURE or above, the state advances at once. -/
def enterPriming (s : State) : State :=
  let s1 := (changeEngine .priming s).mapTimers fun x => { x with prime := some (tenthsMs s.cfg.active.primeLimit) }
  if s.cfg.active.primePressure ≤ s.ins.fuel.given then enterCranking s1 else s1

/-- A failed attempt takes RSQ to CRANK REST (R15). -/
def failAttempt (s : State) : State :=
  (changeEngine .crankRest s).mapRsq fun r =>
    { r with
      zeroConfirmed := false
      timers :=
        { r.timers with
          rest := some (tenthsMs s.cfg.active.crankRest)
          zeroHold := if s.spd.measured = 0 then some 1000 else none } }

/-- An attempt in CRANKING ends without firing, as a failed attempt (R12, R15). -/
def endAttempt (o : CrankOutcome) (tenths : Nat) (s : State) : State :=
  failAttempt (s.mapRsq (writeAttempt o tenths))

/-- The end of crank rest: a retry or a failed start (R16). -/
def endRest (s : State) : State :=
  if s.rsq.attempt < s.cfg.active.maxAttempts then
    enterCranking (s.mapRsq fun r => { r with attempt := r.attempt + 1 })
  else failStart .failedAttempts s

/-! ### Stop and start requests at RSQ (R4, R19, R20, R22, R24, R27) -/

/-- RUNNING to UNLOADING for a stop cause (R20). -/
def beginUnloading (c : StopCause) (s : State) : State :=
  (changeEngine .unloading (setStopCause c s)).mapTimers fun x =>
    { x with unload := some (tenthsMs s.cfg.active.unloadLimit) }

/-- The stop in progress is cancelled: back to RUNNING (R22). -/
def cancelStop (s : State) : State :=
  (changeEngine .running s).mapRsq fun r => { r with stopCause := .none }

/-- RSQ takes a holder STOP; its answer is DONE in every state (R19, R20, R22, R24, R26, R27). -/
def holderStop (s : State) : State :=
  match s.rsq.engine with
  | .prelube | .priming | .cranking | .crankRest | .accelerating =>
    toRest
      ((setStopCause .command (cutAttempt .command s)).mapRsq fun r => { r with startResult := .stoppedByCommand })
  | .running => beginUnloading .command s
  | .unloading => setStopCause .command s
  | .rundown =>
    let s1 := s.mapRsq fun r => { r with restartPending := false }
    if s.rsq.stopCause = .autoStop then setStopCause .command s1 else s1
  | .autoStopped => (changeEngine .stopped s).mapRsq fun r => { r with stopCause := .none }
  | .stopped | .lockedOut => s

/-- RSQ takes a holder START: the state after it, and the reason where it is refused (R4, R5, R22, R24). -/
def holderStart (s : State) : State × Option Reason :=
  match s.rsq.engine with
  | .stopped | .autoStopped =>
    match failingPermissive s with
    | none => (acceptStart .commanded s, none)
    | some why => (noteRefusal why s, some why)
  | .unloading => (cancelStop s, none)
  | _ => (s, some .engineState)

/-- RSQ takes an auto stop: in RUNNING it starts a normal stop, elsewhere it is dropped (R20). -/
def autoStop (s : State) : State :=
  if s.rsq.engine = .running then beginUnloading .autoStop s else s

/-- RSQ takes an auto stop cancel: it cancels an auto stop in UNLOADING, elsewhere it is dropped (R22). -/
def autoStopCancel (s : State) : State :=
  if s.rsq.engine = .unloading ∧ s.rsq.stopCause = .autoStop then cancelStop s else s

/-- UNLOADING ends and fuel goes off (R21): an auto stop is counted and IRU records the minute clock, or nothing once the
clock has saturated (R161). -/
def fuelOff (s : State) : State :=
  let s1 :=
    if s.rsq.stopCause = .autoStop then
      (s.mapRsq fun r =>
        { r with counters := { r.counters with autoStops := satInc 65535 r.counters.autoStops } }).mapIru fun i =>
          { i with fuelOff := if s.rsq.minute = 65535 then none else some s.rsq.minute }
    else s
  enterRundown s1

/-! ### IRU's arrivals (R159, R161 to R163) -/

/-- IRU in WATCH hands RSQ an auto restart, once (R163). -/
def watchTrigger (s : State) : State :=
  if s.iru.state = .watch ∧ s.iru.restartSent = false then
    autoRestart (s.mapIru fun i => { i with restartSent := true })
  else s

/-- Whether a holder demand arrival asks for the engine (R159). -/
def asksForEngine (notch : Nat) (run : RunRequest) : Bool :=
  match run with
  | .start => true
  | .stop => false
  | .none => 1 ≤ notch

/-- A holder demand arrival at IRU (R159, R161, R162, R163). -/
def demandArrival (notch : Nat) (run : RunRequest) (s : State) : State :=
  match s.iru.state with
  | .stopping =>
    if asksForEngine notch run then
      if s.rsq.engine.runningFamily then autoStopCancel (s.mapIru fun i => { i with demandSeen := true })
      else if s.rsq.engine = .rundown then handRestartTrigger s
      else s
    else s
  | .watch => if 1 ≤ notch ∧ run = .none then watchTrigger s else s
  | .off | .idleDwell | .lowIdleDwell | .restartPending => s

/-! ### Settling NTU and IRU at the end of an event (R141, R145, R148, R149, R150, R158, R160) -/

/-- Recompute E (R141). -/
def refreshE (s : State) : State := s.mapNtu fun n => { n with e := effectiveNotch s }

/-- Re-evaluate LOAD PERMIT (R150). -/
def refreshPermit (s : State) : State :=
  if loadPermitWanted s then
    (if s.ntu.loadPermit then s else s.mapNtu fun n => { dropLoad n with loadPermit := true })
  else if s.ntu.loadPermit then s.mapNtu dropLoad
  else s

/-- Enter or leave LOW IDLE (R149). -/
def refreshLowIdle (s : State) : State :=
  if s.ntu.lowIdle then
    (if s.iru.lowIdleRequest = false ∨ 1 ≤ s.ntu.e then s.mapNtu fun n => { n with lowIdle := false } else s)
  else if s.iru.lowIdleRequest = true ∧ s.rsq.engine = .running ∧ s.ntu.applied = 0 ∧ s.ntu.e = 0 then
    s.mapNtu fun n => { n with lowIdle := true }
  else s

/-- IRU judges its conditions (R160): OFF to IDLE DWELL, or a dwell to OFF. -/
def judgeIdle (s : State) : State :=
  match s.iru.state with
  | .off =>
    if idleConditions s then
      s.mapIru fun i => { i with state := .idleDwell, idleDwell := some (minutesMs s.cfg.active.idleDwellTime) }
    else s
  | .idleDwell | .lowIdleDwell => if idleConditions s then s else s.mapIru iruOff
  | .stopping | .watch | .restartPending => s

/-- Whether an up step's gates are open (R143). -/
def upStepOpen (s : State) : Bool :=
  s.rsq.engine = .running && !s.ntu.lowIdle && s.ntu.applied < s.ntu.e && s.ntu.dwell.isNone &&
    speedConfirmed s s.ntu.applied

/-- Whether the dwell gate lets a down step pass (R142, R144). -/
def downDwellOpen (s : State) : Bool :=
  match s.rsq.engine, s.ntu.dwell with
  | .unloading, _ => true
  | .running, none => true
  | .running, some d => d.kind = .up
  | _, _ => false

/-- Whether a down step's gates are open (R144). -/
def downStepOpen (s : State) : Bool :=
  downDwellOpen s && s.ntu.e < s.ntu.applied && s.ntu.loadRef ≤ s.cfg.active.loadAt (s.ntu.applied - 1)

/-- One test of the step channel: at most one step, with its dwell (R142 to R145). -/
def stepChannel (s : State) : State :=
  let t := s.cfg.active
  if upStepOpen s then
    s.mapNtu fun n =>
      { n with
        applied := n.applied + 1
        dwell := if 8 ≤ n.applied + 1 then none else some ⟨.up, t.upDwell (n.applied + 1)⟩ }
  else if downStepOpen s then
    s.mapNtu fun n => { n with applied := n.applied - 1, dwell := some ⟨.down, t.downDwell⟩ }
  else s

/-- In UNLOADING, at applied notch 0 and load reference 0, NTU reports unload complete once and RSQ takes fuel off
(R148, R21). -/
def reportUnload (s : State) : State :=
  if s.rsq.engine = .unloading ∧ s.ntu.applied = 0 ∧ s.ntu.loadRef = 0 ∧ s.ntu.unloadReported = false then
    fuelOff (s.mapNtu fun n => { n with unloadReported := true })
  else s

/-- What NTU and IRU do first at the end of an event: E, LOAD PERMIT, IRU's conditions, LOW IDLE. -/
def settleInputs (s : State) : State := refreshLowIdle (judgeIdle (refreshPermit (refreshE s)))

/-- Whether the step channel is tested in the event that leads from `s0` to `s` (R145): E has changed, the engine state has
changed into RUNNING or UNLOADING, or LOW IDLE has been left. -/
def stepDue (s0 s : State) : Bool :=
  (s0.ntu.e != s.ntu.e) || (s0.rsq.engine != s.rsq.engine && s.rsq.engine.runningFamily) ||
    (s0.ntu.lowIdle && !s.ntu.lowIdle)

/-- The end of an event that began in `s0`: E, LOAD PERMIT, IRU's conditions and LOW IDLE are brought up to date, the step
channel is tested once if the event is one of R145 (`test` says that it is a dwell expiry, a window or a ramp interval),
what the step changes is brought up to date, and NTU's unload-complete report is made. -/
def settle (s0 : State) (test : Bool) (s : State) : State :=
  let s1 := settleInputs s
  let s2 := if test || stepDue s0 s1 then settleInputs (stepChannel s1) else s1
  reportUnload (refreshGovernor s2)

/-! ### The trainline (R101, R113 to R117) -/

/-- Recompute the effective demand (R115). -/
def Trainline.refreshEffective (t : Trainline) : Trainline :=
  { t with effective := if t.state = .live ∧ t.invalid = false then t.decoded else 0 }

/-- What debounced changes that lead from the levels `before` to those now used do to the decoder's timers, the state and
the STOP hold (R113, R114, R101, R116). The state keeps its value during the self-check (log 9). -/
def Trainline.levelsChanged (follow checking : Bool) (before : WireLevels) (t : Trainline) : Trainline :=
  let now := t.used
  let moved := before.w1 ≠ now.w1 ∨ before.w2 ≠ now.w2 ∨ before.w3 ≠ now.w3 ∨ before.w4 ≠ now.w4
  let t1 :=
    if moved then
      { t with
        settle := some 60
        invalidTimer :=
          if now.notch.isNone && !t.invalid && t.invalidTimer.isNone then some 500 else t.invalidTimer }
    else t
  let t2 :=
    if before.run ≠ now.run ∧ checking = false then { t1 with state := trainlineStateOf follow now.run } else t1
  if before.stop ≠ now.stop then { t2 with stopHold := if now.stop then some 1000 else none } else t2

/-- A change of the trainline entry and of the TRAINLINE CODE condition it reports to PRU (R114, R115). -/
def trainlineChange (f : Trainline → Trainline) (s : State) : State :=
  let t := (f s.aut.trainline).refreshEffective
  pruEvent (setCondition 15 t.codeFault) (s.mapAut fun a => { a with trainline := t })

/-- AWAIT YIELD to AWAIT TAKE, the stage timer restarted with HANDOVER TAKE TIME (R124, R126, R127). -/
def advanceHandover (s : State) : State :=
  s.mapAut fun a =>
    { a with handover := a.handover.map fun h =>
        { h with stage := .awaitTake, timer := some (tenthsMs s.cfg.active.takeTime) } }

/-- AUT yields on the trainline's behalf at effective demand 0 in AWAIT YIELD (R126). -/
def trainlineYield (s : State) : State :=
  if s.aut.holder = some .trainline ∧ s.aut.trainline.effective = 0 ∧ s.aut.inStage .awaitYield = true then
    advanceHandover s
  else s

/-- The trainline becomes the holder, its fresh flag set (R121, R133). -/
def grantTrainline (a : Aut) : Aut :=
  { a with holder := some .trainline, trainline := { a.trainline with fresh := true } }

/-- The trainline auto-take (R121). -/
def autoTake (a : Aut) : Aut :=
  if a.holder = none ∧ a.trainline.state = .live then grantTrainline a else a

/-! ### Forces and masks (R66, R72, R53, R117, R95, R96) -/

/-- What a change of a discrete input, as its consumer sees it, does (R71, R79, R78). -/
def discreteChanged (d : Discrete) (v : Bool) (s : State) : State :=
  match d with
  | .emergencyStop => pruEvent (setCondition 0 v) s
  | .groundRelay => pruEvent (judge 7 v (!v) (some (tenthsMs s.cfg.active.groundFilter))) s
  | .starterEngaged =>
    if v = true ∧ s.rsq.engine = .cranking then s.mapTimers fun x => { x with engage := none } else s
  | .turningGear => s

/-- Put a force on a discrete input, or take it off; the consumer is handed a change if what it sees changes (R72). -/
def forceDiscrete (d : Discrete) (v : Option Bool) (s : State) : State :=
  let before := (s.ins.discrete d).used
  let s1 := s.mapDiscrete d fun r => { r with forced := v }
  let after := (s1.ins.discrete d).used
  if before = after then s1 else discreteChanged d after s1

/-- Put a force on an analog channel, or take it off; it acts at the channel's next conversion (R66). -/
def forceChannel (c : Channel) (v : Option Int) (s : State) : State :=
  s.mapChannel c fun r => { r with forced := v }

/-- Put a force on the speed, or take it off; it acts at the next window (R53). -/
def forceSpeed (v : Option Nat) (s : State) : State := s.mapSpd fun p => { p with force := v }

/-- The trainline entry with a force put on the wire set, or taken off (R117). -/
def Trainline.withForce (follow checking : Bool) (v : Option WireLevels) (t : Trainline) : Trainline :=
  ({ t with forced := v } : Trainline).levelsChanged follow checking t.used

/-- The wire force as a change of the trainline (R117). -/
def forceWires (v : Option WireLevels) (s : State) : State :=
  trainlineChange (Trainline.withForce s.cfg.active.trainlineFollow s.cfg.checking v) s

/-- Release every force of INS and SPD. -/
def releaseInputs (s : State) : State :=
  let s1 := forceSpeed none s
  let s2 := forceChannel .crankcase none (forceChannel .intake none (forceChannel .battery none
    (forceChannel .fuel none (forceChannel .coolant none (forceChannel .lube none s1)))))
  forceDiscrete .starterEngaged none (forceDiscrete .groundRelay none
    (forceDiscrete .turningGear none (forceDiscrete .emergencyStop none s2)))

/-- SERVICE has stopped holding authority: every force is released and every mask cleared (R136, R96). -/
def clearForcesAndMasks (s : State) : State :=
  pruEvent (Pru.mapEntries EntryRec.unmasked) (forceWires none (releaseInputs s))

/-! ### A change of holder (R118) -/

/-- The rest of a change of holder that AUT has just made from `old`: forces and masks if SERVICE has stopped holding, the
trainline auto-take, and IRU's arrival when the trainline has been granted authority (R118, R121, R136, R159). -/
def afterHolderChange (old : Option Source) (s : State) : State :=
  let s1 :=
    if old = some .service ∧ s.aut.holder ≠ some .service then clearForcesAndMasks s else s
  let s2 := s1.mapAut autoTake
  if s2.aut.holder = some .trainline ∧ old ≠ some .trainline then
    demandArrival s2.aut.trainline.effective .none s2
  else s2

/-- An event at the trainline entry: the entry changes by `f`; a change to LIVE is judged for the auto-take (R121), and a
change of the effective demand of a trainline holder is handed on (R115, R126, R159). -/
def trainlineEvent (f : Trainline → Trainline) (s : State) : State :=
  let before := s.aut.trainline
  let s1 := trainlineChange f s
  if s.aut.holder = some .trainline then
    (if s1.aut.trainline.effective = before.effective then s1
      else demandArrival s1.aut.trainline.effective .none (trainlineYield s1))
  else if before.state ≠ .live ∧ s1.aut.trainline.state = .live then afterHolderChange s.aut.holder s1
  else s1

/-- Give authority to a framed source (R120, R128): its claim outcome GRANTED, its fresh flag clear, no handover. -/
def grantLink (l : Link) (s : State) : State :=
  let old := s.aut.holder
  let s1 := s.mapSource l fun f => { f with outcome := .granted, fresh := false }
  afterHolderChange old (s1.mapAut fun a => { a with holder := some (linkSource l), handover := none })

/-- Release authority to NONE (R134). -/
def releaseHolder (s : State) : State :=
  afterHolderChange s.aut.holder (s.mapAut fun a => { a with holder := none })

/-- A framed holder lapses (R131). -/
def lapse (l : Link) (s : State) : State :=
  releaseHolder (endHandover .lapsed (s.mapSource l fun f => { f with outcome := .lapsed }))

/-- The entry of a source whose link state becomes DOWN or INERT (R100). -/
def FramedSource.dropped (st : LinkState) (f : FramedSource) : FramedSource :=
  { f with
    linkState := st, envelope := none, demand := 0, run := .none, limited := false, fresh := false, freshness := none }

/-- A source's link state becomes DOWN or INERT: a holder lapses, and a claimant's handover ends EXPIRED
(R100, R106, R107, R131, R132). -/
def leaveActive (l : Link) (st : LinkState) (s : State) : State :=
  let s1 := s.mapSource l (FramedSource.dropped st)
  if s.aut.holds l then lapse l s1
  else
    match s.aut.handover with
    | some h => if h.claimant = l then endHandover .expired s1 else s1
    | none => s1

/-! ### Requests and replies (R169 to R172) -/

/-- Drive each link's ATTN to the level R172 gives it. -/
def rejudgeAttn (s : State) : State :=
  s.mapLinks fun x =>
    { x with
      stand := { x.stand with attn := attnWanted s .stand }
      remote := { x.remote with attn := attnWanted s .remote }
      service := { x.service with attn := attnWanted s .service } }

/-- The end of an event that may change NTU, IRU or a status word. -/
def finish (s0 : State) (test : Bool) (s : State) : State := rejudgeAttn (settle s0 test s)

/-- Whether the interface of a link takes this frame as its next request: the previous reply has been completely sent and
the frame is the oldest one queued (R169, log 1). -/
def takesRequest (l : Link) (f : Frame) (s : State) : Bool :=
  (s.links.link l).sending.isNone && decide ((s.links.link l).queue.head? = some f)

/-- Whether a request is a deviation (R129). -/
def deviates (l : Link) (f : Frame) (s : State) : Bool :=
  match s.aut.handover with
  | some h =>
    decide (h.stage = .awaitTake) && (s.aut.holds l || decide (h.claimant = l)) &&
      !(f.kind = kindStatus || f.kind = kindRead || f.kind = kindLatch || f.kind = kindAcknowledge ||
        (f.kind = kindTake && decide (h.claimant = l) && decide (f.payload.map (·.toNat) = [h.number])))
  | none => false

/-- A request's outcome: the state its owner leaves, and the result code and payload of its reply; no reply at all for an
ENROL that fails (R103). -/
structure Answer where
  state : State
  reply : Option (Result × List Byte)

/-- An answer with a reply. -/
def answer (r : Result) (payload : List Byte) (s : State) : Answer := ⟨s, some (r, payload)⟩

/-- Build the reply to a request and begin to send it: KIND with bit 7 set, SEQ, RESULT, the status word of this moment and
the payload; the word is the link's last returned one (R170, R172). -/
def sendReply (l : Link) (f : Frame) (r : Result) (payload : List Byte) (s : State) : State :=
  s.mapLink l fun x =>
    { x with
      sending := some ⟨f.kind ||| 0x80, f.seq, r, statusWord s l, payload⟩
      lastReturned := some (statusWord s l) }

/-- The end of a request: its reply is built, where it has one, and ATTN is judged. -/
def conclude (l : Link) (f : Frame) (a : Answer) : State :=
  match a.reply with
  | some (r, payload) => rejudgeAttn (sendReply l f r payload a.state)
  | none => rejudgeAttn a.state

/-- The tests of R169 that come before the owner's, in their order; the answer of the first that applies. -/
def screenRequest (l : Link) (f : Frame) (s : State) : Option Answer :=
  if s.cfg.checking then some (answer .busy [] s)
  else if deviates l f s then some (answer .handoverBroken [] (settle s false (endHandover .broken s)))
  else if !knownKind f.kind then some (answer .badField [] s)
  else if (s.aut.source l).linkState = .down ∧ f.kind ≠ kindEnrol ∧ f.kind ≠ kindStatus then
    some (answer .refusedState [] s)
  else if serviceKind f.kind ∧ l ≠ .service then some (answer .notPermitted [] s)
  else none

/-- Take the oldest queued frame of a link as a request, test it by R169, have its owner answer it, and build the reply
(R169, R170). A frame that finds the link INERT is discarded and counted (R103). Where the frame is not the one the
interface would take, the step cannot come about, and nothing changes (log 1). -/
def request (l : Link) (f : Frame) (owner : State → Answer) (s : State) : State :=
  if takesRequest l f s then
    let s1 := s.mapLink l fun x => { x with queue := x.queue.tail }
    if (s.aut.source l).linkState = .inert then
      s1.mapLink l fun x => { x with inertDiscards := satInc 65535 x.inertDiscards }
    else
      match screenRequest l f s1 with
      | some a => conclude l f a
      | none => conclude l f (owner s1)
  else s

end Sys2Proof.Machine
end

