-- ==== Sys2Proof/Machine/Authority.lean ====
section
/-! DEFINITION. The meanings of CLAIM, YIELD, TAKE, KEEP, YIELD_STAGE_EXPIRY and TAKE_STAGE_EXPIRY (chapter 7). -/

namespace Sys2Proof.Machine

/-! ### CLAIM (R119, R120, R123) -/

/-- A handover begins (R123); the trainline yields at once at effective demand 0 (R126). -/
def beginHandover (l : Link) (holder : Source) (override : Bool) (s : State) : State :=
  let s1 := s.mapSource l fun f => { f with outcome := .none }
  trainlineYield (s1.mapAut fun a =>
    { a with
      handover := some
        { claimant := l, holderAtStart := holder, number := a.nextNumber, stage := .awaitYield
          timer := some (tenthsMs s.cfg.active.yieldTime), override := override }
      nextNumber := if a.nextNumber = 255 then 1 else a.nextNumber + 1 })

/-- Whether a link may claim with the override option (R119, test 4). -/
def overrideAllowed (l : Link) (holder : Option Source) : Bool :=
  decide (l = .stand) && (decide (holder = some .trainline) || decide (holder = some .remote))

/-- AUT's answer to CLAIM (R119, R120, R123). -/
def ownerClaim (l : Link) (payload : List Byte) (s : State) : Answer :=
  match payload with
  | [options] =>
    let override := options.getLsbD 0
    if s.aut.holds l then answer .refusedState [] s
    else if s.aut.handover.isSome then answer .handoverBusy [] s
    else if override && !overrideAllowed l s.aut.holder then answer .notPermitted [] s
    else if l = .service ∧ s.aut.holder ≠ none ∧ s.rsq.engine.atRest = false then answer .refusedState [] s
    else
      match s.aut.holder with
      | none => answer .done [] (settle s false (grantLink l s))
      | some h =>
        answer .inProgress [byte s.aut.nextNumber] (settle s false (beginHandover l h override s))
  | _ => answer .badField [] s

/-- CLAIM (R119, R120, R123). -/
def execClaim (l : Link) (seq : Byte) (payload : List Byte) (s : State) : Host.Outcome State Fault Refusal :=
  .next (request l ⟨kindClaim, seq, payload⟩ (ownerClaim l payload) s)

/-! ### YIELD (R124, R133, R134) -/

/-- Whether the trainline is LIVE for a YIELD to it; for SERVICE it is judged on the live wire levels (R133). -/
def liveForYield (l : Link) (s : State) : Bool :=
  match l with
  | .service =>
    decide (trainlineStateOf s.cfg.active.trainlineFollow s.aut.trainline.wires.debouncedLevels.run = .live)
  | .stand | .remote => decide (s.aut.trainline.state = .live)

/-- Authority given to the trainline by its holder (R133). -/
def yieldToTrainline (s : State) : State := afterHolderChange s.aut.holder (s.mapAut grantTrainline)

/-- AUT's answer to YIELD (R124, R133, R134). -/
def ownerYield (l : Link) (payload : List Byte) (s : State) : Answer :=
  match payload with
  | [target] =>
    if 4 < target.toNat then answer .badField [] s
    else if s.aut.holds l = false then
      (if s.aut.inStage .awaitTake then answer .refusedState [] s else answer .notHolder [] s)
    else if target = 0 then
      (if s.aut.inStage .awaitYield then answer .handoverBusy [] s
      else answer .done [] (settle s false (releaseHolder s)))
    else if target = 2 then
      (if s.aut.inStage .awaitYield then answer .handoverBusy [] s
      else if liveForYield l s then answer .done [] (settle s false (yieldToTrainline s))
      else answer .refusedState [] s)
    else if s.aut.inStage .awaitYield ∧ s.aut.claimantCode = target.toNat then
      answer .done [] (settle s false (advanceHandover s))
    else answer .refusedState [] s
  | _ => answer .badField [] s

/-- YIELD (R124, R133, R134). -/
def execYield (l : Link) (seq : Byte) (payload : List Byte) (s : State) : Host.Outcome State Fault Refusal :=
  .next (request l ⟨kindYield, seq, payload⟩ (ownerYield l payload) s)

/-! ### TAKE and KEEP (R125, R128) -/

/-- AUT's answer to TAKE (R128). A number that does not match in AWAIT TAKE is a deviation and does not come here. -/
def ownerTake (l : Link) (payload : List Byte) (s : State) : Answer :=
  match payload with
  | [number] =>
    match s.aut.handover with
    | none => answer .refusedState [] s
    | some h =>
      if h.claimant ≠ l then answer .refusedState [] s
      else if h.stage = .awaitYield then answer .refusedState [] s
      else if number.toNat = h.number then answer .done [] (settle s false (grantLink l s))
      else answer .refusedState [] s
  | _ => answer .badField [] s

/-- TAKE (R128). -/
def execTake (l : Link) (seq : Byte) (payload : List Byte) (s : State) : Host.Outcome State Fault Refusal :=
  .next (request l ⟨kindTake, seq, payload⟩ (ownerTake l payload) s)

/-- AUT's answer to KEEP (R125). -/
def ownerKeep (l : Link) (s : State) : Answer :=
  if s.aut.holds l = false then answer .notHolder [] s
  else
    match s.aut.handover with
    | none => answer .refusedState [] s
    | some h =>
      if h.stage ≠ .awaitYield then answer .refusedState [] s
      else if h.override then answer .done [] s
      else answer .done [] (settle s false (endHandover .refused s))

/-- KEEP (R125); any payload is ignored. -/
def execKeep (l : Link) (seq : Byte) (payload : List Byte) (s : State) : Host.Outcome State Fault Refusal :=
  .next (request l ⟨kindKeep, seq, payload⟩ (ownerKeep l) s)

/-! ### The stage timer -/

/-- YIELD_STAGE_EXPIRY (R127). -/
def execYieldStageExpiry (s : State) : Host.Outcome State Fault Refusal :=
  .next <|
    match s.aut.handover with
    | some h =>
      if h.stage = .awaitYield ∧ h.timer.isSome = true then
        finish s false (if h.override then advanceHandover s else endHandover .expired s)
      else s
    | none => s

/-- TAKE_STAGE_EXPIRY (R130). -/
def execTakeStageExpiry (s : State) : Host.Outcome State Fault Refusal :=
  .next <|
    match s.aut.handover with
    | some h =>
      if h.stage = .awaitTake ∧ h.timer.isSome = true then finish s false (endHandover .expired s) else s
    | none => s

end Sys2Proof.Machine
end

