-- ==== Sys2Proof/Machine/Engine.lean ====
section
/-! DEFINITION. The meanings of the expiries of RSQ's timers and of MINUTE_TICK (chapters 1 and 2). An expiry of a timer
that does not run comes about nowhere and changes nothing (log 2). -/

namespace Sys2Proof.Machine

/-- PRELUBE_MINIMUM_EXPIRY (R8). -/
def execPrelubeMinimumExpiry (s : State) : Host.Outcome State Fault Refusal :=
  .next <|
    if s.rsq.engine = .prelube ∧ s.rsq.timers.prelubeMinimum.isSome = true then
      let s1 := s.mapTimers fun x => { x with prelubeMinimum := none }
      finish s false (if s.cfg.active.prelubePressure ≤ s.ins.lube.given then enterPriming s1 else s1)
    else s

/-- PRELUBE_LIMIT_EXPIRY (R8, R17). -/
def execPrelubeLimitExpiry (s : State) : Host.Outcome State Fault Refusal :=
  .next <|
    if s.rsq.engine = .prelube ∧ s.rsq.timers.prelubeLimit.isSome = true then finish s false (failStart .failedPrelube s)
    else s

/-- PRIME_TIMER_EXPIRY (R9, R17). -/
def execPrimeTimerExpiry (s : State) : Host.Outcome State Fault Refusal :=
  .next <|
    if s.rsq.engine = .priming ∧ s.rsq.timers.prime.isSome = true then finish s false (failStart .failedPrime s) else s

/-- ENGAGE_TIMER_EXPIRY (R12): NO ENGAGE. -/
def execEngageTimerExpiry (s : State) : Host.Outcome State Fault Refusal :=
  .next <|
    if s.rsq.engine = .cranking ∧ s.rsq.timers.engage.isSome = true then
      finish s false (endAttempt .noEngage (elapsedAtExpiry s.rsq.timers.engage s.rsq) s)
    else s

/-- CRANK_LIMIT_EXPIRY (R12): NO FIRE. -/
def execCrankLimitExpiry (s : State) : Host.Outcome State Fault Refusal :=
  .next <|
    if s.rsq.engine = .cranking ∧ s.rsq.timers.crankLimit.isSome = true then
      finish s false (endAttempt .noFire (elapsedAtExpiry s.rsq.timers.crankLimit s.rsq) s)
    else s

/-- BATTERY_DROPOUT_EXPIRY (R12): BATTERY. -/
def execBatteryDropoutExpiry (s : State) : Host.Outcome State Fault Refusal :=
  .next <|
    if s.rsq.engine = .cranking ∧ s.rsq.timers.batteryDropout.isSome = true then
      finish s false (endAttempt .battery (elapsedCranking s.rsq.history) s)
    else s

/-- BUDGET_TIMER_EXPIRY (R35, R18): the attempt ends as BUDGET with the headroom for its duration, and the start is
abandoned. The budget timer expires only where no crank limit or engage timer was due before it, and there the headroom is
what `crankingDue` gives; elsewhere the duration keeps to 600 and to those timers (R31, log 3). -/
def execBudgetTimerExpiry (s : State) : Host.Outcome State Fault Refusal :=
  .next <|
    if s.rsq.engine = .cranking ∧ s.rsq.budget.isSome = true then
      finish s false (abandonStart .budget (s.mapRsq (writeAttempt .budget (crankingDue s.rsq))))
    else s

/-- ACCELERATION_TIMER_EXPIRY (R14, R15): SLOW. -/
def execAccelerationTimerExpiry (s : State) : Host.Outcome State Fault Refusal :=
  .next <|
    if s.rsq.engine = .accelerating ∧ s.rsq.timers.acceleration.isSome = true then
      finish s false (failAttempt (s.mapRsq (closeFired .slow)))
    else s

/-- STALL_TIMER_EXPIRY (R14, R15): STALLED. -/
def execStallTimerExpiry (s : State) : Host.Outcome State Fault Refusal :=
  .next <|
    if s.rsq.engine = .accelerating ∧ s.rsq.timers.stall.isSome = true then
      finish s false (failAttempt (s.mapRsq (closeFired .stalled)))
    else s

/-- LUBE_ARMING_EXPIRY (R13, R81): lube armed sets. -/
def execLubeArmingExpiry (s : State) : Host.Outcome State Fault Refusal :=
  .next <|
    if s.rsq.timers.lubeArming.isSome then
      s.mapRsq fun r => { r with lubeArmed := true, timers := { r.timers with lubeArming := none } }
    else s

/-- REST_TIMER_EXPIRY (R16). -/
def execRestTimerExpiry (s : State) : Host.Outcome State Fault Refusal :=
  .next <|
    if s.rsq.engine = .crankRest ∧ s.rsq.timers.rest.isSome = true then
      let s1 := s.mapTimers fun x => { x with rest := none }
      finish s false (if s.rsq.zeroConfirmed then endRest s1 else s1)
    else s

/-- ZERO_HOLD_EXPIRY_CRANK_REST (R16). -/
def execZeroHoldExpiryCrankRest (s : State) : Host.Outcome State Fault Refusal :=
  .next <|
    if s.rsq.engine = .crankRest ∧ s.rsq.timers.zeroHold.isSome = true then
      let s1 := s.mapRsq fun r => { r with zeroConfirmed := true, timers := { r.timers with zeroHold := none } }
      finish s false (if s.rsq.timers.rest.isNone then endRest s1 else s1)
    else s

/-- ZERO_HOLD_EXPIRY_RUNDOWN (R23). -/
def execZeroHoldExpiryRundown (s : State) : Host.Outcome State Fault Refusal :=
  .next <|
    if s.rsq.engine = .rundown ∧ s.rsq.timers.zeroHold.isSome = true then finish s false (comeToRest s) else s

/-- UNLOAD_TIMER_EXPIRY (R21): fuel goes off whatever the applied notch and load reference are. -/
def execUnloadTimerExpiry (s : State) : Host.Outcome State Fault Refusal :=
  .next <|
    if s.rsq.engine = .unloading ∧ s.rsq.timers.unload.isSome = true then finish s false (fuelOff s) else s

/-- IRU's time of the last auto fuel-off at a minute tick that brings the clock to `minute` (R161). -/
def Iru.ticked (minute : Nat) (i : Iru) : Iru := if minute = 65535 then { i with fuelOff := none } else i

/-- The minute clock and the crank history at a minute tick (R30, R37). -/
def Rsq.ticked (window : Nat) (r : Rsq) : Rsq :=
  { r with minute := satInc 65535 r.minute, history := ageHistory window r.history }

/-- MINUTE_TICK (R30, R37, R161). -/
def execMinuteTick (s : State) : Host.Outcome State Fault Refusal :=
  let s1 := s.mapRsq (Rsq.ticked s.cfg.active.crankWindow)
  .next (s1.mapIru (Iru.ticked s1.rsq.minute))

end Sys2Proof.Machine
end

