-- ==== Sys2Proof/Machine/Idle.lean ====
section
/-! DEFINITION. The meanings of IRU's timers: IDLE_DWELL_EXPIRY, LOW_IDLE_DWELL_EXPIRY, AUTO_STOP_TIMER_EXPIRY and
BATTERY_LOW_RESTART_EXPIRY (R160, R163, R165). -/

namespace Sys2Proof.Machine

/-- The low-idle dwell is over: IRU enters STOPPING and hands RSQ an auto stop (R160). -/
def endLowIdleDwell (s : State) : State :=
  autoStop (s.mapIru fun i => { i with state := .stopping, lowIdleDwell := none, demandSeen := false })

/-- The idle dwell is over: IRU enters LOW IDLE DWELL and sets its low-idle request; a LOW IDLE DWELL TIME of 0 expires in
the same event (R160, R165). -/
def endIdleDwell (s : State) : State :=
  let ms := minutesMs s.cfg.active.lowIdleDwellTime
  let s1 := s.mapIru fun i =>
    { i with state := .lowIdleDwell, idleDwell := none, lowIdleDwell := some ms, lowIdleRequest := true }
  if ms = 0 then endLowIdleDwell s1 else s1

/-- IDLE_DWELL_EXPIRY (R160, R165). -/
def execIdleDwellExpiry (s : State) : Host.Outcome State Fault Refusal :=
  .next <| if s.iru.state = .idleDwell ∧ s.iru.idleDwell.isSome = true then finish s false (endIdleDwell s) else s

/-- LOW_IDLE_DWELL_EXPIRY (R160). -/
def execLowIdleDwellExpiry (s : State) : Host.Outcome State Fault Refusal :=
  .next <|
    if s.iru.state = .lowIdleDwell ∧ s.iru.lowIdleDwell.isSome = true then finish s false (endLowIdleDwell s) else s

/-- AUTO_STOP_TIMER_EXPIRY (R163): a restart trigger of WATCH. -/
def execAutoStopTimerExpiry (s : State) : Host.Outcome State Fault Refusal :=
  .next <|
    if s.iru.state = .watch ∧ s.iru.autoStop.isSome = true then
      finish s false (watchTrigger (s.mapIru fun i => { i with autoStop := none }))
    else s

/-- BATTERY_LOW_RESTART_EXPIRY (R163): a restart trigger of WATCH. -/
def execBatteryLowRestartExpiry (s : State) : Host.Outcome State Fault Refusal :=
  .next <|
    if s.iru.state = .watch ∧ s.iru.batteryLow.isSome = true then
      finish s false (watchTrigger (s.mapIru fun i => { i with batteryLow := none }))
    else s

end Sys2Proof.Machine
end

