-- ==== Sys2Proof/Machine/Inputs.lean ====
section
/-! DEFINITION. The meanings of CONVERSION, HOLD_TIMER_EXPIRY, DISCRETE_INPUT_LEVEL_CHANGE and DEBOUNCED_CHANGE
(chapter 4, and what the consumers do with a given value: R8, R9, R12, R33, R78, R87, R162, R163). -/

namespace Sys2Proof.Machine

/-! ### The channel record -/

/-- Whether a raw value is in range (R58). -/
def rawInRange (raw : Nat) : Bool := decide (40 ≤ raw ∧ raw ≤ 4055)

/-- An in-range raw value scaled to the channel's unit and clamped to its range (R58). -/
def scaled (t : Table) (c : Channel) (raw : Nat) : Int :=
  max (channelRange c).1
    (min (channelRange c).2 ((t.zeroSpan c).1 + (raw : Int) * (t.zeroSpan c).2 / 4095))

/-- A conversion of a channel in VALID (R60). -/
def convertValid (t : Table) (c : Channel) (raw : Nat) (r : ChannelRec) : ChannelRec :=
  if rawInRange raw then { r with eng := scaled t c raw, goodSeen := true }
  else if r.goodSeen then { r with state := .held, holdTimer := some 5000, goodCount := 0 }
  else { r with state := .substituted, eng := substituteOf c, goodCount := 0 }

/-- A conversion of a channel in HELD or SUBSTITUTED (R61 to R63). -/
def convertDoubtful (t : Table) (c : Channel) (raw : Nat) (r : ChannelRec) : ChannelRec :=
  if rawInRange raw then
    if 3 ≤ r.goodCount + 1 then
      { r with state := .valid, eng := scaled t c raw, goodSeen := true, goodCount := 0, holdTimer := none }
    else { r with goodCount := r.goodCount + 1 }
  else { r with goodCount := 0 }

/-- The given value taken afresh: the forced value while the force stands, else the engineering value (R59, R66). -/
def ChannelRec.give (r : ChannelRec) : ChannelRec := { r with given := r.forced.getD r.eng }

/-- A conversion of a channel (R60 to R63, R66). -/
def convert (t : Table) (c : Channel) (raw : Nat) (r : ChannelRec) : ChannelRec :=
  let r1 : ChannelRec := { r with raw := raw }
  (match r.state with
    | .valid => convertValid t c raw r1
    | .held | .substituted => convertDoubtful t c raw r1).give

/-- INS takes a channel's conversion: its record moves, and the scan goes on to the next channel (R57). -/
def Ins.converted (t : Table) (c : Channel) (raw : Nat) (i : Ins) : Ins :=
  { i.setChannel c (convert t c raw (i.channel c)) with scanNext := scanAfter c }

/-! ### The consumers of a given value (R65) -/

/-- The battery minimum of the open record and the battery dropout timer, at a BATTERY value in CRANKING (R12, R33). -/
def batteryInCranking (dropout v : Int) (r : Rsq) : Rsq :=
  { r with
    history := modifyNewest
      (fun c => if c.cranking then { c with batteryMin := c.batteryMin.map (min v) } else c) r.history
    timers :=
      { r.timers with
        batteryDropout :=
          if v < dropout then (if r.timers.batteryDropout.isNone then some 1000 else r.timers.batteryDropout)
          else none } }

/-- RSQ takes a channel's given value (R8, R9, R12, R33); during the self-check it changes nothing (R28). -/
def rsqValue (c : Channel) (s : State) : State :=
  if s.cfg.checking then s
  else
    let v := (s.ins.channel c).given
    match c, s.rsq.engine with
    | .lube, .prelube =>
      if s.rsq.timers.prelubeMinimum = none ∧ s.cfg.active.prelubePressure ≤ v then enterPriming s else s
    | .fuel, .priming => if s.cfg.active.primePressure ≤ v then enterCranking s else s
    | .battery, .cranking => s.mapRsq (batteryInCranking s.cfg.active.crankDropout v)
    | _, _ => s

/-- PRU judges what it derives from a channel (R78, R80 to R82, R87). -/
def pruValue (c : Channel) (s : State) (p : Pru) : Pru :=
  let t := s.cfg.active
  let v := (s.ins.channel c).given
  match c with
  | .lube =>
    let threshold := lubeThreshold t s.spd.measured
    if s.rsq.lubeArmed then judge 4 (v < threshold) (threshold ≤ v) (some (tenthsMs t.lubeFilter)) p else p
  | .coolant =>
    let p1 := judge 6 (t.hotSet ≤ v) (v < t.hotClear) (some (tenthsMs t.hotFilter)) p
    let p2 := if s.rsq.engine.runningFamily then judge 9 (v < t.coldSet) (t.coldClear ≤ v) none p1 else p1
    let p3 := judge 10 (t.coolantStart < v) (v ≤ t.coolantClear) none p2
    { p3 with coolantPct := deratePercent t.coolantStart t.coolantEnd t.coolantFloor v }
  | .fuel =>
    if s.rsq.engine.runningFamily then
      judge 8 (v < t.lowFuelSet) (t.lowFuelClear ≤ v) (some (tenthsMs t.lowFuelFilter)) p
    else p
  | .battery => judge 12 (v < t.batteryLowSet) (t.batteryLowClear ≤ v) (some (tenthsMs t.batteryLowFilter)) p
  | .intake =>
    let p1 := judge 11 (t.intakeStart < v) (v ≤ t.intakeClear) none p
    { p1 with intakePct := deratePercent t.intakeStart t.intakeEnd t.intakeFloor v }
  | .crankcase => judge 3 (t.crankcaseLimit ≤ v) (v < t.crankcaseLimit) (some (tenthsMs t.crankcaseFilter)) p

/-- IRU takes a COOLANT TEMP value: a restart trigger below RESTART COOLANT, in the rundown of an auto stop and in WATCH
(R162, R163). -/
def coolantTrigger (v : Int) (s : State) : State :=
  if v < s.cfg.active.restartCoolant then
    match s.iru.state with
    | .stopping => if s.rsq.engine = .rundown then handRestartTrigger s else s
    | .watch => watchTrigger s
    | .off | .idleDwell | .lowIdleDwell | .restartPending => s
  else s

/-- IRU takes a BATTERY value: in WATCH the battery-low restart timer starts or is cancelled (R163). -/
def batteryWatch (v : Int) (s : State) : State :=
  if s.iru.state = .watch then
    s.mapIru fun i =>
      { i with
        batteryLow :=
          if v < s.cfg.active.restartBattery then
            (if i.batteryLow.isNone then some (tenthsMs s.cfg.active.restartBatteryFilter) else i.batteryLow)
          else none }
  else s

/-- IRU takes a channel's given value (R65). -/
def iruValue (c : Channel) (s : State) : State :=
  match c with
  | .coolant => coolantTrigger s.ins.coolant.given s
  | .battery => batteryWatch s.ins.battery.given s
  | .lube | .fuel | .intake | .crankcase => s

/-- A channel hands its given value to RSQ, PRU and IRU, in that order (R65, log 7). -/
def handOn (c : Channel) (s : State) : State :=
  let s1 := rsqValue c s
  iruValue c (pruEvent (pruValue c s1) s1)

/-- INS evaluates SENSOR RANGE and reports it (R64). -/
def reportSensorRange (s : State) : State := pruEvent (setCondition 14 s.ins.sensorRange) s

/-- CONVERSION (R57 to R67). The scan converts the channels in their order alone, so a conversion of a channel whose turn it
is not stands for no event and changes nothing (log 2). -/
def execConversion (c : Channel) (raw : BitVec 12) (s : State) : Host.Outcome State Fault Refusal :=
  .next <|
    if s.ins.scanNext = c then
      finish s false (handOn c (reportSensorRange (s.mapIns (Ins.converted s.cfg.active c raw.toNat))))
    else s

/-- A HELD channel becomes SUBSTITUTED (R61); under a force the given value stays (R66). -/
def substituted (c : Channel) (r : ChannelRec) : ChannelRec :=
  { r with
    state := .substituted, eng := substituteOf c, holdTimer := none
    given := if r.forced.isSome then r.given else substituteOf c }

/-- HOLD_TIMER_EXPIRY (R61, R64 to R66): a forced channel hands nothing on (log 16). -/
def execHoldTimerExpiry (c : Channel) (s : State) : Host.Outcome State Fault Refusal :=
  let r := s.ins.channel c
  .next <|
    if r.state = .held ∧ r.holdTimer.isSome = true then
      let s1 := reportSensorRange (s.mapChannel c (substituted c))
      finish s false (if r.forced.isSome then s1 else handOn c s1)
    else s

/-! ### Discrete inputs -/

/-- A change of an input's level (R70). -/
def DiscreteRec.levelChanged (ms : Nat) (level : Bool) (r : DiscreteRec) : DiscreteRec :=
  if r.level = level then r
  else { r with level := level, timer := if level = r.debounced then none else some ms }

/-- DISCRETE_INPUT_LEVEL_CHANGE (R70). -/
def execDiscreteInputLevelChange (d : Discrete) (level : Bool) (s : State) : Host.Outcome State Fault Refusal :=
  .next (s.mapDiscrete d (DiscreteRec.levelChanged (debounceMs d) level))

/-- DEBOUNCED_CHANGE (R70 to R72): the debounced state takes the level; while a force is in effect no change is handed
on. -/
def execDebouncedChange (d : Discrete) (s : State) : Host.Outcome State Fault Refusal :=
  let r := s.ins.discrete d
  .next <|
    if r.timer.isSome then
      let s1 := s.mapDiscrete d fun r => { r with debounced := r.level, timer := none }
      finish s false (if r.used = (s1.ins.discrete d).used then s1 else discreteChanged d r.level s1)
    else s

end Sys2Proof.Machine
end

