-- ==== Sys2Proof/Machine/Links.lean ====
section
/-! DEFINITION. The meanings of the commands the link interfaces take by themselves: GOOD_FRAME, BAD_FRAME,
INTER_BYTE_GAP, REPLY_SENT, LINK_BREAK, UNKNOWN_KIND, STATUS and LATCH (chapter 10, R105, R107). -/

namespace Sys2Proof.Machine

/-- Queue a good frame: at the tail while fewer than 4 are queued, else the frame is lost, counted, and the overflow flag
sets (R168). -/
def LinkIf.queued (f : Frame) (x : LinkIf) : LinkIf :=
  if x.queue.length < 4 then
    { x with queue := x.queue ++ [f], goodFrames := satInc 65535 x.goodFrames }
  else { x with queueOverflows := satInc 65535 x.queueOverflows, overflow := true }

/-- A bad frame is discarded and counted (R167). -/
def LinkIf.badFrame (x : LinkIf) : LinkIf := { x with checkErrors := satInc 65535 x.checkErrors }

/-- A good frame on an INERT link is discarded and counted (R103). -/
def LinkIf.inertDiscard (x : LinkIf) : LinkIf := { x with inertDiscards := satInc 65535 x.inertDiscards }

/-- The freshness timer restarted with three times the envelope's interval, in ms (R105). -/
def FramedSource.refreshed (f : FramedSource) : FramedSource :=
  match f.envelope with
  | some e => { f with freshness := some (30 * e.interval) }
  | none => f

/-- A good frame by the link state (R168, R103, R105). -/
def takeGoodFrame (l : Link) (f : Frame) (s : State) : State :=
  match (s.aut.source l).linkState with
  | .inert => s.mapLink l LinkIf.inertDiscard
  | .active => (s.mapSource l FramedSource.refreshed).mapLink l (LinkIf.queued f)
  | .down => s.mapLink l (LinkIf.queued f)

/-- GOOD_FRAME (R168). A payload of more than 32 bytes has a LENGTH above 34, which ends the frame as a framing error
(R167, log 22). -/
def execGoodFrame (l : Link) (kind seq : Byte) (payload : List Byte) (s : State) :
    Host.Outcome State Fault Refusal :=
  .next <|
    if payload.length ≤ 32 then rejudgeAttn (takeGoodFrame l ⟨kind, seq, payload⟩ s)
    else s.mapLink l LinkIf.badFrame

/-- BAD_FRAME (R167). -/
def execBadFrame (l : Link) (s : State) : Host.Outcome State Fault Refusal := .next (s.mapLink l LinkIf.badFrame)

/-- INTER_BYTE_GAP (R167): a gap of more than 5 ms within a frame ends it as a bad frame. -/
def execInterByteGap (l : Link) (s : State) : Host.Outcome State Fault Refusal := .next (s.mapLink l LinkIf.badFrame)

/-- REPLY_SENT (R169): the reply being sent is out. -/
def execReplySent (l : Link) (s : State) : Host.Outcome State Fault Refusal :=
  .next (s.mapLink l fun x => { x with sending := none })

/-- A link interface at a LINK BREAK (R107, R178): queue and latch buffer emptied, no last returned word, the baud rate of
the active table; counters, overflow flag and a reply being sent stay. -/
def LinkIf.broken (b : Baud) (x : LinkIf) : LinkIf :=
  { x with queue := [], latch := none, lastReturned := none, baud := b }

/-- LINK_BREAK (R107, R131, R132, R178). -/
def execLinkBreak (l : Link) (s : State) : Host.Outcome State Fault Refusal :=
  .next (finish s false (leaveActive l .down (s.mapLink l (LinkIf.broken (s.cfg.active.baudOf l)))))

/-- UNKNOWN_KIND (R169, test 3): BAD FIELD. A KIND of the kind table is no unknown kind, and nothing changes (log 2). -/
def execUnknownKind (l : Link) (kind seq : Byte) (payload : List Byte) (s : State) :
    Host.Outcome State Fault Refusal :=
  .next <| if knownKind kind then s else request l ⟨kind, seq, payload⟩ (answer .badField []) s

/-- STATUS (R169): DONE with no payload, whatever it carries. -/
def execStatus (l : Link) (seq : Byte) (payload : List Byte) (s : State) : Host.Outcome State Fault Refusal :=
  .next (request l ⟨kindStatus, seq, payload⟩ (answer .done []) s)

/-! ### LATCH (R173) -/

/-- The ENGINE group: 16 bytes. -/
def engineGroup (c : EngineCounters) : List Byte :=
  be16 c.startsRequested ++ be16 c.successfulStarts ++ be16 c.failedStarts ++ be16 c.autoStops ++
    be16 c.autoRestarts ++ be16 c.crankSeconds ++ be32 c.runTime

/-- The LINK group: 8 bytes. -/
def linkGroup (x : LinkIf) : List Byte :=
  be16 x.goodFrames ++ be16 x.checkErrors ++ be16 x.queueOverflows ++ be16 x.inertDiscards

/-- The PROTECTION group: 32 bytes. -/
def protectionGroup (p : Pru) : List Byte := allEntries.flatMap fun e => be16 (p.entry e).tripCount

/-- The bytes a group code names. -/
def groupBytes (l : Link) (s : State) (g : Byte) : Option (List Byte) :=
  if g = 0 then some (engineGroup s.rsq.counters)
  else if g = 1 then some (linkGroup (s.links.link l))
  else if g = 2 then some (protectionGroup s.pru)
  else none

/-- The link's counters and its overflow flag, cleared (R173). -/
def LinkIf.countersCleared (x : LinkIf) : LinkIf :=
  { x with goodFrames := 0, checkErrors := 0, queueOverflows := 0, inertDiscards := 0, overflow := false }

/-- The link interface's answer to LATCH. -/
def ownerLatch (l : Link) (payload : List Byte) (s : State) : Answer :=
  match payload with
  | [g, options] =>
    let clear := options.getLsbD 0
    match groupBytes l s g with
    | some bytes =>
      if clear = true ∧ g ≠ 1 then answer .badField [] s
      else if (s.links.link l).latch.isSome then answer .alreadyLatched [] s
      else
        answer .done [] (s.mapLink l fun x =>
          let y : LinkIf := { x with latch := some bytes }
          if clear then y.countersCleared else y)
    | none => answer .badField [] s
  | _ => answer .badField [] s

/-- LATCH (R173). -/
def execLatch (l : Link) (seq : Byte) (payload : List Byte) (s : State) : Host.Outcome State Fault Refusal :=
  .next (request l ⟨kindLatch, seq, payload⟩ (ownerLatch l payload) s)

end Sys2Proof.Machine
end

