-- ==== Sys2Proof/Machine/Notch.lean ====
section
/-! DEFINITION. The meanings of NTU's own events, DWELL_TIMER_EXPIRY and RAMP_INTERVAL (R142, R145, R151, R152, R154). -/

namespace Sys2Proof.Machine

/-- DWELL_TIMER_EXPIRY (R142, R145): the timer stops and the step channel is tested. -/
def execDwellTimerExpiry (s : State) : Host.Outcome State Fault Refusal :=
  .next <| if s.ntu.dwell.isSome then finish s true (s.mapNtu fun n => { n with dwell := none }) else s

/-- The load reference moved toward its target by at most one interval's ramp (R152). -/
def ramped (t : Table) (target ref : Nat) : Nat :=
  if ref < target then min target (ref + t.rampUp)
  else if target < ref then max target (ref - t.rampDown)
  else ref

/-- NTU's work at a ramp interval, but for the step channel's test (R151, R152, R154). -/
def rampLoad (s : State) : State :=
  let t := s.cfg.active
  let target := loadTargetNow s
  let ref := ramped t target s.ntu.loadRef
  s.mapNtu fun n => { n with loadTarget := target, loadRef := ref, excitationRef := excitationRefOf t ref }

/-- RAMP_INTERVAL (R151, R152, R154, R145). -/
def execRampInterval (s : State) : Host.Outcome State Fault Refusal := .next (finish s true (rampLoad s))

end Sys2Proof.Machine
end

