-- ==== Sys2Proof/Machine/Protection.lean ====
section
/-! DEFINITION. The meanings of FILTER_TIMER_EXPIRY and of the protection requests RESET_PROTECTION, RESET_ALL,
ACKNOWLEDGE, MASK, UNMASK and CLEAR_TRIP_COUNT (R78, R90 to R95). -/

namespace Sys2Proof.Machine

/-- FILTER_TIMER_EXPIRY (R78): the condition becomes true. -/
def execFilterTimerExpiry (e : Entry) (s : State) : Host.Outcome State Fault Refusal :=
  .next <| if (s.pru.entry e).filter.isSome then finish s false (pruEvent (setCondition e true) s) else s

/-- Whether a link may reset: the holder's link or the Service link (R91). -/
def mayReset (l : Link) (s : State) : Bool := s.aut.holds l || decide (l = .service)

/-- Whether a trip limit keeps an entry from being reset from a link (R91, R93). -/
def heldByLimit (l : Link) (s : State) (e : Entry) : Bool :=
  !decide (l = .service) && overTripLimit s.cfg.active e (s.pru.entry e)

/-- The entry leaves service for IDLE (R77, R91). -/
def leaveService (e : Entry) (p : Pru) : Pru := p.setEntry e (p.entry e).left

/-- PRU's answer to RESET PROTECTION (R91). -/
def ownerResetProtection (l : Link) (payload : List Byte) (s : State) : Answer :=
  match entryOperand payload with
  | none => answer .badField [] s
  | some e =>
    if mayReset l s = false then answer .notHolder [] s
    else if (s.pru.entry e).state ≠ .held then answer .refusedState [] s
    else if heldByLimit l s e then answer .locked [] s
    else answer .done [] (settle s false (pruEvent (leaveService e) s))

/-- RESET_PROTECTION (R91). -/
def execResetProtection (l : Link) (seq : Byte) (payload : List Byte) (s : State) :
    Host.Outcome State Fault Refusal :=
  .next (request l ⟨kindResetProtection, seq, payload⟩ (ownerResetProtection l payload) s)

/-- The HELD entries that a RESET ALL from a link returns to IDLE (R92). -/
def resettable (l : Link) (s : State) : List Entry :=
  allEntries.filter fun e => decide ((s.pru.entry e).state = .held) && !heldByLimit l s e

/-- The HELD entries that a RESET ALL from a link leaves because of their trip limits (R92). -/
def leftByLimit (l : Link) (s : State) : List Entry :=
  allEntries.filter fun e => decide ((s.pru.entry e).state = .held) && heldByLimit l s e

/-- PRU's answer to RESET ALL (R92). A NOT HOLDER carries no payload (log 17). -/
def ownerResetAll (l : Link) (s : State) : Answer :=
  if mayReset l s = false then answer .notHolder [] s
  else
    let es := resettable l s
    let counts := [byte es.length, byte (leftByLimit l s).length]
    if es.isEmpty then answer .refusedState counts s
    else answer .done counts (settle s false (pruEvent (fun p => es.foldl (fun q e => leaveService e q) p) s))

/-- RESET_ALL (R92); any payload is ignored. -/
def execResetAll (l : Link) (seq : Byte) (payload : List Byte) (s : State) : Host.Outcome State Fault Refusal :=
  .next (request l ⟨kindResetAll, seq, payload⟩ (ownerResetAll l) s)

/-- An entry in service is acknowledged (R90). -/
def EntryRec.acknowledge (r : EntryRec) : EntryRec := if r.inService then { r with acknowledged := true } else r

/-- PRU's answer to ACKNOWLEDGE (R90). -/
def ownerAcknowledge (s : State) : Answer :=
  answer .done [] (s.mapPru fun p => ringBell (p.mapEntries EntryRec.acknowledge))

/-- ACKNOWLEDGE (R90); any payload is ignored. -/
def execAcknowledge (l : Link) (seq : Byte) (payload : List Byte) (s : State) : Host.Outcome State Fault Refusal :=
  .next (request l ⟨kindAcknowledge, seq, payload⟩ ownerAcknowledge s)

/-- The tests MASK and UNMASK share (R95): the entry, or the result that refuses it. -/
def maskOperand (payload : List Byte) (s : State) : Except Result Entry :=
  match entryOperand payload with
  | none => .error .badField
  | some e =>
    if s.aut.holds .service = false then .error .notHolder
    else if e.val ≤ 5 then .error .notPermitted
    else .ok e

/-- Set an entry's mask (R95). -/
def setMask (e : Entry) (p : Pru) : Pru := p.setEntry e { p.entry e with masked := true }

/-- Clear an entry's mask; a PENDING entry enters service (R95). -/
def clearMask (e : Entry) (p : Pru) : Pru := p.setEntry e (p.entry e).unmasked

/-- PRU's answer to MASK (R95). -/
def ownerMask (payload : List Byte) (s : State) : Answer :=
  match maskOperand payload s with
  | .error r => answer r [] s
  | .ok e => answer .done [] (s.mapPru (setMask e))

/-- MASK (R95). -/
def execMask (l : Link) (seq : Byte) (payload : List Byte) (s : State) : Host.Outcome State Fault Refusal :=
  .next (request l ⟨kindMask, seq, payload⟩ (ownerMask payload) s)

/-- PRU's answer to UNMASK (R95). -/
def ownerUnmask (payload : List Byte) (s : State) : Answer :=
  match maskOperand payload s with
  | .error r => answer r [] s
  | .ok e => answer .done [] (settle s false (pruEvent (clearMask e) s))

/-- UNMASK (R95). -/
def execUnmask (l : Link) (seq : Byte) (payload : List Byte) (s : State) : Host.Outcome State Fault Refusal :=
  .next (request l ⟨kindUnmask, seq, payload⟩ (ownerUnmask payload) s)

/-- An entry's trip count set to 0 (R94). -/
def clearTrips (e : Entry) (p : Pru) : Pru := p.setEntry e { p.entry e with tripCount := 0 }

/-- PRU's answer to CLEAR TRIP COUNT (R94). -/
def ownerClearTripCount (payload : List Byte) (s : State) : Answer :=
  match entryOperand payload with
  | none => answer .badField [] s
  | some e => answer .done [] (s.mapPru (clearTrips e))

/-- CLEAR_TRIP_COUNT (R94). -/
def execClearTripCount (l : Link) (seq : Byte) (payload : List Byte) (s : State) :
    Host.Outcome State Fault Refusal :=
  .next (request l ⟨kindClearTripCount, seq, payload⟩ (ownerClearTripCount payload) s)

end Sys2Proof.Machine
end

