-- ==== Sys2Proof/Machine/Read.lean ====
section
/-! DEFINITION. The meanings of the seven READ rows (R174 to R177, R39, R40, R187). -/

namespace Sys2Proof.Machine

/-- The records of a list, one after another, for as long as the next whole record still fits in `room` bytes (R39,
R175). -/
def packRecords : Nat → List (List Byte) → List Byte
  | _, [] => []
  | room, r :: rest => if r.length ≤ room then r ++ packRecords (room - r.length) rest else []

/-- A READ of a row: the frame is taken where its payload belongs to the row of target `t` (log 12). -/
def readRequest (t : ReadTarget) (l : Link) (seq : Byte) (payload : List Byte) (owner : State → Answer)
    (s : State) : State :=
  if readRow t payload then request l ⟨kindRead, seq, payload⟩ owner s else s

/-! ### Target 0, the latch buffer -/

/-- The answer to a READ of target 0. -/
def ownerReadLatched (l : Link) (payload : List Byte) (s : State) : Answer :=
  match payload with
  | [t] =>
    if readTargetOf t = some .latched then
      match (s.links.link l).latch with
      | some bytes => answer .done bytes (s.mapLink l fun x => { x with latch := none })
      | none => answer .refusedState [] s
    else answer .badField [] s
  | _ => answer .badField [] s

/-- READ_LATCHED (R174). -/
def execReadLatched (l : Link) (seq : Byte) (payload : List Byte) (s : State) : Host.Outcome State Fault Refusal :=
  .next (readRequest .latched l seq payload (ownerReadLatched l payload) s)

/-! ### Target 1, the crank history (R39, R40) -/

/-- One crank record in a reply (R40). -/
def crankRecordBytes (r : CrankRecord) : List Byte :=
  be16 r.startedAt ++
    [byte (r.outcome.code + r.attempt * 16 + flag r.cold 7),
     byte (r.duration / 256 + flag r.batteryMin.isSome 6 + flag r.isOpen 7), byte r.duration] ++
    (match r.batteryMin with
      | some v => [byte (v / 5).toNat]
      | none => [])

/-- The payload of a READ of the crank history (R39). -/
def crankHistoryPayload (first : Nat) (s : State) : List Byte :=
  [byte s.rsq.history.length, byte first] ++ be16 s.rsq.minute ++
    packRecords 28 ((s.rsq.history.drop first).map crankRecordBytes)

/-- The answer to a READ of target 1. -/
def ownerReadCrankHistory (payload : List Byte) (s : State) : Answer :=
  match payload with
  | [t, first] =>
    if readTargetOf t = some .crankHistory ∧ first.toNat ≤ 5 then
      answer .done (crankHistoryPayload first.toNat s) s
    else answer .badField [] s
  | _ => answer .badField [] s

/-- READ_CRANK_HISTORY (R39, R174). -/
def execReadCrankHistory (l : Link) (seq : Byte) (payload : List Byte) (s : State) :
    Host.Outcome State Fault Refusal :=
  .next (readRequest .crankHistory l seq payload (ownerReadCrankHistory payload) s)

/-! ### Target 2, the protection table (R176) -/

/-- One entry byte. -/
def entryByte (s : State) (e : Entry) : Byte :=
  let r := s.pru.entry e
  byte (r.state.code + flag r.acknowledged 2 + flag r.masked 3 + (classOf e).code * 16 +
    flag (overTripLimit s.cfg.active e r) 7)

/-- The 18 bytes of the protection table. -/
def protectionPayload (s : State) : List Byte :=
  allEntries.map (entryByte s) ++ [byte s.pru.deratePct.toNat, byte (s.pru.notchLimit.getD 9)]

/-- The answer to a READ of target 2. -/
def ownerReadProtectionTable (payload : List Byte) (s : State) : Answer :=
  match payload with
  | [t] =>
    if readTargetOf t = some .protection then answer .done (protectionPayload s) s else answer .badField [] s
  | _ => answer .badField [] s

/-- READ_PROTECTION_TABLE (R99, R174, R176). -/
def execReadProtectionTable (l : Link) (seq : Byte) (payload : List Byte) (s : State) :
    Host.Outcome State Fault Refusal :=
  .next (readRequest .protection l seq payload (ownerReadProtectionTable payload) s)

/-! ### Target 3, the analog channel and speed records (R175) -/

/-- One channel record: 4 bytes, or 6 while forced. -/
def channelRecordBytes (r : ChannelRec) : List Byte :=
  [byte (r.raw / 256 + r.state.code * 16 + flag r.forced.isSome 6), byte r.raw] ++ beInt r.eng ++
    (match r.forced with
      | some v => beInt v
      | none => [])

/-- The speed record: 11 bytes. -/
def speedRecordBytes (p : Spd) : List Byte :=
  be16 p.measured ++ be16 p.overspeed ++ be16 p.a.rpm ++ be16 p.b.rpm ++
    [byte (flag p.a.failed 0 + flag p.b.failed 1 + flag p.a.aboveRange 2 + flag p.b.aboveRange 3 +
      flag p.speedDisagree 4 + flag p.senseLost 5 + flag p.forceInEffect.isSome 6)] ++
    be16 (p.forceInEffect.getD 0)

/-- The seven records in scan order, the speed record last. -/
def analogRecords (s : State) : List (List Byte) :=
  [channelRecordBytes s.ins.lube, channelRecordBytes s.ins.coolant, channelRecordBytes s.ins.fuel,
   channelRecordBytes s.ins.battery, channelRecordBytes s.ins.intake, channelRecordBytes s.ins.crankcase,
   speedRecordBytes s.spd]

/-- The payload of a READ of target 3: the first index echoed, then the records that fit. -/
def analogPayload (first : Nat) (s : State) : List Byte :=
  byte first :: packRecords 31 ((analogRecords s).drop first)

/-- The answer to a READ of target 3. -/
def ownerReadAnalogChannelRecords (payload : List Byte) (s : State) : Answer :=
  match payload with
  | [t, first] =>
    if readTargetOf t = some .analog ∧ first.toNat ≤ 6 then answer .done (analogPayload first.toNat s) s
    else answer .badField [] s
  | _ => answer .badField [] s

/-- READ_ANALOG_CHANNEL_RECORDS (R56, R69, R174, R175). -/
def execReadAnalogChannelRecords (l : Link) (seq : Byte) (payload : List Byte) (s : State) :
    Host.Outcome State Fault Refusal :=
  .next (readRequest .analog l seq payload (ownerReadAnalogChannelRecords payload) s)

/-! ### Target 4, the source table summary (R176) -/

/-- One framed entry: 4 bytes. -/
def framedEntryBytes (f : FramedSource) : List Byte :=
  [byte (f.linkState.code + flag f.envelope.isSome 2 + flag f.fresh 3 + f.demand * 16)] ++
    (match f.envelope with
      | some e =>
        [byte (e.maxNotch + flag e.mayStart 4 + flag e.mayStop 5 + flag e.autoStop 6), byte e.interval]
      | none => [0, 0]) ++
    [byte (f.run.code + flag f.limited 2)]

/-- The trainline: 3 bytes. -/
def trainlineBytes (t : Trainline) : List Byte :=
  [byte (t.state.code + flag t.invalid 2 + flag t.fresh 3),
   byte (flag t.used.w1 0 + flag t.used.w2 1 + flag t.used.w3 2 + flag t.used.w4 3 + flag t.used.run 4 +
     flag t.used.stop 5),
   byte (t.decoded + t.effective * 16)]

/-- The authority part: 4 bytes. -/
def authorityBytes (a : Aut) : List Byte :=
  match a.handover with
  | some h =>
    [byte (a.holderCode + (linkSource h.claimant).code * 8 + flag (decide (h.stage = .awaitTake)) 6 +
       flag h.override 7),
     byte h.holderAtStart.code, byte h.number, byte a.nextNumber]
  | none => [byte a.holderCode, 0, 0, byte a.nextNumber]

/-- The 19 bytes of the source table summary. -/
def sourcePayload (a : Aut) : List Byte :=
  framedEntryBytes a.stand ++ trainlineBytes a.trainline ++ framedEntryBytes a.remote ++
    framedEntryBytes a.service ++ authorityBytes a

/-- The answer to a READ of target 4. -/
def ownerReadSourceTableSummary (payload : List Byte) (s : State) : Answer :=
  match payload with
  | [t] => if readTargetOf t = some .sources then answer .done (sourcePayload s.aut) s else answer .badField [] s
  | _ => answer .badField [] s

/-- READ_SOURCE_TABLE_SUMMARY (R174, R176). -/
def execReadSourceTableSummary (l : Link) (seq : Byte) (payload : List Byte) (s : State) :
    Host.Outcome State Fault Refusal :=
  .next (readRequest .sources l seq payload (ownerReadSourceTableSummary payload) s)

/-! ### Target 5, a configuration entry (R187) -/

/-- The seven bytes of a configuration entry. -/
def configurationPayload (c : Cfg) (group : Fin 5) (field : Nat) : List Byte :=
  [byte group.val, byte field] ++ beInt (c.active.field group.val field) ++ beInt (c.edited.field group.val field) ++
    [byte ((c.groups[group]).code + flag c.writing 2 + flag c.checkBad 3)]

/-- The answer to a READ of target 5. -/
def ownerReadConfigurationEntry (payload : List Byte) (s : State) : Answer :=
  match payload with
  | [t, g, f] =>
    match groupOperand [g] with
    | some group =>
      if readTargetOf t = some .configuration ∧ (fieldSpec group.val f.toNat).isSome = true then
        answer .done (configurationPayload s.cfg group f.toNat) s
      else answer .badField [] s
    | none => answer .badField [] s
  | _ => answer .badField [] s

/-- READ_CONFIGURATION_ENTRY (R174, R187). -/
def execReadConfigurationEntry (l : Link) (seq : Byte) (payload : List Byte) (s : State) :
    Host.Outcome State Fault Refusal :=
  .next (readRequest .configuration l seq payload (ownerReadConfigurationEntry payload) s)

/-! ### Target 6, the engine run record (R177) -/

/-- The four bytes of the engine run record. -/
def runRecordPayload (r : Rsq) : List Byte :=
  [byte (r.startKind.code + flag r.cold 2 + flag r.restartPending 3 + r.attempt * 16), byte r.startResult.code,
   byte (match r.startReason with
     | some why => why.code
     | none => 0),
   byte r.stopCause.code]

/-- The answer to a READ of target 6. -/
def ownerReadEngineRunRecord (payload : List Byte) (s : State) : Answer :=
  match payload with
  | [t] =>
    if readTargetOf t = some .runRecord then answer .done (runRecordPayload s.rsq) s else answer .badField [] s
  | _ => answer .badField [] s

/-- READ_ENGINE_RUN_RECORD (R174, R177). -/
def execReadEngineRunRecord (l : Link) (seq : Byte) (payload : List Byte) (s : State) :
    Host.Outcome State Fault Refusal :=
  .next (readRequest .runRecord l seq payload (ownerReadEngineRunRecord payload) s)

end Sys2Proof.Machine
end

