-- ==== Sys2Proof/Machine/Reset.lean ====
section
/-! DEFINITION. The meanings of POWER_ON, RESET_LINE and SELF_CHECK_END (R28, R184, R121 and the reset tables). -/

namespace Sys2Proof.Machine

/-- The whole part resets (spec/00_scope.md 5.6): every block takes its reset values and the self-check begins. The
non-volatile store and the group states are kept (R179, R183), and the lines stand at the levels they have (R73, R112). -/
def resetPart (s : State) : State :=
  let cfg := resetCfg s.cfg
  { rsq := resetRsq
    spd := resetSpd
    ins := resetIns s.ins.emergencyStop.level s.ins.turningGear.level s.ins.groundRelay.level
      s.ins.starterEngaged.level
    pru := resetPru
    aut := resetAut s.aut.trainline.wires.lineLevels
    ntu := resetNtu
    iru := resetIru
    links := resetLinks cfg.active
    cfg := cfg
    pending := s.pending }

/-- POWER_ON (R184): the whole part resets. -/
def execPowerOn (s : State) : Host.Outcome State Fault Refusal := .next (resetPart s)

/-- RESET_LINE (R184): the whole part resets as at POWER-ON. -/
def execResetLine (s : State) : Host.Outcome State Fault Refusal := .next (resetPart s)

/-- CFG at the end of the self-check: the pending table equals the active one, and the self-check is complete (R184). -/
def checkedCfg (c : Cfg) : Cfg := { c with edited := c.active, checking := false }

/-- RSQ's first working state, on the measured speed of the moment and PRU's answer (R28). -/
def firstEngineState (s : State) : State :=
  if 0 < s.spd.measured then enterRundown s
  else if s.pru.shutdownInService then changeEngine .lockedOut s
  else s

/-- AUT sets the trainline state afresh from TRAINLINE FOLLOW and the RUN level it uses (R101). -/
def Trainline.judged (follow : Bool) (t : Trainline) : Trainline :=
  { t with state := trainlineStateOf follow t.used.run }

/-- SELF_CHECK_END (R184, R28, R101, R121). -/
def execSelfCheckEnd (s : State) : Host.Outcome State Fault Refusal :=
  .next <|
    if s.cfg.checking then
      finish s false
        (trainlineEvent (Trainline.judged s.cfg.active.trainlineFollow) (firstEngineState (s.mapCfg checkedCfg)))
    else s

end Sys2Proof.Machine
end

