-- ==== Sys2Proof/Machine/Sources.lean ====
section
/-! DEFINITION. The meanings of ENROL, DEMAND, FRESHNESS_TIMER_EXPIRY and of the trainline's events (chapter 6, R121,
R126). -/

namespace Sys2Proof.Machine

/-! ### ENROL (R102 to R104) -/

/-- A source entry enrolled with an envelope (R102); the freshness timer runs three intervals, in ms. -/
def FramedSource.enrolled (e : Envelope) (f : FramedSource) : FramedSource :=
  { f with
    linkState := .active, envelope := some e, demand := 0, run := .none, limited := false, fresh := false
    freshness := some (30 * e.interval) }

/-- The frames queued behind a failed ENROL are discarded and counted (R103). -/
def LinkIf.discardQueue (x : LinkIf) : LinkIf :=
  { x with queue := [], inertDiscards := min 65535 (x.inertDiscards + x.queue.length) }

/-- A failed enrolment: the link becomes INERT and there is no reply (R103, R104, R132). -/
def failEnrol (l : Link) (s : State) : Answer :=
  ⟨settle s false ((leaveActive l .inert s).mapLink l LinkIf.discardQueue), none⟩

/-- AUT's answer to ENROL (R102 to R104). -/
def ownerEnrol (l : Link) (payload : List Byte) (s : State) : Answer :=
  if (s.aut.source l).linkState = .active ∧ s.aut.holds l = true then answer .refusedState [] s
  else
    match enrolOperand s.cfg.active l payload with
    | some e => answer .done [] (s.mapSource l (FramedSource.enrolled e))
    | none => failEnrol l s

/-- ENROL (R102 to R104). -/
def execEnrol (l : Link) (seq : Byte) (payload : List Byte) (s : State) : Host.Outcome State Fault Refusal :=
  .next (request l ⟨kindEnrol, seq, payload⟩ (ownerEnrol l payload) s)

/-! ### DEMAND (R108 to R111) -/

/-- A DEMAND recorded in its source's entry (R108). -/
def FramedSource.recorded (notch : Nat) (run : RunRequest) (f : FramedSource) : FramedSource :=
  { f with demand := min notch f.maxNotch, run := run, limited := decide (f.maxNotch < notch) }

/-- Whether a source's envelope lets its START be forwarded. -/
def FramedSource.mayStart (f : FramedSource) : Bool :=
  match f.envelope with
  | some e => e.mayStart
  | none => false

/-- Whether a source's envelope lets its STOP be forwarded. -/
def FramedSource.mayStop (f : FramedSource) : Bool :=
  match f.envelope with
  | some e => e.mayStop
  | none => false

/-- What the holder's run request does at RSQ (R110): the state after it, and the refusing result with the start reason
code, or `none` where the reply is DONE. -/
def runRequest (l : Link) (run : RunRequest) (s : State) : State × Option (Result × Nat) :=
  match run with
  | .none => (s, none)
  | .start =>
    if (s.aut.source l).mayStart then
      match holderStart s with
      | (s1, none) => (s1, none)
      | (s1, some why) => (s1, some (.refusedState, why.code))
    else (s, some (.notPermitted, 0))
  | .stop => if (s.aut.source l).mayStop then (holderStop s, none) else (s, some (.notPermitted, 0))

/-- The holder's DEMAND, already recorded (R110): the fresh flag sets, the run request is treated, IRU takes the arrival,
and NTU follows at the end of the event (log 7). -/
def holderDemandEvent (l : Link) (run : RunRequest) (s : State) : Answer :=
  let s1 := s.mapSource l fun f => { f with fresh := true }
  let f := s1.aut.source l
  let r := runRequest l run s1
  let s2 := settle s false (demandArrival f.demand run r.1)
  match r.2 with
  | some (result, code) => answer result [byte f.demand, byte code] s2
  | none => answer (if f.limited then .doneLimited else .done) [byte f.demand, 0] s2

/-- AUT's answer to DEMAND (R108 to R110). -/
def ownerDemand (l : Link) (payload : List Byte) (s : State) : Answer :=
  match demandOperand payload with
  | none => answer .badField [] s
  | some (notch, run) =>
    let s1 := s.mapSource l (FramedSource.recorded notch run)
    if s.aut.holds l then holderDemandEvent l run s1
    else answer .notHolder [byte (s1.aut.source l).demand, 0] s1

/-- DEMAND (R108 to R111). -/
def execDemand (l : Link) (seq : Byte) (payload : List Byte) (s : State) : Host.Outcome State Fault Refusal :=
  .next (request l ⟨kindDemand, seq, payload⟩ (ownerDemand l payload) s)

/-- FRESHNESS_TIMER_EXPIRY (R106, R131, R132): an ACTIVE source goes stale. -/
def execFreshnessTimerExpiry (l : Link) (s : State) : Host.Outcome State Fault Refusal :=
  let f := s.aut.source l
  .next <|
    if f.linkState = .active ∧ f.freshness.isSome = true then finish s false (leaveActive l .down s) else s

/-! ### The trainline -/

/-- A change of a wire's level (R112). -/
def WireFilter.levelChanged (level : Bool) (w : WireFilter) : WireFilter :=
  if w.level = level then w
  else { w with level := level, timer := if level = w.debounced then none else some 60 }

/-- Change one wire's filter. -/
def Trainline.mapWire (x : Wire) (f : WireFilter → WireFilter) (t : Trainline) : Trainline :=
  { t with wires := t.wires.setWire x (f (t.wires.wire x)) }

/-- TRAINLINE_WIRE_LEVEL_CHANGE (R112). -/
def execTrainlineWireLevelChange (x : Wire) (level : Bool) (s : State) : Host.Outcome State Fault Refusal :=
  .next (s.mapAut fun a => { a with trainline := a.trainline.mapWire x (WireFilter.levelChanged level) })

/-- A wire's debounced level takes its level; what the decoder, the state and the STOP hold then see changes with it,
unless a force is in effect (R112 to R117). -/
def Trainline.debounce (follow checking : Bool) (x : Wire) (t : Trainline) : Trainline :=
  (t.mapWire x fun w => { w with debounced := w.level, timer := none }).levelsChanged follow checking t.used

/-- TRAINLINE_DEBOUNCED_CHANGE (R112 to R116). -/
def execTrainlineDebouncedChange (x : Wire) (s : State) : Host.Outcome State Fault Refusal :=
  .next <|
    if (s.aut.trainline.wires.wire x).timer.isSome then
      finish s false (trainlineEvent (Trainline.debounce s.cfg.active.trainlineFollow s.cfg.checking x) s)
    else s

/-- The settle timer expires: a valid code is adopted, an invalid one is not (R113). -/
def Trainline.settled (t : Trainline) : Trainline :=
  match t.used.notch with
  | some n => { t with settle := none, decoded := n, invalid := false, invalidTimer := none }
  | none => { t with settle := none }

/-- SETTLE_TIMER_EXPIRY (R113). -/
def execSettleTimerExpiry (s : State) : Host.Outcome State Fault Refusal :=
  .next <|
    if s.aut.trainline.settle.isSome then finish s false (trainlineEvent Trainline.settled s) else s

/-- The invalid timer expires (R114). -/
def Trainline.invalidated (t : Trainline) : Trainline := { t with invalidTimer := none, invalid := true, decoded := 0 }

/-- INVALID_TIMER_EXPIRY (R114). -/
def execInvalidTimerExpiry (s : State) : Host.Outcome State Fault Refusal :=
  .next <|
    if s.aut.trainline.invalidTimer.isSome then finish s false (trainlineEvent Trainline.invalidated s) else s

/-- STOP_HOLD_EXPIRY (R116): a STOP is forwarded to RSQ if the trainline holds authority, and is dropped otherwise. -/
def execStopHoldExpiry (s : State) : Host.Outcome State Fault Refusal :=
  .next <|
    if s.aut.trainline.stopHold.isSome then
      let s1 := s.mapAut fun a => { a with trainline := { a.trainline with stopHold := none } }
      finish s false (if s.aut.holder = some .trainline then holderStop s1 else s1)
    else s

end Sys2Proof.Machine
end

