-- ==== Sys2Proof/Machine/Speed.lean ====
section
/-! DEFINITION. The meanings of PICKUP_PULSE and WINDOW_COMPLETES (chapter 3, R11, R14, R16, R23, R29). -/

namespace Sys2Proof.Machine

/-- One pulse on a pickup line (R41). -/
def PickupRec.pulse (p : PickupRec) : PickupRec := { p with count := satInc 4095 p.count }

/-- PICKUP_PULSE (R41). -/
def execPickupPulse (p : Pickup) (s : State) : Host.Outcome State Fault Refusal :=
  .next <| s.mapSpd fun d =>
    match p with
    | .a => { d with a := d.a.pulse }
    | .b => { d with b := d.b.pulse }

/-! ### The stages of R52 -/

/-- What one window's count says of a pickup (R42). -/
structure Reading where
  rpm : Nat
  above : Bool
  silent : Bool
  deriving DecidableEq, Repr

/-- The reading of a count (R42). -/
def readingOf (t : Table) (count : Nat) : Reading :=
  let rpm := count * 600 / t.teeth
  { rpm := min 1600 rpm, above := decide (1600 < rpm), silent := decide (count < t.pMin) }

/-- The difference of two readings. -/
def apart (x y : Reading) : Nat := max x.rpm y.rpm - min x.rpm y.rpm

/-- Whether two readings agree: at most TOL apart (R45). -/
def agree (t : Table) (x y : Reading) : Bool := decide (apart x y ≤ t.tol)

/-- The counts restarted and the reading stored (R41, R42). -/
def PickupRec.withReading (r : Reading) (p : PickupRec) : PickupRec :=
  { p with count := 0, rpm := r.rpm, aboveRange := r.above }

/-- Stage 3: the failure test of a GOOD pickup `x` against the other, `y` (R43). -/
def failTest (rx ry : Reading) (x y : PickupRec) : PickupRec :=
  if x.failed then x
  else if rx.silent && !y.failed && !ry.silent && decide (60 ≤ ry.rpm) then
    if 5 ≤ x.failCount + 1 then { x with failed := true, failCount := 0, recoveryCount := 0 }
    else { x with failCount := x.failCount + 1 }
  else { x with failCount := 0 }

/-- Stage 4: the recovery test of a FAILED pickup `x` against the other, `y`, which is GOOD (R44). -/
def recoveryTest (t : Table) (rx ry : Reading) (x y : PickupRec) : PickupRec :=
  if x.failed && !y.failed then
    if !rx.silent && agree t rx ry then
      if 20 ≤ x.recoveryCount + 1 then { x with failed := false, failCount := 0, recoveryCount := 0 }
      else { x with recoveryCount := x.recoveryCount + 1 }
    else { x with recoveryCount := 0 }
  else x

/-- Stages 1 to 4 for both pickups. -/
def pickupStages (t : Table) (ra rb : Reading) (d : Spd) : Spd :=
  let a1 := failTest ra rb (d.a.withReading ra) d.b
  let b1 := failTest rb ra (d.b.withReading rb) d.a
  { d with a := recoveryTest t ra rb a1 b1, b := recoveryTest t rb ra b1 a1 }

/-- Stage 5: the disagreement test (R45). -/
def disagreeTest (t : Table) (ra rb : Reading) (d : Spd) : Spd :=
  if d.a.failed || d.b.failed then { d with speedDisagree := false, disagreeCount := 0, agreeCount := 0 }
  else if d.speedDisagree then
    if agree t ra rb then
      if 10 ≤ d.agreeCount + 1 then { d with speedDisagree := false, agreeCount := 10, disagreeCount := 0 }
      else { d with agreeCount := d.agreeCount + 1 }
    else { d with agreeCount := 0 }
  else if agree t ra rb then { d with disagreeCount := 0 }
  else if 10 ≤ d.disagreeCount + 1 then { d with speedDisagree := true, disagreeCount := 10, agreeCount := 0 }
  else { d with disagreeCount := d.disagreeCount + 1 }

/-- The choice of R47 from the pickup states and the readings. -/
def chosenSpeed (t : Table) (ra rb : Reading) (d : Spd) : Nat :=
  if d.a.failed then rb.rpm
  else if d.b.failed then ra.rpm
  else if agree t ra rb then (ra.rpm + rb.rpm) / 2
  else max ra.rpm rb.rpm

/-- The highest window speed among the GOOD pickups (R48). -/
def chosenOverspeed (ra rb : Reading) (d : Spd) : Nat :=
  max (if d.a.failed then 0 else ra.rpm) (if d.b.failed then 0 else rb.rpm)

/-- Stages 7 and 8: the measured speed, with the sense-lost latch as it stands, and the overspeed speed (R47, R48, R51). -/
def speedStages (t : Table) (ra rb : Reading) (d : Spd) : Spd :=
  { d with
    measured := if d.senseLost then 0 else chosenSpeed t ra rb d
    overspeed := chosenOverspeed ra rb d }

/-- Whether a window is blind (R50): `fuelled` says that FUEL ENABLE is energised in ACCELERATING, RUNNING or
UNLOADING. -/
def blind (fuelled : Bool) (ra rb : Reading) (d : Spd) : Bool :=
  (d.a.failed || ra.silent) && (d.b.failed || rb.silent) && fuelled

/-- Stage 9: the lost count, and whether this window declares speed sense lost (R50, R51). -/
def lostStage (isBlind : Bool) (d : Spd) : Spd × Bool :=
  if isBlind then
    if 5 ≤ d.lostCount + 1 then ({ d with lostCount := 0, senseLost := true }, true)
    else ({ d with lostCount := d.lostCount + 1 }, false)
  else ({ d with lostCount := 0 }, false)

/-- A window on the pulses: SPD after it, and whether it declares speed sense lost. -/
def liveWindow (t : Table) (fuelled : Bool) (d : Spd) : Spd × Bool :=
  let ra := readingOf t d.a.count
  let rb := readingOf t d.b.count
  let d1 := speedStages t ra rb (disagreeTest t ra rb (pickupStages t ra rb d))
  lostStage (blind fuelled ra rb d1) d1

/-- A window under a speed force: the counts restart, the readings are the forced value, and no health count or state
changes (R53). -/
def forcedWindow (t : Table) (v : Nat) (d : Spd) : Spd :=
  let r : Reading := { rpm := v, above := false, silent := false }
  speedStages t r r { d with a := d.a.withReading r, b := d.b.withReading r }

/-- The work of one window (R52): a force stored before it comes into effect with it, and a force released before it has
ended with it (R53). -/
def windowWork (t : Table) (fuelled : Bool) (d : Spd) : Spd × Bool :=
  let d1 : Spd := { d with forceInEffect := d.force }
  match d.force with
  | some v => (forcedWindow t v d1, false)
  | none => liveWindow t fuelled d1

/-! ### RSQ at a window -/

/-- The run accumulator (R29). -/
def runAccumulate (counters : EngineCounters) : EngineCounters :=
  if 3600 ≤ counters.runAcc + 1 then
    { counters with runAcc := 0, runTime := satInc 4294967295 counters.runTime }
  else { counters with runAcc := counters.runAcc + 1 }

/-- The attempt fires (R11): the latch sets, the record is written FIRED, and RSQ enters ACCELERATING (R13). -/
def fireAttempt (s : State) : State :=
  let s1 := s.mapRsq fun r => writeAttempt .fired (elapsedCranking r.history) { r with crankFuelLatch := true }
  (changeEngine .accelerating s1).mapTimers fun x =>
    { x with acceleration := some (tenthsMs s.cfg.active.accelLimit), lubeArming := some 10000 }

/-- The crank fuel latch sets (R11). -/
def latchCrankFuel (s : State) : State :=
  s.mapRsq fun r => { r with crankFuelLatch := true, fuelEnable := true }

/-- ACCELERATING succeeds (R14). -/
def succeedStart (s : State) : State :=
  changeEngine .running
    (s.mapRsq fun r =>
      closeFired .fired
        { r with
          startResult := .started
          counters := { r.counters with successfulStarts := satInc 65535 r.counters.successfulStarts } })

/-- The stall timer of ACCELERATING at a window (R14). -/
def stallTimerAt (fireSpeed : Int) (speed : Nat) (t : Timer) : Timer :=
  if (speed : Int) < fireSpeed - 50 then (if t.isNone then some 1000 else t) else none

/-- The zero hold timer at a window, with the hold time in ms (R16, R23). -/
def zeroHoldAt (ms : Nat) (confirmed : Bool) (speed : Nat) (t : Timer) : Timer :=
  if speed = 0 then (if t.isNone && !confirmed then some ms else t) else none

/-- RSQ's thresholds at a window in CRANKING (R11). -/
def crankingThresholds (s : State) : State :=
  if s.cfg.active.fireSpeed ≤ (s.spd.measured : Int) then fireAttempt s
  else if s.cfg.active.crankFuelSpeed ≤ (s.spd.measured : Int) then latchCrankFuel s
  else s

/-- RSQ's work at a window in CRANKING: a tenth of a second more, then the thresholds (R11, R33, log 3). -/
def crankingWindow (s : State) : State := crankingThresholds (s.mapRsq tickCranking)

/-- RSQ's work at a window in ACCELERATING (R14). -/
def acceleratingWindow (s : State) : State :=
  if (s.cfg.active.speedAt 0 : Int) - s.cfg.active.band ≤ (s.spd.measured : Int) then succeedStart s
  else s.mapTimers fun x => { x with stall := stallTimerAt s.cfg.active.fireSpeed s.spd.measured x.stall }

/-- RSQ's work at a window in CRANK REST (R16). -/
def crankRestWindow (s : State) : State :=
  s.mapRsq fun r =>
    { r with
      zeroConfirmed := r.zeroConfirmed && decide (s.spd.measured = 0)
      timers := { r.timers with zeroHold := zeroHoldAt 1000 r.zeroConfirmed s.spd.measured r.timers.zeroHold } }

/-- RSQ's work at a window in RUNDOWN (R23). -/
def rundownWindow (s : State) : State :=
  s.mapTimers fun x => { x with zeroHold := zeroHoldAt 2000 false s.spd.measured x.zeroHold }

/-- RSQ takes a window completion; during the self-check it changes nothing (R28). -/
def rsqWindow (s : State) : State :=
  if s.cfg.checking then s
  else
    let s1 :=
      if s.cfg.active.fireSpeed ≤ (s.spd.measured : Int) then
        s.mapRsq fun r => { r with counters := runAccumulate r.counters }
      else s
    match s.rsq.engine with
    | .cranking => crankingWindow s1
    | .accelerating => acceleratingWindow s1
    | .crankRest => crankRestWindow s1
    | .rundown => rundownWindow s1
    | .stopped | .autoStopped | .lockedOut | .prelube | .priming | .running | .unloading => s1

/-! ### The whole window -/

/-- What one window reports to PRU, as one arrival (R46, R48, R50, R83): PICKUP FAULT, OVERSPEED where the overspeed speed
is at or above the limit, SPEED SENSE LOST where it was declared. -/
def windowReports (fault isOver isLost : Bool) (p : Pru) : Pru :=
  let p1 := setCondition 13 fault p
  let p2 := if isOver then reportEvent 1 p1 else p1
  if isLost then reportEvent 2 p2 else p2

/-- Whether the engine is fuelled in a state in which a blind window counts (R50). -/
def fuelled (s : State) : Bool :=
  s.rsq.fuelEnable && (s.rsq.engine.runningFamily || decide (s.rsq.engine = .accelerating))

/-- WINDOW_COMPLETES (R41 to R53): SPD's stages, then RSQ, PRU and NTU in that order (log 7). -/
def execWindowCompletes (s : State) : Host.Outcome State Fault Refusal :=
  let w := windowWork s.cfg.active (fuelled s) s.spd
  let isOver := decide (s.cfg.active.overspeedLimit ≤ (w.1.overspeed : Int))
  .next (finish s true (pruEvent (windowReports w.1.pickupFault isOver w.2) (rsqWindow { s with spd := w.1 })))

end Sys2Proof.Machine
end

