-- ==== Sys2Proof/Machine/Store.lean ====
section
/-! DEFINITION. The meanings of WRITE_ENTRY, APPLY, LOCK_GROUP, UNLOCK_GROUP, FIX_GROUP, FORCE, RELEASE_FORCE and
STORE_WRITE_COMPLETION (chapter 11). -/

namespace Sys2Proof.Machine

/-! ### WRITE ENTRY (R181) -/

/-- CFG's answer to WRITE ENTRY (R181). -/
def ownerWriteEntry (payload : List Byte) (s : State) : Answer :=
  if s.aut.holds .service = false then answer .notHolder [] s
  else if s.cfg.writing then answer .busy [] s
  else
    match writeOperand payload with
    | none => answer .badField [] s
    | some (g, f, v, spec) =>
      if s.cfg.groups[g] ≠ .opened then answer .locked [] s
      else if spec.lo ≤ v ∧ v ≤ spec.hi then
        answer .done [] (s.mapCfg fun c => { c with edited := c.edited.setField g.val f v })
      else answer .badField [] s

/-- WRITE_ENTRY (R181). -/
def execWriteEntry (l : Link) (seq : Byte) (payload : List Byte) (s : State) : Host.Outcome State Fault Refusal :=
  .next (request l ⟨kindWriteEntry, seq, payload⟩ (ownerWriteEntry payload) s)

/-! ### APPLY (R182, R183) -/

/-- A cross-check of R182: whether it fails, and the field it names, by group and number. -/
structure CrossCheck where
  fails : Bool
  group : Nat
  field : Nat

/-- The cross-checks of R182 on a pending table, in the order of its table; `used` is the used starter time. The order
inside a row that names several fields is a DESIGN CHOICE (log 15). -/
def crossChecks (t : Table) (used : Nat) : List CrossCheck :=
  let v := t.field
  ([1, 2, 3, 4, 5, 6, 7, 8, 9].map fun p => ⟨v 0 p < v 0 (p - 1), 0, p⟩) ++
  ([11, 12, 13, 14, 15, 16, 17].map fun p => ⟨v 0 p < v 0 (p - 1), 0, p⟩) ++
  [⟨v 0 30 < v 0 17, 0, 30⟩,
   ⟨v 0 9 ≤ v 0 1, 0, 9⟩,
   ⟨v 3 3 ≤ v 0 9, 3, 3⟩,
   ⟨v 1 3 ≤ v 1 0, 1, 0⟩, ⟨v 1 3 ≤ v 1 1, 1, 1⟩, ⟨v 1 3 ≤ v 1 2, 1, 2⟩,
   ⟨v 1 9 ≤ v 1 8, 1, 9⟩,
   ⟨v 1 19 < (used : Int), 1, 19⟩,
   ⟨v 2 5 ≤ v 2 6, 2, 6⟩, ⟨v 2 10 ≤ v 2 9, 2, 10⟩, ⟨v 2 13 ≤ v 2 12, 2, 13⟩, ⟨v 2 23 ≤ v 2 22, 2, 23⟩,
   ⟨v 2 15 ≤ v 2 14, 2, 14⟩, ⟨v 2 19 ≤ v 2 18, 2, 18⟩, ⟨v 2 14 ≤ v 2 17, 2, 17⟩, ⟨v 2 18 ≤ v 2 21, 2, 21⟩,
   ⟨v 2 3 < v 2 2, 2, 3⟩,
   ⟨v 4 10 ≤ v 4 12, 4, 12⟩, ⟨v 4 11 ≤ v 4 13, 4, 13⟩]

/-- The field that the first failing cross-check names. -/
def failingCheck (t : Table) (used : Nat) : Option (Nat × Nat) :=
  ((crossChecks t used).find? (·.fails)).map fun c => (c.group, c.field)

/-- The whole pending table becomes active and the store write begins; AUT sets the trainline state afresh, and IRU judges
its conditions at the end of the event (R182, R101, R158). -/
def applyPending (s : State) : State :=
  let s1 := s.mapCfg fun c => { c with active := c.edited, writing := true }
  let follow := s1.cfg.active.trainlineFollow
  settle s false (trainlineEvent (fun t => { t with state := trainlineStateOf follow t.used.run }) s1)

/-- CFG's answer to APPLY (R182). -/
def ownerApply (s : State) : Answer :=
  if s.aut.holds .service = false then answer .notHolder [] s
  else if s.cfg.writing then answer .busy [] s
  else if s.rsq.engine.atRest = false then answer .refusedState [] s
  else
    match failingCheck s.cfg.edited (usedStarterTime s.rsq.history) with
    | some (g, f) => answer .badTable [byte g, byte f] s
    | none => answer .done [] (applyPending s)

/-- APPLY (R182); any payload is ignored. -/
def execApplyTable (l : Link) (seq : Byte) (payload : List Byte) (s : State) : Host.Outcome State Fault Refusal :=
  .next (request l ⟨kindApply, seq, payload⟩ ownerApply s)

/-- STORE_WRITE_COMPLETION (R183): the store holds the active table with a good check, and CONFIG DEFAULTED clears. -/
def execStoreWriteCompletion (s : State) : Host.Outcome State Fault Refusal :=
  .next <|
    if s.cfg.writing then
      rejudgeAttn (s.mapCfg fun c =>
        { c with
          store := c.active, storeGood := true, checkBad := false, defaulted := false, writing := false })
    else s

/-! ### Group protection (R180) -/

/-- A group at LOCK and FIX: its pending values become its active ones (R180). -/
def Cfg.closeGroup (g : Fin 5) (new : GroupState) (c : Cfg) : Cfg :=
  { c with groups := c.groups.set g new, edited := c.edited.copyGroup c.active g }

/-- The tests the three group requests share, in the order of R180; `allowed` is the state test. -/
def groupRequest (allowed : GroupState → Bool) (act : Fin 5 → Cfg → Cfg) (payload : List Byte) (s : State) : Answer :=
  if s.cfg.writing then answer .busy [] s
  else
    match groupOperand payload with
    | none => answer .badField [] s
    | some g =>
      if allowed s.cfg.groups[g] then answer .done [] (s.mapCfg (act g)) else answer .refusedState [] s

/-- CFG's answer to LOCK GROUP (R180). -/
def ownerLockGroup (payload : List Byte) (s : State) : Answer :=
  groupRequest (fun g => g = .opened) (fun g => Cfg.closeGroup g .locked) payload s

/-- LOCK_GROUP (R180). -/
def execLockGroup (l : Link) (seq : Byte) (payload : List Byte) (s : State) : Host.Outcome State Fault Refusal :=
  .next (request l ⟨kindLockGroup, seq, payload⟩ (ownerLockGroup payload) s)

/-- CFG's answer to UNLOCK GROUP (R180). -/
def ownerUnlockGroup (payload : List Byte) (s : State) : Answer :=
  groupRequest (fun g => g = .locked) (fun g c => { c with groups := c.groups.set g .opened }) payload s

/-- UNLOCK_GROUP (R180). -/
def execUnlockGroup (l : Link) (seq : Byte) (payload : List Byte) (s : State) : Host.Outcome State Fault Refusal :=
  .next (request l ⟨kindUnlockGroup, seq, payload⟩ (ownerUnlockGroup payload) s)

/-- CFG's answer to FIX GROUP (R180). -/
def ownerFixGroup (payload : List Byte) (s : State) : Answer :=
  groupRequest (fun g => g ≠ .fixed) (fun g => Cfg.closeGroup g .fixed) payload s

/-- FIX_GROUP (R180). -/
def execFixGroup (l : Link) (seq : Byte) (payload : List Byte) (s : State) : Host.Outcome State Fault Refusal :=
  .next (request l ⟨kindFixGroup, seq, payload⟩ (ownerFixGroup payload) s)

/-! ### FORCE and RELEASE FORCE (R185, R186) -/

/-- Put a force on its target (R185). -/
def applyForce (v : ForceValue) (s : State) : State :=
  match v with
  | .speed rpm => forceSpeed (some rpm) s
  | .channel c x => forceChannel c (some x) s
  | .discrete d x => forceDiscrete d (some x) s
  | .wires w => forceWires (some w) s

/-- The answer to FORCE (R185). -/
def ownerForce (payload : List Byte) (s : State) : Answer :=
  if s.aut.holds .service = false then answer .notHolder [] s
  else if s.rsq.engine.atRest = false then answer .refusedState [] s
  else
    match forceOperand payload with
    | none => answer .badField [] s
    | some v => answer .done [] (settle s false (applyForce v s))

/-- FORCE (R185). -/
def execForce (l : Link) (seq : Byte) (payload : List Byte) (s : State) : Host.Outcome State Fault Refusal :=
  .next (request l ⟨kindForce, seq, payload⟩ (ownerForce payload) s)

/-- Release the force of one target, 0 to 11 (R186). -/
def releaseTarget (n : Nat) (s : State) : State :=
  if n = 0 then forceSpeed none s
  else if n = 11 then forceWires none s
  else
    match channelTarget n, discreteTarget n with
    | some c, _ => forceChannel c none s
    | none, some d => forceDiscrete d none s
    | none, none => s

/-- The answer to RELEASE FORCE (R186). -/
def ownerReleaseForce (payload : List Byte) (s : State) : Answer :=
  match payload with
  | [target] =>
    if 12 ≤ target.toNat ∧ target.toNat ≤ 254 then answer .badField [] s
    else if s.aut.holds .service = false then answer .notHolder [] s
    else if target = 255 then answer .done [] (settle s false (forceWires none (releaseInputs s)))
    else answer .done [] (settle s false (releaseTarget target.toNat s))
  | _ => answer .badField [] s

/-- RELEASE_FORCE (R186). -/
def execReleaseForce (l : Link) (seq : Byte) (payload : List Byte) (s : State) : Host.Outcome State Fault Refusal :=
  .next (request l ⟨kindReleaseForce, seq, payload⟩ (ownerReleaseForce payload) s)

end Sys2Proof.Machine
end

