-- ==== Sys2Proof/Machine/Dispatch.lean ====
section
/-! DEFINITION. The dispatch: one arm per command, each a direct call of its meaning. -/

namespace Sys2Proof.Machine

def exec (i : Instr) (s : State) : Host.Outcome State Fault Refusal :=
  match i with
  | .powerOn => Sys2Proof.Machine.execPowerOn s
  | .resetLine => Sys2Proof.Machine.execResetLine s
  | .selfCheckEnd => Sys2Proof.Machine.execSelfCheckEnd s
  | .linkBreak link => Sys2Proof.Machine.execLinkBreak link s
  | .goodFrame link kind seq payload => Sys2Proof.Machine.execGoodFrame link kind seq payload s
  | .badFrame link => Sys2Proof.Machine.execBadFrame link s
  | .interByteGap link => Sys2Proof.Machine.execInterByteGap link s
  | .replySent link => Sys2Proof.Machine.execReplySent link s
  | .unknownKind link kind seq payload => Sys2Proof.Machine.execUnknownKind link kind seq payload s
  | .enrol link seq payload => Sys2Proof.Machine.execEnrol link seq payload s
  | .status link seq payload => Sys2Proof.Machine.execStatus link seq payload s
  | .demand link seq payload => Sys2Proof.Machine.execDemand link seq payload s
  | .claim link seq payload => Sys2Proof.Machine.execClaim link seq payload s
  | .yield link seq payload => Sys2Proof.Machine.execYield link seq payload s
  | .take link seq payload => Sys2Proof.Machine.execTake link seq payload s
  | .keep link seq payload => Sys2Proof.Machine.execKeep link seq payload s
  | .resetProtection link seq payload => Sys2Proof.Machine.execResetProtection link seq payload s
  | .resetAll link seq payload => Sys2Proof.Machine.execResetAll link seq payload s
  | .acknowledge link seq payload => Sys2Proof.Machine.execAcknowledge link seq payload s
  | .latch link seq payload => Sys2Proof.Machine.execLatch link seq payload s
  | .readLatched link seq payload => Sys2Proof.Machine.execReadLatched link seq payload s
  | .readCrankHistory link seq payload => Sys2Proof.Machine.execReadCrankHistory link seq payload s
  | .readProtectionTable link seq payload => Sys2Proof.Machine.execReadProtectionTable link seq payload s
  | .readAnalogChannelRecords link seq payload => Sys2Proof.Machine.execReadAnalogChannelRecords link seq payload s
  | .readSourceTableSummary link seq payload => Sys2Proof.Machine.execReadSourceTableSummary link seq payload s
  | .readConfigurationEntry link seq payload => Sys2Proof.Machine.execReadConfigurationEntry link seq payload s
  | .readEngineRunRecord link seq payload => Sys2Proof.Machine.execReadEngineRunRecord link seq payload s
  | .force link seq payload => Sys2Proof.Machine.execForce link seq payload s
  | .releaseForce link seq payload => Sys2Proof.Machine.execReleaseForce link seq payload s
  | .mask link seq payload => Sys2Proof.Machine.execMask link seq payload s
  | .unmask link seq payload => Sys2Proof.Machine.execUnmask link seq payload s
  | .writeEntry link seq payload => Sys2Proof.Machine.execWriteEntry link seq payload s
  | .applyTable link seq payload => Sys2Proof.Machine.execApplyTable link seq payload s
  | .lockGroup link seq payload => Sys2Proof.Machine.execLockGroup link seq payload s
  | .unlockGroup link seq payload => Sys2Proof.Machine.execUnlockGroup link seq payload s
  | .fixGroup link seq payload => Sys2Proof.Machine.execFixGroup link seq payload s
  | .clearTripCount link seq payload => Sys2Proof.Machine.execClearTripCount link seq payload s
  | .pickupPulse pickup => Sys2Proof.Machine.execPickupPulse pickup s
  | .windowCompletes => Sys2Proof.Machine.execWindowCompletes s
  | .conversion channel raw => Sys2Proof.Machine.execConversion channel raw s
  | .holdTimerExpiry channel => Sys2Proof.Machine.execHoldTimerExpiry channel s
  | .discreteInputLevelChange input level => Sys2Proof.Machine.execDiscreteInputLevelChange input level s
  | .debouncedChange input => Sys2Proof.Machine.execDebouncedChange input s
  | .filterTimerExpiry entry => Sys2Proof.Machine.execFilterTimerExpiry entry s
  | .prelubeMinimumExpiry => Sys2Proof.Machine.execPrelubeMinimumExpiry s
  | .prelubeLimitExpiry => Sys2Proof.Machine.execPrelubeLimitExpiry s
  | .primeTimerExpiry => Sys2Proof.Machine.execPrimeTimerExpiry s
  | .engageTimerExpiry => Sys2Proof.Machine.execEngageTimerExpiry s
  | .crankLimitExpiry => Sys2Proof.Machine.execCrankLimitExpiry s
  | .batteryDropoutExpiry => Sys2Proof.Machine.execBatteryDropoutExpiry s
  | .budgetTimerExpiry => Sys2Proof.Machine.execBudgetTimerExpiry s
  | .accelerationTimerExpiry => Sys2Proof.Machine.execAccelerationTimerExpiry s
  | .stallTimerExpiry => Sys2Proof.Machine.execStallTimerExpiry s
  | .lubeArmingExpiry => Sys2Proof.Machine.execLubeArmingExpiry s
  | .restTimerExpiry => Sys2Proof.Machine.execRestTimerExpiry s
  | .zeroHoldExpiryCrankRest => Sys2Proof.Machine.execZeroHoldExpiryCrankRest s
  | .zeroHoldExpiryRundown => Sys2Proof.Machine.execZeroHoldExpiryRundown s
  | .unloadTimerExpiry => Sys2Proof.Machine.execUnloadTimerExpiry s
  | .minuteTick => Sys2Proof.Machine.execMinuteTick s
  | .freshnessTimerExpiry link => Sys2Proof.Machine.execFreshnessTimerExpiry link s
  | .trainlineWireLevelChange wire level => Sys2Proof.Machine.execTrainlineWireLevelChange wire level s
  | .trainlineDebouncedChange wire => Sys2Proof.Machine.execTrainlineDebouncedChange wire s
  | .settleTimerExpiry => Sys2Proof.Machine.execSettleTimerExpiry s
  | .invalidTimerExpiry => Sys2Proof.Machine.execInvalidTimerExpiry s
  | .stopHoldExpiry => Sys2Proof.Machine.execStopHoldExpiry s
  | .yieldStageExpiry => Sys2Proof.Machine.execYieldStageExpiry s
  | .takeStageExpiry => Sys2Proof.Machine.execTakeStageExpiry s
  | .dwellTimerExpiry => Sys2Proof.Machine.execDwellTimerExpiry s
  | .rampInterval => Sys2Proof.Machine.execRampInterval s
  | .idleDwellExpiry => Sys2Proof.Machine.execIdleDwellExpiry s
  | .lowIdleDwellExpiry => Sys2Proof.Machine.execLowIdleDwellExpiry s
  | .autoStopTimerExpiry => Sys2Proof.Machine.execAutoStopTimerExpiry s
  | .batteryLowRestartExpiry => Sys2Proof.Machine.execBatteryLowRestartExpiry s
  | .storeWriteCompletion => Sys2Proof.Machine.execStoreWriteCompletion s

end Sys2Proof.Machine
end

