-- ==== Sys2Proof/Machine/Line.lean ====
section
/-! DEFINITION. The receiver of a link's line (R167): the frame in progress, what a byte, a gap and a break do to it, and
the commands that come of them. No command of the table carries a single byte, so a frame in progress is held here, beside
State, and State takes what the receiver reports (log 13). -/

namespace Sys2Proof.Machine

/-- What a receiver holds of its line. -/
inductive LineState where
  /-- no frame in progress -/
  | searching
  /-- SYNC received: the next byte is LENGTH -/
  | synced
  /-- LENGTH received, and after it these of LENGTH further bytes and the two CHECK bytes -/
  | collecting (length : Byte) (received : List Byte)
  deriving DecidableEq, Repr

/-- What happens on a line. -/
inductive LineInput where
  /-- a byte received -/
  | byte (b : Byte)
  /-- more than 5 ms since the end of the last byte -/
  | gap
  /-- a break of 100 ms -/
  | break100ms
  deriving DecidableEq, Repr

/-- What a receiver reports: the ends of a frame, and a LINK BREAK. -/
inductive LineReport where
  /-- a frame whose check matches -/
  | good (frame : Frame)
  /-- a framing error or a check that does not match -/
  | bad
  /-- a gap within a frame -/
  | gapped
  /-- a LINK BREAK -/
  | broken
  deriving DecidableEq, Repr

/-- Judge a frame once LENGTH, the LENGTH bytes after it and CHECK are there: `received` is all that follows LENGTH `n`. -/
def judgeBody (n : Byte) (received : List Byte) : LineReport :=
  let body := received.take n.toNat
  if received.drop n.toNat = be16 (crc16 (n :: body)).toNat then
    match body with
    | kind :: seq :: payload => .good ⟨kind, seq, payload⟩
    | _ => .bad
  else .bad

/-- A byte. With no frame in progress every byte but SYNC is ignored; the byte after SYNC is LENGTH, and one outside 2 to
34 ends the frame at once; the last byte of CHECK has the frame judged. After any end of a frame the search resumes with the
next byte. -/
def LineState.byte (b : Byte) : LineState → LineState × Option LineReport
  | .searching => (if b = syncByte then .synced else .searching, none)
  | .synced => if 2 ≤ b.toNat ∧ b.toNat ≤ 34 then (.collecting b [], none) else (.searching, some .bad)
  | .collecting n received =>
    let all := received ++ [b]
    if all.length < n.toNat + 2 then (.collecting n all, none) else (.searching, some (judgeBody n all))

/-- A gap: within a frame it ends the frame as a bad one, so the byte that ends the gap is judged as the first byte of a new
frame. -/
def LineState.gap : LineState → LineState × Option LineReport
  | .searching => (.searching, none)
  | .synced | .collecting _ _ => (.searching, some .gapped)

/-- One input. At a break the frame in progress is discarded without a report of its own. -/
def LineState.take (i : LineInput) (x : LineState) : LineState × Option LineReport :=
  match i with
  | .byte b => x.byte b
  | .gap => x.gap
  | .break100ms => (.searching, some .broken)

/-- The command a report brings. -/
def LineReport.command (l : Link) : LineReport → Instr
  | .good f => .goodFrame l f.kind f.seq f.payload
  | .bad => .badFrame l
  | .gapped => .interByteGap l
  | .broken => .linkBreak l

/-- The frame in progress after a line's inputs, and the commands they bring, in order. -/
def LineState.run (l : Link) : LineState → List LineInput → LineState × List Instr
  | x, [] => (x, [])
  | x, i :: rest =>
    let y := x.take i
    let z := y.1.run l rest
    (z.1, (y.2.map (·.command l)).toList ++ z.2)

/-! ### Bytes alone -/

/-- How the first frame of a byte string ends. -/
inductive LineVerdict where
  /-- no frame begun -/
  | noFrame
  /-- a frame in progress -/
  | incomplete
  /-- a frame that ended as a bad frame -/
  | bad
  /-- a good frame and the bytes after it -/
  | good (frame : Frame) (rest : List Byte)
  deriving DecidableEq, Repr

/-- Receive bytes until the first frame ends. -/
def LineState.receive : LineState → List Byte → LineVerdict
  | .searching, [] => .noFrame
  | .synced, [] | .collecting _ _, [] => .incomplete
  | x, b :: rest =>
    match x.byte b with
    | (y, none) => y.receive rest
    | (_, some (.good f)) => .good f rest
    | (_, some _) => .bad

/-- The first frame of a line on which none is in progress. -/
def receiveLine (bytes : List Byte) : LineVerdict := LineState.searching.receive bytes

end Sys2Proof.Machine
end

