-- ==== Sys2Proof/Safety.lean ====
section
/-! DEFINITION. What a safe state is: the laws the manual's prose gives for the whole machine, each a property of one
state, and the terms in which the statements speak of a command's effect: what it leaves unchanged, when a link takes a
request, what a reply is. -/

namespace Sys2Proof.Machine

/-- The four outputs of RSQ are those of the engine state (R2). -/
def OutputsLaw (s : State) : Prop :=
  s.rsq.prelubePump = prelubePumpIn s.rsq.engine ∧ s.rsq.fuelPump = fuelPumpIn s.rsq.engine ∧
    s.rsq.starter = starterIn s.rsq.engine ∧ s.rsq.fuelEnable = fuelEnableIn s.rsq.engine s.rsq.crankFuelLatch

/-- LOCKED OUT exactly when the engine is at rest with a SHUTDOWN entry in service; STOPPED during the self-check (R26,
R28). -/
def LockoutLaw (s : State) : Prop :=
  (s.cfg.checking = true → s.rsq.engine = .stopped) ∧
    (s.cfg.checking = false → s.rsq.engine.atRest = true →
      (s.rsq.engine = .lockedOut ↔ s.pru.shutdownInService = true))

/-- The applied notch is 0 outside RUNNING and UNLOADING and never above 8, and LOW IDLE is off outside them (R143,
R147). -/
def NotchLaw (s : State) : Prop :=
  s.ntu.applied ≤ 8 ∧
    (s.rsq.engine.runningFamily = false →
      s.ntu.applied = 0 ∧ s.ntu.lowIdle = false ∧ s.ntu.dwell = none ∧ s.ntu.unloadReported = false)

/-- LOAD PERMIT is energised exactly under the three conditions of R150, and without it the load target, the load
reference and EXCITATION REF are 0 (R150, R152, R154). -/
def LoadLaw (s : State) : Prop :=
  s.ntu.loadPermit = loadPermitWanted s ∧
    (s.ntu.loadPermit = false → s.ntu.loadTarget = 0 ∧ s.ntu.loadRef = 0 ∧ s.ntu.excitationRef = 0)

/-- E is what R140 makes of its inputs. -/
def EffectiveLaw (s : State) : Prop := s.ntu.e = effectiveNotch s

/-- ALARM BELL is energised exactly while an entry in service is unacknowledged (R89). -/
def BellLaw (s : State) : Prop := s.pru.bell = s.pru.bellWanted

/-- What R74 to R78 say of one entry's record: HELD only if latching, PENDING only while masked, ACTIVE and PENDING with
the condition true, IDLE and HELD with it false, no filter running while it is true, and IDLE and PENDING acknowledged. -/
def EntryRec.Lawful (isLatching : Bool) (r : EntryRec) : Prop :=
  (r.state = .held → isLatching = true) ∧ (r.state = .pending → r.masked = true) ∧
    (r.condition = true ↔ r.state = .active ∨ r.state = .pending) ∧ (r.condition = true → r.filter = none) ∧
    (r.state = .idle ∨ r.state = .pending → r.acknowledged = true)

/-- An event entry is IDLE or HELD, unmasked, with no filter (R76). -/
def EntryRec.EventLawful (r : EntryRec) : Prop :=
  (r.state = .idle ∨ r.state = .held) ∧ r.masked = false ∧ r.filter = none

/-- Every entry is lawful, entries 0 to 5 are unmasked, and the event entries 1, 2 and 5 are never seen ACTIVE (R74 to
R78, R95). -/
def ProtectionLaw (s : State) : Prop :=
  (∀ e : Entry, (s.pru.entry e).Lawful (latching e)) ∧
    (∀ e : Entry, e.val ≤ 5 → (s.pru.entry e).masked = false) ∧
    (∀ e : Entry, e = 1 ∨ e = 2 ∨ e = 5 → (s.pru.entry e).EventLawful)

/-- At most one pickup is FAILED (R43). -/
def PickupLaw (s : State) : Prop := ¬(s.spd.a.failed = true ∧ s.spd.b.failed = true)

/-- A framed holder's link is ACTIVE; a handover's recorded holder is the holder, its claimant is another source whose
link is ACTIVE, and the handover numbers lie from 1 to 255 (R118, R122). -/
def AuthorityLaw (s : State) : Prop :=
  (∀ l : Link, s.aut.holds l = true → (s.aut.source l).linkState = .active) ∧
    (∀ h : Handover, s.aut.handover = some h →
      s.aut.holder = some h.holderAtStart ∧ linkSource h.claimant ≠ h.holderAtStart ∧
        (s.aut.source h.claimant).linkState = .active ∧ 1 ≤ h.number ∧ h.number ≤ 255) ∧
    1 ≤ s.aut.nextNumber ∧ s.aut.nextNumber ≤ 255

/-- Forces are active and entries masked only while SERVICE holds authority (R95, R136). -/
def ServiceLaw (s : State) : Prop :=
  (forcesActive s = true → s.aut.holder = some .service) ∧
    (∀ e : Entry, (s.pru.entry e).masked = true → s.aut.holder = some .service)

/-- What R100 and R106 say of one framed source: the envelope is present exactly while ACTIVE, and without it the demand
record is 0, NONE and clear, the fresh flag is clear and the freshness timer stopped; the demand is within the
envelope. -/
def FramedSource.Lawful (f : FramedSource) : Prop :=
  (f.linkState = .active ↔ f.envelope.isSome = true) ∧
    (f.envelope = none → f.demand = 0 ∧ f.run = .none ∧ f.limited = false ∧ f.fresh = false ∧ f.freshness = none) ∧
    f.demand ≤ f.maxNotch ∧ f.maxNotch ≤ 8

/-- The three framed sources are lawful (R100, R108). -/
def SourceLaw (s : State) : Prop := ∀ l : Link, (s.aut.source l).Lawful

/-- A receive queue holds at most 4 frames, each of at most 32 payload bytes (R167, R168), and a latch buffer holds 16, 8
or 32 bytes (R173). -/
def QueueLaw (s : State) : Prop :=
  ∀ l : Link,
    (s.links.link l).queue.length ≤ 4 ∧ (∀ f ∈ (s.links.link l).queue, f.payload.length ≤ 32) ∧
      (∀ bytes, (s.links.link l).latch = some bytes →
        bytes.length = 16 ∨ bytes.length = 8 ∨ bytes.length = 32)

/-- ATTN of every link is at the level R172 gives it. -/
def AttnLaw (s : State) : Prop := ∀ l : Link, (s.links.link l).attn = attnWanted s l

/-- At most 6 crank records, of which only the newest may be open, and one is open exactly in CRANKING (IN PROGRESS, with
the budget timer running) and in ACCELERATING (FIRED) (R31, R32, R34, R35). The durations sum to at most CRANK BUDGET, and
the open record has not outrun the headroom it was opened with (R33, R36). RSQ stays STOPPED during the self-check
(R28). -/
def HistoryLaw (s : State) : Prop :=
  (s.cfg.checking = true → s.rsq.engine = .stopped) ∧
    s.rsq.history.length ≤ 6 ∧
    (∀ r ∈ s.rsq.history.dropLast, r.isOpen = false) ∧
    (s.rsq.engine = .cranking ↔ s.rsq.budget.isSome = true) ∧
    (s.rsq.engine = .cranking → ∃ r, newest s.rsq.history = some r ∧ r.isOpen = true ∧ r.outcome = .inProgress) ∧
    (s.rsq.engine = .accelerating → ∃ r, newest s.rsq.history = some r ∧ r.isOpen = true ∧ r.outcome = .fired) ∧
    (s.rsq.engine ≠ .cranking → s.rsq.engine ≠ .accelerating → ∀ r ∈ s.rsq.history, r.isOpen = false) ∧
    usedStarterTime s.rsq.history ≤ s.cfg.active.crankBudget ∧
    (∀ headroom, s.rsq.budget = some headroom →
      usedStarterTime s.rsq.history.dropLast + headroom ≤ s.cfg.active.crankBudget ∧
        elapsedCranking s.rsq.history ≤ headroom)

/-- A timer of the start sequence runs only in the states that start it (the timer table of R1). The cancellations this
takes are the model's (log 11). -/
def TimerLaw (s : State) : Prop :=
  (s.rsq.timers.prelubeMinimum.isSome = true → s.rsq.engine = .prelube) ∧
    (s.rsq.timers.prelubeLimit.isSome = true → s.rsq.engine = .prelube) ∧
    (s.rsq.timers.prime.isSome = true → s.rsq.engine = .priming) ∧
    (s.rsq.timers.engage.isSome = true → s.rsq.engine = .cranking) ∧
    (s.rsq.timers.crankLimit.isSome = true → s.rsq.engine = .cranking) ∧
    (s.rsq.timers.batteryDropout.isSome = true → s.rsq.engine = .cranking) ∧
    (s.rsq.timers.acceleration.isSome = true → s.rsq.engine = .accelerating) ∧
    (s.rsq.timers.stall.isSome = true → s.rsq.engine = .accelerating) ∧
    (s.rsq.timers.rest.isSome = true → s.rsq.engine = .crankRest) ∧
    (s.rsq.timers.zeroHold.isSome = true → s.rsq.engine = .crankRest ∨ s.rsq.engine = .rundown) ∧
    (s.rsq.timers.unload.isSome = true → s.rsq.engine = .unloading) ∧
    (s.rsq.timers.lubeArming.isSome = true ∨ s.rsq.lubeArmed = true → s.rsq.fuelEnable = true)

/-- What the chapter on idle reduction says of IRU's states: a dwell only while the conditions hold, STOPPING only in the
auto stop it asked for, WATCH only in AUTO STOPPED, RESTART PENDING only in the rundown, with RSQ's restart pending set
while the stop is still an auto stop; the low-idle request only in LOW IDLE DWELL and STOPPING; LOW IDLE only under the
request and at E 0; each timer only in its state (R149, R157 to R164). -/
def IdleLaw (s : State) : Prop :=
  (s.iru.state = .idleDwell ∨ s.iru.state = .lowIdleDwell → idleConditions s = true) ∧
    (s.iru.state = .stopping →
      (s.rsq.engine = .unloading ∨ s.rsq.engine = .rundown) ∧ s.rsq.stopCause = .autoStop) ∧
    (s.iru.state = .watch → s.rsq.engine = .autoStopped) ∧
    (s.iru.state = .restartPending →
      s.rsq.engine = .rundown ∧ (s.rsq.stopCause = .autoStop → s.rsq.restartPending = true)) ∧
    (s.iru.lowIdleRequest = true → s.iru.state = .lowIdleDwell ∨ s.iru.state = .stopping) ∧
    (s.ntu.lowIdle = true → s.iru.lowIdleRequest = true ∧ s.ntu.e = 0) ∧
    (s.iru.idleDwell.isSome = true → s.iru.state = .idleDwell) ∧
    (s.iru.lowIdleDwell.isSome = true → s.iru.state = .lowIdleDwell) ∧
    (s.iru.autoStop.isSome = true ∨ s.iru.batteryLow.isSome = true → s.iru.state = .watch)

/-- Every field of a table lies in its range (R179, R181). -/
def Table.InRange (t : Table) : Prop :=
  ∀ g f spec, fieldSpec g f = some spec → spec.lo ≤ t.field g f ∧ t.field g f ≤ spec.hi

/-- The loads of a table do not fall from one notch to the next, and LOAD MAX is at least the N8 load (R155). -/
def Table.LoadsRise (t : Table) : Prop :=
  (∀ p, p < 8 → t.loadAt p ≤ t.loadAt (p + 1)) ∧ t.loadAt 8 ≤ t.loadMax

/-- The tables are in range, and those that are or can come into use have rising loads (R179, R182, R184). -/
def TableLaw (s : State) : Prop :=
  s.cfg.active.InRange ∧ s.cfg.edited.InRange ∧ s.cfg.store.InRange ∧ s.cfg.active.LoadsRise ∧ s.cfg.store.LoadsRise

/-- No crank record's duration passes 600 tenths, while the tables stay in range; the two timers of an attempt whose expiry
writes their own length run for at most 60 s (R31). -/
def DurationLaw (s : State) : Prop :=
  TableLaw s ∧ (∀ r ∈ s.rsq.history, r.duration ≤ 600) ∧
    (∀ ms, s.rsq.timers.crankLimit = some ms → ms ≤ 60000) ∧ ∀ ms, s.rsq.timers.engage = some ms → ms ≤ 60000

/-- The law of the load reference: it never exceeds the table load of the applied position nor LOAD MAX, the derate takes
no more than it is given, and without LOAD PERMIT it is 0 (R87, R152). -/
def LoadReferenceLaw (s : State) : Prop :=
  NotchLaw s ∧ LoadLaw s ∧ TableLaw s ∧ s.pru.coolantPct ≤ 100 ∧ s.pru.intakePct ≤ 100 ∧
    s.ntu.loadRef ≤ s.cfg.active.loadAt s.ntu.applied ∧ s.ntu.loadRef ≤ s.cfg.active.loadMax

/-- The pending values of a LOCKED or FIXED group equal its active ones (R180); during the self-check the pending table is
not yet made (R184). -/
def GroupLaw (s : State) : Prop :=
  s.cfg.checking = false →
    ∀ g : Fin 5, s.cfg.groups[g] ≠ .opened → ∀ f, s.cfg.edited.field g.val f = s.cfg.active.field g.val f

/-- A step keeps a law. -/
def Keeps (law : State → Prop) : Prop := ∀ s t : State, law s → step s = .next t → law t

/-! ### What a command leaves unchanged -/

/-- A block of State. -/
inductive Block where
  | rsq
  | spd
  | ins
  | pru
  | aut
  | ntu
  | iru
  | links
  | cfg
  deriving DecidableEq, Repr

/-- Two link interfaces that differ at most in the level of ATTN. -/
def SameButAttn (x y : LinkIf) : Prop := { y with attn := x.attn } = x

/-- `t` agrees with `s` on a block. The link interfaces may differ in ATTN, which follows the status word of every link at
every event (R172). -/
def AgreesOn (s t : State) : Block → Prop
  | .rsq => t.rsq = s.rsq
  | .spd => t.spd = s.spd
  | .ins => t.ins = s.ins
  | .pru => t.pru = s.pru
  | .aut => t.aut = s.aut
  | .ntu => t.ntu = s.ntu
  | .iru => t.iru = s.iru
  | .links => ∀ l : Link, SameButAttn (s.links.link l) (t.links.link l)
  | .cfg => t.cfg = s.cfg

/-- `t` agrees with `s` on the blocks listed and on the queue of waiting commands. -/
def Unchanged (blocks : List Block) (s t : State) : Prop :=
  t.pending = s.pending ∧ ∀ b ∈ blocks, AgreesOn s t b

/-- NTU, IRU and the ATTN lines stand as the rest of the state makes them: E (R141), LOAD PERMIT (R150), the governor
setpoint (R153), the end of a dwell whose conditions have failed (R160), ATTN (R172). -/
def Settled (t : State) : Prop :=
  t.ntu.e = effectiveNotch t ∧ t.ntu.loadPermit = loadPermitWanted t ∧
    t.ntu.setpoint = setpointOf t.cfg.active t.rsq.engine t.ntu ∧
    (t.iru.state = .idleDwell ∨ t.iru.state = .lowIdleDwell → idleConditions t = true) ∧ AttnLaw t

/-- A step of the applied notch by at most one (R145). -/
def StepsByOne (s t : State) : Prop := t.ntu.applied ≤ s.ntu.applied + 1 ∧ s.ntu.applied ≤ t.ntu.applied + 1

/-! ### Requests and replies -/

/-- The link and the frame of a request; `none` for the commands that are no requests. -/
def asRequest : Instr → Option (Link × Frame)
  | .unknownKind l k q p => some (l, ⟨k, q, p⟩)
  | .enrol l q p => some (l, ⟨kindEnrol, q, p⟩)
  | .status l q p => some (l, ⟨kindStatus, q, p⟩)
  | .demand l q p => some (l, ⟨kindDemand, q, p⟩)
  | .claim l q p => some (l, ⟨kindClaim, q, p⟩)
  | .yield l q p => some (l, ⟨kindYield, q, p⟩)
  | .take l q p => some (l, ⟨kindTake, q, p⟩)
  | .keep l q p => some (l, ⟨kindKeep, q, p⟩)
  | .resetProtection l q p => some (l, ⟨kindResetProtection, q, p⟩)
  | .resetAll l q p => some (l, ⟨kindResetAll, q, p⟩)
  | .acknowledge l q p => some (l, ⟨kindAcknowledge, q, p⟩)
  | .latch l q p => some (l, ⟨kindLatch, q, p⟩)
  | .readLatched l q p | .readCrankHistory l q p | .readProtectionTable l q p | .readAnalogChannelRecords l q p
  | .readSourceTableSummary l q p | .readConfigurationEntry l q p | .readEngineRunRecord l q p =>
    some (l, ⟨kindRead, q, p⟩)
  | .force l q p => some (l, ⟨kindForce, q, p⟩)
  | .releaseForce l q p => some (l, ⟨kindReleaseForce, q, p⟩)
  | .mask l q p => some (l, ⟨kindMask, q, p⟩)
  | .unmask l q p => some (l, ⟨kindUnmask, q, p⟩)
  | .writeEntry l q p => some (l, ⟨kindWriteEntry, q, p⟩)
  | .applyTable l q p => some (l, ⟨kindApply, q, p⟩)
  | .lockGroup l q p => some (l, ⟨kindLockGroup, q, p⟩)
  | .unlockGroup l q p => some (l, ⟨kindUnlockGroup, q, p⟩)
  | .fixGroup l q p => some (l, ⟨kindFixGroup, q, p⟩)
  | .clearTripCount l q p => some (l, ⟨kindClearTripCount, q, p⟩)
  | .powerOn | .resetLine | .selfCheckEnd | .linkBreak _ | .goodFrame _ _ _ _ | .badFrame _ | .interByteGap _
  | .replySent _ | .pickupPulse _ | .windowCompletes | .conversion _ _ | .holdTimerExpiry _
  | .discreteInputLevelChange _ _ | .debouncedChange _ | .filterTimerExpiry _ | .prelubeMinimumExpiry
  | .prelubeLimitExpiry | .primeTimerExpiry | .engageTimerExpiry | .crankLimitExpiry | .batteryDropoutExpiry
  | .budgetTimerExpiry | .accelerationTimerExpiry | .stallTimerExpiry | .lubeArmingExpiry | .restTimerExpiry
  | .zeroHoldExpiryCrankRest | .zeroHoldExpiryRundown | .unloadTimerExpiry | .minuteTick | .freshnessTimerExpiry _
  | .trainlineWireLevelChange _ _ | .trainlineDebouncedChange _ | .settleTimerExpiry | .invalidTimerExpiry
  | .stopHoldExpiry | .yieldStageExpiry | .takeStageExpiry | .dwellTimerExpiry | .rampInterval | .idleDwellExpiry
  | .lowIdleDwellExpiry | .autoStopTimerExpiry | .batteryLowRestartExpiry | .storeWriteCompletion => none

/-- The interface of a link takes this frame next: no reply is being sent and the frame is the oldest one queued
(R169). -/
def Front (l : Link) (f : Frame) (s : State) : Prop :=
  (s.links.link l).sending = none ∧ (s.links.link l).queue.head? = some f

/-- A frame taken from an ACTIVE source after the self-check. -/
def Heard (l : Link) (f : Frame) (s : State) : Prop :=
  Front l f s ∧ s.cfg.checking = false ∧ (s.aut.source l).linkState = .active

/-- A frame taken as a request from an ACTIVE source after the self-check, which is no deviation (R129): the tests of R169
before the owner's are then those of KIND and link alone. -/
def Ready (l : Link) (f : Frame) (s : State) : Prop := Heard l f s ∧ deviates l f s = false

/-- The reply to a request: it is being sent with KIND's bit 7 set, the request's SEQ, the result and the status word of
the state it leaves, which becomes the last returned word; the request has left the queue; the rest of the link is `x`, and
the other links are as they were (R169, R170, R172). -/
def RepliedFrom (x : LinkIf) (l : Link) (f : Frame) (r : Result) (payload : List Byte) (s t : State) : Prop :=
  SameButAttn
      { x with
        queue := (s.links.link l).queue.tail
        sending := some ⟨f.kind ||| 0x80, f.seq, r, statusWord t l, payload⟩
        lastReturned := some (statusWord t l) }
      (t.links.link l) ∧
    (∀ k : Link, k ≠ l → SameButAttn (s.links.link k) (t.links.link k)) ∧ AttnLaw t

/-- A reply that leaves the rest of its link as it was. -/
def Replied (l : Link) (f : Frame) (r : Result) (payload : List Byte) (s t : State) : Prop :=
  RepliedFrom (s.links.link l) l f r payload s t

/-- The bits that R171 places in a status word built for a link in state `t`, E being at most 8 (R140). -/
def StatusShows (t : State) (l : Link) (w : StatusWord) : Prop :=
  (w.b0.toNat = t.rsq.engine.code ∧ w.b1 = byte t.ntu.applied) ∧
    (w.b2.getLsbD 0 = t.ntu.lowIdle ∧ w.b2.getLsbD 1 = t.ntu.loadPermit ∧ w.b2.getLsbD 2 = t.aut.handover.isSome ∧
      w.b2.getLsbD 3 = (t.aut.handover.isSome && t.aut.holds l) ∧ w.b2.getLsbD 4 = forcesActive t ∧
      w.b2.getLsbD 5 = t.cfg.defaulted ∧ w.b2.getLsbD 6 = t.iru.restartRefused ∧ w.b2.getLsbD 7 = t.pru.bell) ∧
    (w.b3.toNat % 8 = t.aut.holderCode ∧ w.b3.getLsbD 3 = t.aut.holds l ∧
      w.b3.toNat / 16 % 8 = (t.aut.source l).outcome.code ∧ w.b3.getLsbD 7 = (t.links.link l).overflow) ∧
    ((∀ e : Entry, (t.pru.entry e).inService = false) → w.b4 = 0) ∧
    (∀ e : Entry, (t.pru.entry e).inService = true → (∀ k : Entry, k < e → (t.pru.entry k).inService = false) →
      w.b4.toNat % 16 = e.val ∧ w.b4.toNat / 16 % 8 = (classOf e).code ∧
        (w.b4.getLsbD 7 = true ↔ ∃ k : Entry, k ≠ e ∧ (t.pru.entry k).inService = true)) ∧
    (t.ntu.e ≤ 8 → w.b5.toNat % 16 = t.ntu.e ∧ w.b5.toNat / 16 = t.iru.state.code)

/-! ### The values after POWER-ON and RESET LINE -/

/-- The reset values of the chapters (R1, R28 to R30, R55, R57, R68, R73, R98, R100, R101, R118, R122, R139, R157, R178,
R184), but for the input lines, the tables and the baud rates. That no reply is being sent is the model's choice (log 26). -/
def AtReset (t : State) : Prop :=
  (t.rsq.engine = .stopped ∧ t.rsq.startKind = .none ∧ t.rsq.cold = false ∧ t.rsq.attempt = 0 ∧
      t.rsq.startResult = .none ∧ t.rsq.startReason = none ∧ t.rsq.stopCause = .none ∧ t.rsq.restartPending = false ∧
      t.rsq.lubeArmed = false ∧ t.rsq.crankFuelLatch = false ∧ t.rsq.zeroConfirmed = false ∧
      t.rsq.timers = stoppedTimers ∧ t.rsq.prelubePump = false ∧ t.rsq.fuelPump = false ∧ t.rsq.starter = false ∧
      t.rsq.fuelEnable = false ∧ t.rsq.minute = 0 ∧ t.rsq.history = [] ∧ t.rsq.budget = none ∧
      t.rsq.counters = ⟨0, 0, 0, 0, 0, 0, 0, 0, 0⟩) ∧
    (t.spd.a = ⟨0, false, 0, false, 0, 0⟩ ∧ t.spd.b = ⟨0, false, 0, false, 0, 0⟩ ∧ t.spd.disagreeCount = 0 ∧
      t.spd.agreeCount = 0 ∧ t.spd.speedDisagree = false ∧ t.spd.lostCount = 0 ∧ t.spd.senseLost = false ∧
      t.spd.measured = 0 ∧ t.spd.overspeed = 0 ∧ t.spd.force = none ∧ t.spd.forceInEffect = none) ∧
    (t.ins.scanNext = .lube ∧ ∀ c : Channel, t.ins.channel c = ⟨0, 0, .valid, false, 0, none, none, 0⟩) ∧
    (∀ d : Discrete, (t.ins.discrete d).debounced = false ∧ (t.ins.discrete d).forced = none) ∧
    (∀ e : Entry, t.pru.entry e = ⟨.idle, false, true, false, 0, none⟩) ∧
    (t.pru.coolantPct = 100 ∧ t.pru.intakePct = 100 ∧ t.pru.bell = false) ∧
    (∀ l : Link, t.aut.source l = ⟨.down, none, 0, .none, false, false, none, .none⟩) ∧
    (t.aut.trainline.state = .absent ∧ t.aut.trainline.decoded = 0 ∧ t.aut.trainline.invalid = false ∧
      t.aut.trainline.effective = 0 ∧ t.aut.trainline.fresh = false ∧ t.aut.trainline.settle = none ∧
      t.aut.trainline.invalidTimer = none ∧ t.aut.trainline.stopHold = none ∧ t.aut.trainline.forced = none ∧
      ∀ w : Wire, (t.aut.trainline.wires.wire w).debounced = false) ∧
    (t.aut.holder = none ∧ t.aut.handover = none ∧ t.aut.nextNumber = 1) ∧
    t.ntu = ⟨0, false, 0, none, 0, 0, false, 0, 0, 0, false⟩ ∧
    t.iru = ⟨.off, none, none, none, none, false, false, false, none, false⟩ ∧
    (∀ l : Link, { t.links.link l with baud := .b19200 } =
      ⟨[], none, none, 0, 0, 0, 0, false, none, false, .b19200⟩) ∧
    t.cfg.writing = false ∧ t.cfg.checking = true

/-! ### What statements about one event take for granted, and what starts and attempts come to -/

/-- A handover to SERVICE stands only while the engine is at rest (R119, R132). -/
def ClaimLaw (s : State) : Prop :=
  ∀ h, s.aut.handover = some h → h.claimant = .service → s.rsq.engine.atRest = true

/-- The laws of RSQ's outputs and timers, of the bell and of handovers to SERVICE together: each is kept by every step. -/
def Sound (s : State) : Prop := OutputsLaw s ∧ TimerLaw s ∧ BellLaw s ∧ ClaimLaw s

/-- The start permissives 2 to 7 of R5 all hold. -/
def Permitted (s : State) : Prop :=
  s.ins.turningGear.used = false ∧ s.cfg.active.crankMin ≤ s.ins.battery.given ∧ s.rsq.history.length < 6 ∧
    usedStarterTime s.rsq.history + 50 ≤ s.cfg.active.crankBudget ∧ forcesActive s = false ∧ s.cfg.defaulted = false

/-- The source of a link is the claimant of the handover in flight. -/
def Aut.claimedBy (a : Aut) (l : Link) : Bool := decide (a.handover.map (·.claimant) = some l)

/-- AUT after the handover in flight, if there is one, has ended with an outcome for its claimant `l`. -/
def Aut.ended (a : Aut) (l : Link) (o : ClaimOutcome) : Aut :=
  { a.setSource l { a.source l with outcome := o } with handover := none }

/-- RSQ after its open record `r`, the newest of `older ++ [r]`, has been written and closed with an outcome and a duration
in tenths (R29, R34). -/
def Rsq.attemptEnded (x : Rsq) (older : List CrankRecord) (r : CrankRecord) (o : CrankOutcome) (tenths : Nat) : Rsq :=
  { x with
    budget := none
    counters :=
      { x.counters with
        crankSeconds := min 65535 (x.counters.crankSeconds + (x.counters.crankAcc + tenths) / 10)
        crankAcc := (x.counters.crankAcc + tenths) % 10 }
    history := older ++
      [{ r with
         duration := tenths, outcome := o, isOpen := false
         batteryMin := if o = .noEngage then none else r.batteryMin }] }

/-- A start has failed in the event that leads from `s` to `t` (R17, R25, R3): RSQ, which stood as `x`, has the start
result, stop cause START FAILURE and one failed start more, and is in RUNDOWN on a turning engine, else LOCKED OUT, every
timer stopped (log 11); entry 5 has entered service and is HELD; the bell sounds. -/
def StartFailed (result : StartResult) (x : Rsq) (s t : State) : Prop :=
  t.rsq =
      { enterState (if 0 < s.spd.measured then .rundown else .lockedOut)
          { x with
            startResult := result, stopCause := .startFailure
            counters := { x.counters with failedStarts := min 65535 (x.counters.failedStarts + 1) } } with
        timers := stoppedTimers
        restartPending := x.restartPending && decide (0 < s.spd.measured) } ∧
    t.spd = (if 0 < s.spd.measured then s.spd else { s.spd with senseLost := false }) ∧
    t.pru =
      { s.pru.setEntry 5
          { s.pru.entry 5 with
            state := .held, acknowledged := false, tripCount := min 65535 ((s.pru.entry 5).tripCount + 1) } with
        bell := true }

/-- RSQ, which stood as `x`, has entered CRANKING in the event that leads from `s` to `t` (R10, R33): a record opened, the
budget timer started with the headroom, the crank limit timer and, unless the starter is engaged, the engage timer
started, the crank fuel latch clear. -/
def CrankingEntered (x : Rsq) (s t : State) : Prop :=
  t.rsq =
    { enterState .cranking { x with crankFuelLatch := false } with
      timers :=
        { stoppedTimers with
          engage := if s.ins.starterEngaged.used = true then none else some (tenthsMs s.cfg.active.engageLimit)
          crankLimit :=
            some (tenthsMs (if x.cold = true then s.cfg.active.crankLimitCold else s.cfg.active.crankLimit)) }
      budget := some (s.cfg.active.crankBudget - usedStarterTime x.history)
      history := x.history ++
        [{ startedAt := x.minute, attempt := x.attempt, duration := 0, outcome := .inProgress, cold := x.cold,
           batteryMin := some s.ins.battery.given, age := 0, isOpen := true }] }

/-- RSQ, which stood as `x`, has entered PRELUBE for a start of kind `k` accepted in the event that leads from `s` to `t`
(R6, R7). -/
def PrelubeEntered (k : StartKind) (x : Rsq) (s t : State) : Prop :=
  t.rsq =
    { enterState .prelube
        { x with
          startKind := k, cold := decide (s.ins.coolant.given < 0), attempt := 1, startResult := .inProgress
          startReason := none, stopCause := .none, restartPending := false
          counters :=
            { x.counters with
              startsRequested := min 65535 (x.counters.startsRequested + 1)
              autoRestarts :=
                if k = .auto then min 65535 (x.counters.autoRestarts + 1) else x.counters.autoRestarts } } with
      timers :=
        { stoppedTimers with
          prelubeLimit := some (tenthsMs s.cfg.active.prelubeMax)
          prelubeMinimum :=
            some (tenthsMs
              (if s.ins.coolant.given < 0 then s.cfg.active.prelubeCold
              else if k = .auto ∧ 400 ≤ s.ins.coolant.given ∧
                  (∃ m, s.iru.fuelOff = some m ∧ x.minute < m + 30) then s.cfg.active.prelubeFast
              else s.cfg.active.prelubeNormal)) } }

end Sys2Proof.Machine
end

