-- ==== Sys2Proof/WellFormed.lean ====
section
/-! DEFINITION. Which commands are well formed: a command that is not stands for nothing the lines or the block can
bring. -/

namespace Sys2Proof

/-- Whether a payload fits a request frame: 0 to 32 bytes (R167). -/
def payloadFits (payload : List Byte) : Bool := decide (payload.length ≤ 32)

/-- Whether an entry has a filter timer (R78): entries 3, 4, 6, 7, 8 and 12. -/
def filtered (e : Entry) : Bool := decide (e.val ∈ [3, 4, 6, 7, 8, 12])

/-- Whether a READ's payload fits a frame and belongs to the row of its target (R174, log 12). -/
def readFits (t : Machine.ReadTarget) (payload : List Byte) : Bool := payloadFits payload && Machine.readRow t payload

/-- Well-formed commands. -/
def Instr.wf : Instr → Bool
  | .goodFrame _ _ _ p => payloadFits p
  | .unknownKind _ k _ p => !Machine.knownKind k && payloadFits p
  | .readLatched _ _ p => readFits .latched p
  | .readCrankHistory _ _ p => readFits .crankHistory p
  | .readProtectionTable _ _ p => readFits .protection p
  | .readAnalogChannelRecords _ _ p => readFits .analog p
  | .readSourceTableSummary _ _ p => readFits .sources p
  | .readConfigurationEntry _ _ p => readFits .configuration p
  | .readEngineRunRecord _ _ p => readFits .runRecord p
  | .filterTimerExpiry e => filtered e
  | .enrol _ _ p | .status _ _ p | .demand _ _ p | .claim _ _ p | .yield _ _ p | .take _ _ p | .keep _ _ p
  | .resetProtection _ _ p | .resetAll _ _ p | .acknowledge _ _ p | .latch _ _ p | .force _ _ p
  | .releaseForce _ _ p | .mask _ _ p | .unmask _ _ p | .writeEntry _ _ p | .applyTable _ _ p | .lockGroup _ _ p
  | .unlockGroup _ _ p | .fixGroup _ _ p | .clearTripCount _ _ p => payloadFits p
  | .powerOn | .resetLine | .selfCheckEnd | .linkBreak _ | .badFrame _ | .interByteGap _ | .replySent _
  | .pickupPulse _ | .windowCompletes | .conversion _ _ | .holdTimerExpiry _ | .discreteInputLevelChange _ _
  | .debouncedChange _ | .prelubeMinimumExpiry | .prelubeLimitExpiry | .primeTimerExpiry | .engageTimerExpiry
  | .crankLimitExpiry | .batteryDropoutExpiry | .budgetTimerExpiry | .accelerationTimerExpiry | .stallTimerExpiry
  | .lubeArmingExpiry | .restTimerExpiry | .zeroHoldExpiryCrankRest | .zeroHoldExpiryRundown | .unloadTimerExpiry
  | .minuteTick | .freshnessTimerExpiry _ | .trainlineWireLevelChange _ _ | .trainlineDebouncedChange _
  | .settleTimerExpiry | .invalidTimerExpiry | .stopHoldExpiry | .yieldStageExpiry | .takeStageExpiry
  | .dwellTimerExpiry | .rampInterval | .idleDwellExpiry | .lowIdleDwellExpiry | .autoStopTimerExpiry
  | .batteryLowRestartExpiry | .storeWriteCompletion => true

end Sys2Proof
end

