-- ==== Sys2Proof/Certificates/Slice0/Obligations.lean ====
section
/-! DEFINITION. The statements for the provers, family by family. Where a statement says that a command leaves blocks of
State unchanged, the link interfaces are left out of the list when the command's own link or a reply is spoken of beside
it, and NTU and IRU are left out when the command ends with their settling: `Settled` then says how they stand. -/

section

open Sys2Proof Sys2Proof.Machine

/-! ### The step, reset, and the self-check -/

/-- Spec/95_what_each_step_holds.md: one command is one step. That a step with nothing waiting changes nothing is the
model's choice (log 18). -/
def Obligations.StepTakesTheFrontCommand : Prop :=
  (∀ (c : Instr) (rest : List Instr) (s : State),
      s.pending = c :: rest → step s = exec c { s with pending := rest }) ∧
    ∀ s : State, s.pending = [] → step s = .next s

/-- No command stops the block: each one, with any operands, in any state, gives a next state, and only the step itself
moves the queue of waiting commands. -/
def Obligations.EveryCommandCompletes : Prop :=
  ∀ (c : Instr) (s : State), ∃ t, exec c s = .next t ∧ t.pending = s.pending

/-- The state after reset holds the reset values of the chapters and meets every law of Safety.lean. The laws that read
the tables rest on the model's choice of a new part's store (log 4), and that no reply is being sent is its choice too
(log 26). -/
def Obligations.ResetStateIsLawful : Prop :=
  let s := State.reset
  AtReset s ∧ s.pending = [] ∧ OutputsLaw s ∧ TimerLaw s ∧ LockoutLaw s ∧ HistoryLaw s ∧ ProtectionLaw s ∧ BellLaw s ∧
    LoadReferenceLaw s ∧ AuthorityLaw s ∧ EffectiveLaw s ∧ SourceLaw s ∧ ServiceLaw s ∧ QueueLaw s ∧ AttnLaw s ∧
    IdleLaw s ∧ GroupLaw s ∧ PickupLaw s ∧ ClaimLaw s ∧ DurationLaw s

/-- POWER_ON and RESET_LINE: every block takes its reset values from any state; the store, the group states and the
levels of the lines stay; a store write in progress leaves a bad check; the active table is the store's with a good
check and the defaults with a bad one; a line that is ACTIVE starts its debounce timer; the scan restarts from LUBE
PRESSURE; the links take the active table's baud rates. That the table and CONFIG DEFAULTED take their values in this
event (log 6), and that a reply being sent is given up (log 26), are the model's choices. -/
def Obligations.PowerOnAndResetLineResetThePart : Prop :=
  ∀ (c : Instr) (s : State), c = .powerOn ∨ c = .resetLine →
    ∃ t, exec c s = .next t ∧ AtReset t ∧ t.pending = s.pending ∧
      (t.cfg.store = s.cfg.store ∧ t.cfg.groups = s.cfg.groups ∧ t.cfg.edited = s.cfg.edited ∧
        t.cfg.storeGood = (s.cfg.storeGood && !s.cfg.writing) ∧ t.cfg.checkBad = !t.cfg.storeGood ∧
        t.cfg.defaulted = !t.cfg.storeGood ∧
        t.cfg.active = if t.cfg.storeGood = true then s.cfg.store else defaultTable) ∧
      (∀ d : Discrete,
        (t.ins.discrete d).level = (s.ins.discrete d).level ∧
          (t.ins.discrete d).timer =
            if (s.ins.discrete d).level = true then
              some (match d with
                | .emergencyStop | .starterEngaged => 20
                | .turningGear | .groundRelay => 100)
            else none) ∧
      (∀ w : Wire,
        (t.aut.trainline.wires.wire w).level = (s.aut.trainline.wires.wire w).level ∧
          (t.aut.trainline.wires.wire w).timer =
            if (s.aut.trainline.wires.wire w).level = true then some 60 else none) ∧
      ∀ l : Link, (t.links.link l).baud = t.cfg.active.baudOf l

/-- SELF_CHECK_END: the pending table equals the active one and the check is complete; RSQ goes to RUNDOWN on a turning
engine, else to LOCKED OUT with a SHUTDOWN in service, else stays STOPPED; AUT sets the trainline state from TRAINLINE
FOLLOW and the RUN level, and a LIVE trainline takes authority. -/
def Obligations.SelfCheckEndChoosesTheFirstState : Prop :=
  ∀ s : State, s.cfg.checking = true → s.rsq.engine = .stopped → s.aut.holder = none →
    s.aut.trainline.state = .absent → s.aut.handover = none → s.iru.state = .off →
    ∃ t, exec .selfCheckEnd s = .next t ∧ Unchanged [.ins, .links] s t ∧ Settled t ∧
      t.cfg = { s.cfg with edited := s.cfg.active, checking := false } ∧
      t.rsq =
        (if 0 < s.spd.measured then enterState .rundown s.rsq
        else if s.pru.shutdownInService = true then enterState .lockedOut s.rsq
        else s.rsq) ∧
      t.spd = { s.spd with senseLost := t.spd.senseLost } ∧
      (∀ e : Entry, e ≠ 4 → e ≠ 15 → t.pru.entry e = s.pru.entry e) ∧
      t.aut = { s.aut with trainline := t.aut.trainline, holder := t.aut.holder } ∧
      t.aut.trainline.state =
        (if s.cfg.active.trainlineFollow = true then
          (if s.aut.trainline.used.run = true then .live else .quiet)
        else .absent) ∧
      t.aut.holder = if t.aut.trainline.state = .live then some .trainline else none

/-! ### The laws of the whole machine -/

/-- The outputs of RSQ are those of the engine state, and each sequence timer runs only in the states that start it. R1
and R2 give the starts; that a change of engine state cancels the timers it does not start is the model's choice (log
11). -/
def Obligations.OutputsAndTimersFollowTheEngineState : Prop := Keeps fun s => OutputsLaw s ∧ TimerLaw s

/-- The engine is LOCKED OUT exactly when it is at rest with a SHUTDOWN entry in service. -/
def Obligations.LockedOutExactlyWithAShutdownInService : Prop := Keeps LockoutLaw

/-- The crank history holds at most 6 records and its durations never exceed CRANK BUDGET; no duration passes 600 while the
tables are in range. How the elapsed duration of the open record grows is the model's choice (log 3). -/
def Obligations.CrankHistoryStaysWithinItsBudget : Prop := Keeps HistoryLaw ∧ Keeps DurationLaw

/-- Every protection entry stays in the states its class and mask allow, and the bell sounds exactly while an entry in
service is unacknowledged. -/
def Obligations.ProtectionTableStaysLawful : Prop := Keeps fun s => ProtectionLaw s ∧ BellLaw s

/-- The applied notch rises by one at most, and falls by more than one only to 0 with the load reference at 0 (R145).
Outside RUNNING and UNLOADING no command moves anything of NTU but E, the governor setpoint and GOVERNOR REF; an IRU
that is OFF moves, while the engine does not come to RUNNING, in nothing but AUTO RESTART REFUSED, the fuel-off time
and demand seen (R157 to R164); a reset apart. -/
def Obligations.TheNotchStepsByOneAndRestsOutsideRunning : Prop :=
  ∀ (c : Instr) (s t : State), exec c s = .next t →
    t.ntu.applied ≤ s.ntu.applied + 1 ∧
      (t.ntu.applied + 1 < s.ntu.applied → t.ntu.applied = 0 ∧ t.ntu.loadRef = 0) ∧
      (NotchLaw s → LoadLaw s → s.rsq.engine.runningFamily = false → t.rsq.engine.runningFamily = false →
        t.ntu =
          { s.ntu with e := t.ntu.e, setpoint := t.ntu.setpoint, governorRef := t.ntu.governorRef }) ∧
      (IdleLaw s → s.iru.state = .off → t.rsq.engine ≠ .running → c ≠ .powerOn → c ≠ .resetLine →
        t.iru =
          { s.iru with
            restartRefused := t.iru.restartRefused, fuelOff := t.iru.fuelOff, demandSeen := t.iru.demandSeen })

/-- The load reference never exceeds the load of the applied notch nor LOAD MAX, and is 0 without LOAD PERMIT (R152), while
the tables stay in range. -/
def Obligations.LoadReferenceStaysWithinTheNotch : Prop := Keeps LoadReferenceLaw

/-- E is at every moment what its inputs make it (R140, R141); authority stays with a source whose link is ACTIVE, and a
handover stays between the holder and another ACTIVE source, SERVICE among them only with the engine at rest (R118, R122,
R119, R132). -/
def Obligations.EffectiveNotchAndAuthorityAreCurrent : Prop :=
  (Keeps fun s => AuthorityLaw s ∧ EffectiveLaw s) ∧ Keeps ClaimLaw

/-- Forces and masks stand only while SERVICE holds authority, and every source entry keeps its envelope and record in step
with its link state (R95, R100, R106, R136). -/
def Obligations.SourcesForcesAndMasksStayLawful : Prop := Keeps fun s => SourceLaw s ∧ ServiceLaw s

/-- Receive queues and latch buffers keep their sizes, and ATTN is at every moment at the level the status word gives it
(R168, R172, R173). -/
def Obligations.LinkInterfacesStayLawful : Prop := Keeps fun s => QueueLaw s ∧ AttnLaw s

/-- IRU stands in each state only where its chapter puts it. -/
def Obligations.IdleReductionStaysLawful : Prop := Keeps fun s => AuthorityLaw s ∧ IdleLaw s

/-! ### Frames on the line -/

/-- A request frame written byte by byte, after any bytes that are not SYNC, is received as that frame and the bytes behind
it; with any other check it is a bad frame (R167). The receiver of a line stands beside the machine, whose commands bring
whole frames (log 13). -/
def Obligations.RequestFramesRoundTrip : Prop :=
  ∀ (f : Frame) (noise rest : List Byte), f.payload.length ≤ 32 → syncByte ∉ noise →
    receiveLine (noise ++ requestWire f ++ rest) = .good f rest ∧
      ∀ check : BitVec 16,
        let body := byte (f.payload.length + 2) :: f.kind :: f.seq :: f.payload
        check ≠ crc16 body → receiveLine (noise ++ syncByte :: body ++ be16 check.toNat ++ rest) = .bad

/-! ### The link interfaces -/

/-- GOOD_FRAME: on an INERT link the frame is discarded and counted; on an ACTIVE link the freshness timer restarts with
three intervals, whatever the kind; there and on a DOWN link the frame is queued at the tail while fewer than 4 are queued,
else lost, counted and flagged. BAD_FRAME and INTER_BYTE_GAP count one check error of their link, REPLY_SENT ends the reply
being sent; nothing else changes. -/
def Obligations.FramesGoByTheLinkState : Prop :=
  (∀ (l : Link) (kind seq : Byte) (payload : List Byte) (s : State), payload.length ≤ 32 →
    ∃ t, exec (.goodFrame l kind seq payload) s = .next t ∧
      Unchanged [.rsq, .spd, .ins, .pru, .ntu, .iru, .cfg] s t ∧ AttnLaw t ∧
      (let x := s.links.link l
       SameButAttn
        (if (s.aut.source l).linkState = .inert then
          { x with inertDiscards := min 65535 (x.inertDiscards + 1) }
        else if x.queue.length < 4 then
          { x with queue := x.queue ++ [⟨kind, seq, payload⟩], goodFrames := min 65535 (x.goodFrames + 1) }
        else { x with queueOverflows := min 65535 (x.queueOverflows + 1), overflow := true })
        (t.links.link l)) ∧
      (∀ k : Link, k ≠ l → SameButAttn (s.links.link k) (t.links.link k)) ∧
      t.aut =
        (match (s.aut.source l).linkState, (s.aut.source l).envelope with
          | .active, some e => s.aut.setSource l { s.aut.source l with freshness := some (3 * (10 * e.interval)) }
          | _, _ => s.aut)) ∧
    ∀ (l : Link) (s : State),
      let x := s.links.link l
      let counted : LinkIf := { x with checkErrors := min 65535 (x.checkErrors + 1) }
      exec (.badFrame l) s = .next { s with links := s.links.setLink l counted } ∧
        exec (.interByteGap l) s = .next { s with links := s.links.setLink l counted } ∧
        exec (.replySent l) s = .next { s with links := s.links.setLink l { x with sending := none } }

/-- LINK_BREAK, and the freshness expiry of an ACTIVE source: the link is DOWN and its entry empty; a holder lapses, and the
trainline takes authority if it is LIVE; a SERVICE holder takes its forces and masks with it; a claimant's handover ends
EXPIRED. A break also empties the queue and the latch buffer, makes the last returned word absent and sets the baud rate;
an expiry leaves the link interface alone. -/
def Obligations.ASilentOrBrokenSourceIsDropped : Prop :=
  ∀ (l : Link) (s : State) (c : Instr),
    c = .linkBreak l ∨
      (c = .freshnessTimerExpiry l ∧ (s.aut.source l).linkState = .active ∧
        (s.aut.source l).freshness.isSome = true) →
    let dropped := s.aut.setSource l ⟨.down, none, 0, .none, false, false, none, (s.aut.source l).outcome⟩
    ∃ t, exec c s = .next t ∧ Unchanged [.cfg] s t ∧ Settled t ∧
      (let f := t.aut.source l
       f.linkState = .down ∧ f.envelope = none ∧ f.demand = 0 ∧ f.run = .none ∧ f.limited = false ∧
        f.fresh = false ∧ f.freshness = none) ∧
      (s.aut.holds l = false →
        t.aut.holder = s.aut.holder ∧
          (s.rsq.engine ≠ .unloading →
            Unchanged [.rsq, .spd, .ins, .pru] s t ∧
              t.aut = if s.aut.claimedBy l = true then dropped.ended l .expired else dropped)) ∧
      (s.aut.holds l = true →
        (t.aut.source l).outcome = .lapsed ∧ t.aut.handover = none ∧
          (t.aut.holder = none ∨ t.aut.holder = some .trainline) ∧
          (l ≠ .service →
            t.aut.holder = if s.aut.trainline.state = .live then some .trainline else none) ∧
          (∀ h, s.aut.handover = some h → (t.aut.source h.claimant).outcome = .lapsed) ∧
          t.aut.nextNumber = s.aut.nextNumber ∧
          (∀ k : Link, k ≠ l → s.aut.claimedBy k = false → t.aut.source k = s.aut.source k) ∧
          (l = .service → forcesActive t = false ∧ ∀ e : Entry, (t.pru.entry e).masked = false) ∧
          (l ≠ .service → s.aut.trainline.state ≠ .live → s.rsq.engine ≠ .unloading →
            Unchanged [.rsq, .spd, .ins, .pru] s t)) ∧
      SameButAttn
        (if c = .linkBreak l then
          { s.links.link l with
            queue := [], latch := none, lastReturned := none, baud := s.cfg.active.baudOf l }
        else s.links.link l)
        (t.links.link l) ∧
      ∀ k : Link, k ≠ l → SameButAttn (s.links.link k) (t.links.link k)

/-- The tests of R169 that come before the owner's, for every request: BUSY during the self-check; then, where the
request is no deviation, BAD FIELD for an unknown kind, REFUSED STATE on a DOWN link for every known kind but ENROL and
STATUS, NOT PERMITTED for a Service kind on another link. STATUS is answered DONE on every link that is not INERT, and
a request that finds the link INERT is discarded without a reply; that it counts as a discarded frame is the model's
choice (log 20). None of them changes anything but its own link. Whatever the request and its answer, a reply that is
being sent after it carries the status word of R171, built from the state the request leaves. -/
def Obligations.RequestsAreScreenedInOrder : Prop :=
  ∀ (c : Instr) (l : Link) (f : Frame) (s : State), asRequest c = some (l, f) → c.wf = true → Front l f s →
    (∃ t, exec c s = .next t ∧
      (∀ r, (t.links.link l).sending = some r → StatusShows t l r.status) ∧
      ((s.aut.source l).linkState ≠ .inert → s.cfg.checking = true ∨ f.kind ≠ kindEnrol →
        (t.links.link l).sending.isSome = true)) ∧
    let others : List Block := [.rsq, .spd, .ins, .pru, .aut, .ntu, .iru, .cfg]
    let answers (r : Result) : Prop := ∃ t, exec c s = .next t ∧ Unchanged others s t ∧ Replied l f r [] s t
    ((s.aut.source l).linkState = .inert →
        ∃ t, exec c s = .next t ∧ Unchanged others s t ∧
          t.links = s.links.setLink l
            { s.links.link l with
              queue := (s.links.link l).queue.tail
              inertDiscards := min 65535 ((s.links.link l).inertDiscards + 1) }) ∧
      ((s.aut.source l).linkState ≠ .inert → s.cfg.checking = true → answers .busy) ∧
      ((s.aut.source l).linkState ≠ .inert → s.cfg.checking = false → deviates l f s = false →
        (knownKind f.kind = false → answers .badField) ∧
          (f.kind = kindStatus → answers .done) ∧
          (knownKind f.kind = true → f.kind ≠ kindEnrol → f.kind ≠ kindStatus →
            (s.aut.source l).linkState = .down → answers .refusedState) ∧
          (serviceKind f.kind = true → l ≠ .service → (s.aut.source l).linkState = .active →
            answers .notPermitted))

/-- In AWAIT TAKE every request of the holder or the claimant but STATUS, READ, LATCH, ACKNOWLEDGE and the claimant's TAKE
with the right number is answered HANDOVER BROKEN and not carried out: the handover ends BROKEN and the holder stays. -/
def Obligations.DeviationsBreakTheHandover : Prop :=
  ∀ (c : Instr) (l : Link) (f : Frame) (s : State) (h : Handover), asRequest c = some (l, f) → c.wf = true →
    Front l f s → s.cfg.checking = false → (s.aut.source l).linkState ≠ .inert → s.aut.handover = some h →
    h.stage = .awaitTake → s.aut.holder = some (linkSource l) ∨ h.claimant = l →
    f.kind ≠ kindStatus → f.kind ≠ kindRead → f.kind ≠ kindLatch → f.kind ≠ kindAcknowledge →
    ¬(f.kind = kindTake ∧ h.claimant = l ∧ f.payload.map (·.toNat) = [h.number]) →
    ∃ t, exec c s = .next t ∧ Unchanged [.ins, .cfg] s t ∧ Replied l f .handoverBroken [] s t ∧ Settled t ∧
      t.aut =
        { s.aut.setSource h.claimant { s.aut.source h.claimant with outcome := .broken } with handover := none } ∧
      (s.rsq.engine ≠ .unloading → Unchanged [.rsq, .spd, .pru] s t)

/-- LATCH, in the order of R173: BAD FIELD for a payload that is not two bytes, a group above 2 or the clear option with a
group other than LINK; ALREADY LATCHED with a full buffer; else the group's bytes are copied into the buffer and, with the
clear option, the link's counters and overflow flag cleared after the copy. -/
def Obligations.LatchCopiesAGroup : Prop :=
  ∀ (l : Link) (seq : Byte) (payload : List Byte) (s : State), Heard l ⟨kindLatch, seq, payload⟩ s →
    let x := s.links.link l
    let c := s.rsq.counters
    let f : Frame := ⟨kindLatch, seq, payload⟩
    ∃ t, exec (.latch l seq payload) s = .next t ∧
      Unchanged [.rsq, .spd, .ins, .pru, .aut, .ntu, .iru, .cfg] s t ∧
      match payload with
      | [g, options] =>
        if 2 < g.toNat ∨ (options.getLsbD 0 = true ∧ g ≠ 1) then Replied l f .badField [] s t
        else if x.latch.isSome = true then Replied l f .alreadyLatched [] s t
        else
          let bytes : List Byte :=
            if g = 0 then
              be16 c.startsRequested ++ be16 c.successfulStarts ++ be16 c.failedStarts ++ be16 c.autoStops ++
                be16 c.autoRestarts ++ be16 c.crankSeconds ++ be32 c.runTime
            else if g = 1 then
              be16 x.goodFrames ++ be16 x.checkErrors ++ be16 x.queueOverflows ++ be16 x.inertDiscards
            else allEntries.flatMap fun e => be16 (s.pru.entry e).tripCount
          let y : LinkIf := { x with latch := some bytes }
          bytes.length = (if g = 0 then 16 else if g = 1 then 8 else 32) ∧
            RepliedFrom
              (if options.getLsbD 0 = true then
                { y with goodFrames := 0, checkErrors := 0, queueOverflows := 0, inertDiscards := 0, overflow := false }
              else y)
              l f .done [] s t
      | _ => Replied l f .badField [] s t

/-- A READ of target 0 returns the latch buffer's bytes and empties it, and is refused with REFUSED STATE when it is
empty. -/
def Obligations.ReadLatchedEmptiesTheBuffer : Prop :=
  ∀ (l : Link) (seq : Byte) (s : State), Heard l ⟨kindRead, seq, [0]⟩ s →
    ∃ t, exec (.readLatched l seq [0]) s = .next t ∧
      Unchanged [.rsq, .spd, .ins, .pru, .aut, .ntu, .iru, .cfg] s t ∧
      match (s.links.link l).latch with
      | some bytes =>
        RepliedFrom { s.links.link l with latch := none } l ⟨kindRead, seq, [0]⟩ .done bytes s t
      | none => Replied l ⟨kindRead, seq, [0]⟩ .refusedState [] s t

/-- The reads of fixed layout change nothing but their link, and their bytes hold what R176, R177 and R187 place in them:
the protection table, the source table summary, a configuration entry, the engine run record. A READ with any payload
other than those of R174 is BAD FIELD and changes nothing but its link. -/
def Obligations.FixedReadsShowTheState : Prop :=
  ∀ (l : Link) (seq : Byte) (s : State),
    let others : List Block := [.rsq, .spd, .ins, .pru, .aut, .ntu, .iru, .cfg]
    let offset : Link → Nat := fun k =>
      match k with
      | .stand => 0
      | .remote => 7
      | .service => 11
    let line := s.aut.trainline
    (Heard l ⟨kindRead, seq, [2]⟩ s →
        ∃ t bytes, exec (.readProtectionTable l seq [2]) s = .next t ∧ Unchanged others s t ∧
          Replied l ⟨kindRead, seq, [2]⟩ .done bytes s t ∧ bytes.length = 18 ∧
          (∀ e : Entry, ∃ b, bytes[e.val]? = some b ∧ b.toNat % 4 = (s.pru.entry e).state.code ∧
            b.getLsbD 2 = (s.pru.entry e).acknowledged ∧ b.getLsbD 3 = (s.pru.entry e).masked ∧
            b.toNat / 16 % 8 = (classOf e).code ∧ b.getLsbD 7 = overTripLimit s.cfg.active e (s.pru.entry e)) ∧
          bytes[16]? = some (byte s.pru.deratePct.toNat) ∧
          bytes[17]? = some (match s.pru.notchLimit with
            | some n => byte n
            | none => 9)) ∧
      (Heard l ⟨kindRead, seq, [4]⟩ s →
        ∃ t bytes, exec (.readSourceTableSummary l seq [4]) s = .next t ∧ Unchanged others s t ∧
          Replied l ⟨kindRead, seq, [4]⟩ .done bytes s t ∧ bytes.length = 19 ∧
          (∀ k : Link, ∃ b0 b1 b2 b3 : Byte,
            (bytes.drop (offset k)).take 4 = [b0, b1, b2, b3] ∧
              (b0.toNat % 4 = (s.aut.source k).linkState.code ∧ b0.getLsbD 2 = (s.aut.source k).envelope.isSome ∧
                b0.getLsbD 3 = (s.aut.source k).fresh ∧ b0.toNat / 16 = (s.aut.source k).demand % 16) ∧
              ((s.aut.source k).envelope = none → b1 = 0 ∧ b2 = 0) ∧
              (∀ e, (s.aut.source k).envelope = some e → e.maxNotch ≤ 8 →
                b1.toNat % 16 = e.maxNotch ∧ b1.getLsbD 4 = e.mayStart ∧ b1.getLsbD 5 = e.mayStop ∧
                  b1.getLsbD 6 = e.autoStop ∧ b1.getLsbD 7 = false ∧ b2 = byte e.interval) ∧
              b3.toNat % 4 = (s.aut.source k).run.code ∧ b3.getLsbD 2 = (s.aut.source k).limited ∧
              b3.toNat < 8) ∧
          (∃ b0 b1 b2 : Byte, (bytes.drop 4).take 3 = [b0, b1, b2] ∧
            (b0.toNat % 4 = line.state.code ∧ b0.getLsbD 2 = line.invalid ∧ b0.getLsbD 3 = line.fresh ∧
              b0.toNat < 16) ∧
            (b1.getLsbD 0 = line.used.w1 ∧ b1.getLsbD 1 = line.used.w2 ∧ b1.getLsbD 2 = line.used.w3 ∧
              b1.getLsbD 3 = line.used.w4 ∧ b1.getLsbD 4 = line.used.run ∧ b1.getLsbD 5 = line.used.stop ∧
              b1.toNat < 64) ∧
            (line.decoded ≤ 8 → b2.toNat % 16 = line.decoded ∧ b2.toNat / 16 = line.effective % 16)) ∧
          ∃ b0 : Byte,
            bytes.drop 15 =
                [b0,
                  (match s.aut.handover with
                    | some h => byte h.holderAtStart.code
                    | none => 0),
                  (match s.aut.handover with
                    | some h => byte h.number
                    | none => 0),
                  byte s.aut.nextNumber] ∧
              b0.toNat % 8 = s.aut.holderCode ∧
              (s.aut.handover = none → b0.toNat < 8) ∧
              ∀ h, s.aut.handover = some h →
                b0.toNat / 8 % 8 = (linkSource h.claimant).code ∧ b0.getLsbD 6 = decide (h.stage = .awaitTake) ∧
                  b0.getLsbD 7 = h.override) ∧
      (∀ (g : Fin 5) (f : Byte) (spec : FieldSpec), fieldSpec g.val f.toNat = some spec →
        Heard l ⟨kindRead, seq, [5, byte g.val, f]⟩ s →
        ∃ t flags, exec (.readConfigurationEntry l seq [5, byte g.val, f]) s = .next t ∧ Unchanged others s t ∧
          Replied l ⟨kindRead, seq, [5, byte g.val, f]⟩ .done
            ([byte g.val, f] ++ beInt (s.cfg.active.field g.val f.toNat) ++
              beInt (s.cfg.edited.field g.val f.toNat) ++ [flags]) s t ∧
          flags.toNat % 4 = (s.cfg.groups[g]).code ∧ flags.getLsbD 2 = s.cfg.writing ∧
          flags.getLsbD 3 = s.cfg.checkBad ∧ flags.toNat < 16) ∧
      (Heard l ⟨kindRead, seq, [6]⟩ s →
        ∃ t b, exec (.readEngineRunRecord l seq [6]) s = .next t ∧ Unchanged others s t ∧
          Replied l ⟨kindRead, seq, [6]⟩ .done
            [b, byte s.rsq.startResult.code,
              (match s.rsq.startReason with
                | some why => byte why.code
                | none => 0),
              byte s.rsq.stopCause.code] s t ∧
          b.toNat % 4 = s.rsq.startKind.code ∧ b.getLsbD 2 = s.rsq.cold ∧ b.getLsbD 3 = s.rsq.restartPending ∧
          b.toNat / 16 = s.rsq.attempt % 16) ∧
      (∀ (c : Instr) (payload : List Byte), asRequest c = some (l, ⟨kindRead, seq, payload⟩) → c.wf = true →
        Heard l ⟨kindRead, seq, payload⟩ s →
        payload ≠ [0] → payload ≠ [2] → payload ≠ [4] → payload ≠ [6] →
        (∀ first : Byte, payload = [1, first] → 5 < first.toNat) →
        (∀ first : Byte, payload = [3, first] → 6 < first.toNat) →
        (∀ g f : Byte, payload = [5, g, f] → fieldSpec g.toNat f.toNat = none) →
        ∃ t, exec c s = .next t ∧ Unchanged others s t ∧ Replied l ⟨kindRead, seq, payload⟩ .badField [] s t)

/-- The reads of the crank history and of the analog records open with their header and carry whole records from the first
index on, as many as fit in 32 bytes; they change nothing but their link. A first index that is too great is BAD FIELD. A
crank record is laid out as in R40, a channel record and the speed record as in R175. -/
def Obligations.RecordReadsCarryWholeRecords : Prop :=
  ∀ (l : Link) (seq first : Byte) (s : State),
    let others : List Block := [.rsq, .spd, .ins, .pru, .aut, .ntu, .iru, .cfg]
    let packed (header : List Byte) (records : List (List Byte)) (payload : List Byte) : Prop :=
      ∃ n, payload = header ++ (records.take n).flatten ∧ payload.length ≤ 32 ∧
        ∀ r, records[n]? = some r → 32 < payload.length + r.length
    let bit (b : Bool) (i : Nat) : Nat := if b = true then 2 ^ i else 0
    let crank (r : CrankRecord) : List Byte :=
      be16 r.startedAt ++
        [byte (r.outcome.code + 16 * r.attempt + bit r.cold 7),
          byte (r.duration / 256 + bit r.batteryMin.isSome 6 + bit r.isOpen 7), byte (r.duration % 256)] ++
        (match r.batteryMin with
          | some v => [byte (v / 5).toNat]
          | none => [])
    let channel (r : ChannelRec) : List Byte :=
      [byte (r.raw / 256 + 16 * r.state.code + bit r.forced.isSome 6), byte (r.raw % 256)] ++ beInt r.eng ++
        (match r.forced with
          | some v => beInt v
          | none => [])
    let p := s.spd
    let speed : List Byte :=
      be16 p.measured ++ be16 p.overspeed ++ be16 p.a.rpm ++ be16 p.b.rpm ++
        [byte (bit p.a.failed 0 + bit p.b.failed 1 + bit p.a.aboveRange 2 + bit p.b.aboveRange 3 +
            bit p.speedDisagree 4 + bit p.senseLost 5 + bit p.forceInEffect.isSome 6)] ++
        (match p.forceInEffect with
          | some v => be16 v
          | none => [0, 0])
    let i := s.ins
    (Heard l ⟨kindRead, seq, [1, first]⟩ s →
        ∃ t, exec (.readCrankHistory l seq [1, first]) s = .next t ∧ Unchanged others s t ∧
          if first.toNat ≤ 5 then
            ∃ payload, Replied l ⟨kindRead, seq, [1, first]⟩ .done payload s t ∧
              packed ([byte s.rsq.history.length, first] ++ be16 s.rsq.minute)
                ((s.rsq.history.drop first.toNat).map crank) payload
          else Replied l ⟨kindRead, seq, [1, first]⟩ .badField [] s t) ∧
      (Heard l ⟨kindRead, seq, [3, first]⟩ s →
        ∃ t, exec (.readAnalogChannelRecords l seq [3, first]) s = .next t ∧ Unchanged others s t ∧
          if first.toNat ≤ 6 then
            ∃ payload, Replied l ⟨kindRead, seq, [3, first]⟩ .done payload s t ∧
              packed [first]
                (([i.lube, i.coolant, i.fuel, i.battery, i.intake, i.crankcase].map channel ++ [speed]).drop
                  first.toNat)
                payload
          else Replied l ⟨kindRead, seq, [3, first]⟩ .badField [] s t)

/-! ### Sources: ENROL and DEMAND -/

/-- ENROL. The holder's is REFUSED STATE. One that passes the checks of R102 makes the link ACTIVE with the declared
envelope, a cleared demand record and a freshness timer of three intervals. One that fails them is not answered: the link
becomes INERT with an empty entry, the frames queued behind it are discarded and counted, and a handover it had claimed
ends EXPIRED. -/
def Obligations.EnrolAnswers : Prop :=
  ∀ (l : Link) (seq : Byte) (payload : List Byte) (s : State),
    let f : Frame := ⟨kindEnrol, seq, payload⟩
    let x := s.aut.source l
    Front l f s → s.cfg.checking = false → x.linkState ≠ .inert → deviates l f s = false →
    let permitted : Bool :=
      match l with
      | .stand => true
      | .remote => s.cfg.active.remoteEnable
      | .service => s.cfg.active.serviceEnable
    let declared : Option Envelope :=
      match payload with
      | [role, notch, flags, interval] =>
        if role.toNat = (linkSource l).code ∧ permitted = true ∧ 10 ≤ interval.toNat ∧ interval.toNat ≤ 200 ∧
            notch.toNat ≤ 8 then
          some ⟨notch.toNat, flags.getLsbD 0, flags.getLsbD 1, flags.getLsbD 2, interval.toNat⟩
        else none
      | _ => none
    ∃ t, exec (.enrol l seq payload) s = .next t ∧
      (x.linkState = .active ∧ s.aut.holds l = true →
        Unchanged [.rsq, .spd, .ins, .pru, .aut, .ntu, .iru, .cfg] s t ∧ Replied l f .refusedState [] s t) ∧
      (¬(x.linkState = .active ∧ s.aut.holds l = true) →
        (∀ e, declared = some e →
          Unchanged [.rsq, .spd, .ins, .pru, .ntu, .iru, .cfg] s t ∧ Replied l f .done [] s t ∧
            t.aut = s.aut.setSource l ⟨.active, some e, 0, .none, false, false, some (30 * e.interval), x.outcome⟩) ∧
        (declared = none →
          Unchanged [.cfg] s t ∧ Settled t ∧ (t.aut.source l).linkState = .inert ∧
            SameButAttn
              { s.links.link l with
                queue := []
                inertDiscards :=
                  min 65535 ((s.links.link l).inertDiscards + (s.links.link l).queue.tail.length) }
              (t.links.link l) ∧
            (∀ k : Link, k ≠ l → SameButAttn (s.links.link k) (t.links.link k)) ∧
            (s.aut.holds l = false → s.rsq.engine ≠ .unloading →
              Unchanged [.rsq, .spd, .ins, .pru] s t ∧
                t.aut =
                  (let a := s.aut.setSource l ⟨.inert, none, 0, .none, false, false, none, x.outcome⟩
                  if s.aut.claimedBy l = true then a.ended l .expired else a))))

/-- DEMAND from a source that does not hold authority, and a malformed DEMAND from any: BAD FIELD records nothing; else the
clamped notch, the run request and the limited flag are recorded and the reply is NOT HOLDER with the clamped notch. -/
def Obligations.DemandOfANonHolderIsOnlyRecorded : Prop :=
  ∀ (l : Link) (seq : Byte) (payload : List Byte) (s : State), Ready l ⟨kindDemand, seq, payload⟩ s →
    let x := s.aut.source l
    ∃ t, exec (.demand l seq payload) s = .next t ∧
      (∀ notch run, payload = [notch, run] → notch.toNat ≤ 8 → run.toNat ≤ 2 → s.aut.holds l = false →
        Unchanged [.rsq, .spd, .ins, .pru, .ntu, .iru, .cfg] s t ∧
          Replied l ⟨kindDemand, seq, payload⟩ .notHolder [byte (min notch.toNat x.maxNotch), 0] s t ∧
          t.aut = s.aut.setSource l
            { x with
              demand := min notch.toNat x.maxNotch
              run := if run.toNat = 0 then .none else if run.toNat = 1 then .start else .stop
              limited := decide (x.maxNotch < notch.toNat) }) ∧
      ((∀ notch run : Byte, payload = [notch, run] → 8 < notch.toNat ∨ 2 < run.toNat) →
        Unchanged [.rsq, .spd, .ins, .pru, .aut, .ntu, .iru, .cfg] s t ∧
          Replied l ⟨kindDemand, seq, payload⟩ .badField [] s t)

/-- DEMAND from the holder: the record and the fresh flag are set. With no run request the reply is DONE, or DONE LIMITED
where the notch was clamped; a START or STOP that the envelope does not allow is NOT PERMITTED; in both cases RSQ is not
reached while IRU is neither STOPPING nor in WATCH. -/
def Obligations.DemandOfTheHolder : Prop :=
  ∀ (l : Link) (seq notch run : Byte) (s : State), Ready l ⟨kindDemand, seq, [notch, run]⟩ s →
    s.aut.holds l = true → notch.toNat ≤ 8 → run.toNat ≤ 2 →
    let f : Frame := ⟨kindDemand, seq, [notch, run]⟩
    let x := s.aut.source l
    let d := min notch.toNat x.maxNotch
    let kept (t : State) : Prop :=
      s.iru.state ≠ .stopping → s.iru.state ≠ .watch → s.rsq.engine ≠ .unloading →
        Unchanged [.rsq, .spd, .ins, .pru, .cfg] s t ∧
          t.aut = s.aut.setSource l
            { x with
              demand := d, limited := decide (x.maxNotch < notch.toNat), fresh := true
              run := if run.toNat = 0 then .none else if run.toNat = 1 then .start else .stop }
    ∃ t, exec (.demand l seq [notch, run]) s = .next t ∧ Settled t ∧ Unchanged [.ins, .cfg] s t ∧
      (run.toNat = 0 →
        Replied l f (if x.maxNotch < notch.toNat then .doneLimited else .done) [byte d, 0] s t ∧ kept t) ∧
      (run.toNat = 1 → (∀ e, x.envelope = some e → e.mayStart = false) →
        Replied l f .notPermitted [byte d, 0] s t ∧ kept t) ∧
      (run.toNat = 2 → (∀ e, x.envelope = some e → e.mayStop = false) →
        Replied l f .notPermitted [byte d, 0] s t ∧ kept t)

/-- A holder START. At rest the permissives are tested in the order of R5, and the first that fails refuses it with its
reason, which the run record keeps; in a state other than STOPPED, AUTO STOPPED and UNLOADING the reason is ENGINE STATE and
the run record stays. Accepted, RSQ is in PRELUBE with the record of R6, and a handover to SERVICE ends REFUSED; in
UNLOADING the stop is cancelled. -/
def Obligations.AHolderStartIsAcceptedOrRefused : Prop :=
  ∀ (l : Link) (seq notch : Byte) (e : Envelope) (s : State), Ready l ⟨kindDemand, seq, [notch, 1]⟩ s →
    s.aut.holds l = true → notch.toNat ≤ 8 → (s.aut.source l).envelope = some e → e.mayStart = true → Sound s →
    let f : Frame := ⟨kindDemand, seq, [notch, 1]⟩
    let d := min notch.toNat e.maxNotch
    let accepted : Result := if e.maxNotch < notch.toNat then .doneLimited else .done
    let atStart : Bool := decide (s.rsq.engine = .stopped) || decide (s.rsq.engine = .autoStopped)
    let recorded := s.aut.setSource l
      { s.aut.source l with demand := d, run := .start, limited := decide (e.maxNotch < notch.toNat), fresh := true }
    let why : Option Reason :=
      if atStart = true then
        (if s.ins.turningGear.used = true then some .turningGear
        else if s.ins.battery.given < s.cfg.active.crankMin then some .battery
        else if 6 ≤ s.rsq.history.length then some .crankCount
        else if s.cfg.active.crankBudget < usedStarterTime s.rsq.history + 50 then some .budget
        else if forcesActive s = true then some .forced
        else if s.cfg.defaulted = true then some .defaulted
        else none)
      else if s.rsq.engine = .unloading then none
      else some .engineState
    ∃ t, exec (.demand l seq [notch, 1]) s = .next t ∧ Settled t ∧
      (∀ r, why = some r →
        Replied l f .refusedState [byte d, byte r.code] s t ∧
          (s.iru.state ≠ .stopping →
            Unchanged [.spd, .ins, .pru, .cfg] s t ∧ t.aut = recorded ∧
              t.rsq =
                if atStart = true then { s.rsq with startResult := .refused, startReason := some r } else s.rsq)) ∧
      (why = none → Replied l f accepted [byte d, 0] s t ∧ Unchanged [.spd, .ins, .pru, .cfg] s t ∧
        (atStart = true →
          PrelubeEntered .commanded s.rsq s t ∧ t.iru.restartRefused = false ∧
            t.aut = if recorded.claimedBy .service = true then recorded.ended .service .refused else recorded) ∧
        (s.rsq.engine = .unloading →
          t.rsq = { enterState .running s.rsq with stopCause := .none } ∧ t.aut = recorded))

/-- A holder STOP is answered DONE, or DONE LIMITED, in every state. A start in progress ends STOPPED BY COMMAND and
goes to rest by R3, its open or FIRED crank record closed as COMMAND; RUNNING goes to UNLOADING with the unload timer;
UNLOADING and RUNDOWN of an auto stop take stop cause COMMAND; AUTO STOPPED goes to STOPPED. RUNNING and UNLOADING are
spoken of at applied notch 2 or above, since at 0 or 1 the unloading can be complete in the same event. That every
timer of the start stops with it is the model's choice (log 11). -/
def Obligations.AHolderStopIsObeyedByTheEngineState : Prop :=
  ∀ (l : Link) (seq notch : Byte) (e : Envelope) (s : State), Ready l ⟨kindDemand, seq, [notch, 2]⟩ s →
    s.aut.holds l = true → notch.toNat ≤ 8 → (s.aut.source l).envelope = some e → e.mayStop = true → Sound s →
    let x := s.rsq
    let rest (r : Rsq) : Rsq :=
      let new : Engine :=
        if 0 < s.spd.measured then .rundown else if s.pru.shutdownInService = true then .lockedOut else .stopped
      { enterState new { r with startResult := .stoppedByCommand, stopCause := .command } with
        timers := stoppedTimers
        restartPending := r.restartPending && decide (0 < s.spd.measured) }
    ∃ t, exec (.demand l seq [notch, 2]) s = .next t ∧ Settled t ∧ Unchanged [.ins, .cfg] s t ∧
      Replied l ⟨kindDemand, seq, [notch, 2]⟩ (if e.maxNotch < notch.toNat then .doneLimited else .done)
        [byte (min notch.toNat e.maxNotch), 0] s t ∧
      t.spd = { s.spd with senseLost := t.spd.senseLost } ∧
      (∀ k : Entry, k ≠ 4 → k ≠ 8 → k ≠ 9 → t.pru.entry k = s.pru.entry k) ∧
      t.aut = s.aut.setSource l
        { s.aut.source l with
          demand := min notch.toNat e.maxNotch, run := .stop, limited := decide (e.maxNotch < notch.toNat)
          fresh := true } ∧
      (x.engine = .prelube ∨ x.engine = .priming ∨ x.engine = .crankRest → t.rsq = rest x) ∧
      (∀ older r, x.history = older ++ [r] → x.engine = .cranking → r.isOpen = true → r.outcome = .inProgress →
        t.rsq = rest (x.attemptEnded older r .command r.duration)) ∧
      (∀ older r, x.history = older ++ [r] → x.engine = .accelerating →
        t.rsq = rest { x with history := older ++ [{ r with outcome := .command, isOpen := false }] }) ∧
      (x.engine = .running → 2 ≤ s.ntu.applied →
        t.rsq =
          { enterState .unloading { x with stopCause := .command } with
            timers :=
              { stoppedTimers with
                lubeArming := x.timers.lubeArming, unload := some (tenthsMs s.cfg.active.unloadLimit) } }) ∧
      (x.engine = .unloading → 2 ≤ s.ntu.applied → t.rsq = { x with stopCause := .command }) ∧
      (x.engine = .rundown →
        t.rsq =
          { x with
            restartPending := false
            stopCause := if x.stopCause = .autoStop then .command else x.stopCause }) ∧
      (x.engine = .autoStopped → t.rsq = { enterState .stopped x with stopCause := .none }) ∧
      (x.engine = .stopped ∨ x.engine = .lockedOut → t.rsq = x)

/-! ### Authority -/

/-- CLAIM, by the tests of R119 in their order; then a grant at once where nobody holds authority, else a handover in AWAIT
YIELD, or in AWAIT TAKE where the trainline holds at effective demand 0, under the next handover number. -/
def Obligations.ClaimIsTestedInOrder : Prop :=
  ∀ (l : Link) (seq : Byte) (payload : List Byte) (s : State), Ready l ⟨kindClaim, seq, payload⟩ s →
    let f : Frame := ⟨kindClaim, seq, payload⟩
    let x := s.aut.source l
    let refused (r : Result) (t : State) : Prop :=
      Unchanged [.rsq, .spd, .ins, .pru, .aut, .ntu, .iru, .cfg] s t ∧ Replied l f r [] s t
    ∃ t, exec (.claim l seq payload) s = .next t ∧
      (payload.length ≠ 1 → refused .badField t) ∧
      (∀ options : Byte, payload = [options] →
        let override := options.getLsbD 0
        let mayOverride : Bool :=
          decide (l = .stand ∧ (s.aut.holder = some .trainline ∨ s.aut.holder = some .remote))
        if s.aut.holds l = true then refused .refusedState t
        else if s.aut.handover.isSome = true then refused .handoverBusy t
        else if override = true ∧ mayOverride = false then refused .notPermitted t
        else if l = .service ∧ s.aut.holder ≠ none ∧ s.rsq.engine.atRest = false then refused .refusedState t
        else
          Settled t ∧ Unchanged [.ins, .cfg] s t ∧
            (s.rsq.engine ≠ .unloading → Unchanged [.rsq, .spd, .pru] s t) ∧
            (s.aut.holder = none → Replied l f .done [] s t ∧
              t.aut =
                { s.aut.setSource l { x with outcome := .granted, fresh := false } with
                  holder := some (linkSource l), handover := none }) ∧
            (∀ h, s.aut.holder = some h → Replied l f .inProgress [byte s.aut.nextNumber] s t ∧
              (s.rsq.engine ≠ .unloading →
                let atOnce := h = .trainline ∧ s.aut.trainline.effective = 0
                t.aut =
                  { s.aut.setSource l { x with outcome := .none } with
                    nextNumber := if s.aut.nextNumber = 255 then 1 else s.aut.nextNumber + 1
                    handover := some
                      { claimant := l, holderAtStart := h, number := s.aut.nextNumber, override := override
                        stage := if atOnce then .awaitTake else .awaitYield
                        timer := some (tenthsMs
                          (if atOnce then s.cfg.active.takeTime else s.cfg.active.yieldTime)) } })))

/-- YIELD, by its target: to nobody the holder becomes NONE, or the trainline if it is LIVE; to the trainline, where it is
LIVE, the trainline takes authority with its fresh flag set; to the claimant of a handover in AWAIT YIELD the stage becomes
AWAIT TAKE. A SERVICE holder that gives up authority takes its forces and masks with it. -/
def Obligations.YieldMovesAuthority : Prop :=
  (∀ (l : Link) (seq : Byte) (payload : List Byte) (s : State), Ready l ⟨kindYield, seq, payload⟩ s →
    payload.length ≠ 1 →
    ∃ t, exec (.yield l seq payload) s = .next t ∧
      Unchanged [.rsq, .spd, .ins, .pru, .aut, .ntu, .iru, .cfg] s t ∧
      Replied l ⟨kindYield, seq, payload⟩ .badField [] s t) ∧
  ∀ (l : Link) (seq target : Byte) (s : State), Ready l ⟨kindYield, seq, [target]⟩ s →
    let f : Frame := ⟨kindYield, seq, [target]⟩
    let refused (r : Result) (t : State) : Prop :=
      Unchanged [.rsq, .spd, .ins, .pru, .aut, .ntu, .iru, .cfg] s t ∧ Replied l f r [] s t
    let live := decide (s.aut.trainline.state = .live)
    let released (t : State) : Prop := forcesActive t = false ∧ ∀ e : Entry, (t.pru.entry e).masked = false
    ∃ t, exec (.yield l seq [target]) s = .next t ∧
      (4 < target.toNat → refused .badField t) ∧
      (target.toNat ≤ 4 → s.aut.holds l = false →
        refused (if s.aut.inStage .awaitTake = true then .refusedState else .notHolder) t) ∧
      (target.toNat = 0 ∨ target.toNat = 2 → s.aut.holds l = true → s.aut.inStage .awaitYield = true →
        refused .handoverBusy t) ∧
      (target.toNat = 0 → s.aut.holds l = true → s.aut.handover = none →
        Replied l f .done [] s t ∧ Settled t ∧ (t.aut.source l).outcome = (s.aut.source l).outcome ∧
          (t.aut.holder = none ∨ t.aut.holder = some .trainline) ∧ (l = .service → released t) ∧
          (l ≠ .service → t.aut.holder = if live = true then some .trainline else none) ∧
          (l ≠ .service → live = false → s.rsq.engine ≠ .unloading →
            Unchanged [.rsq, .spd, .ins, .pru, .cfg] s t ∧ t.aut = { s.aut with holder := none })) ∧
      (target.toNat = 2 → s.aut.holds l = true → s.aut.handover = none → l ≠ .service →
        if live = false then refused .refusedState t
        else
          Replied l f .done [] s t ∧ Settled t ∧ Unchanged [.ins, .cfg] s t ∧ t.aut.holder = some .trainline ∧
            t.aut.trainline = { s.aut.trainline with fresh := true }) ∧
      (target.toNat = 2 → s.aut.holds l = true → s.aut.handover = none → l = .service →
        let wires := s.aut.trainline.wires.debouncedLevels
        if s.cfg.active.trainlineFollow = true ∧ wires.run = true then
          Replied l f .done [] s t ∧ Settled t ∧ t.aut.holder = some .trainline ∧ released t
        else refused .refusedState t) ∧
      (target.toNat = 1 ∨ target.toNat = 3 ∨ target.toNat = 4 → s.aut.holds l = true →
        (∀ h, s.aut.handover = some h → h.stage = .awaitYield → (linkSource h.claimant).code = target.toNat →
          Replied l f .done [] s t ∧ Settled t ∧ Unchanged [.ins, .cfg] s t ∧
            (s.rsq.engine ≠ .unloading →
              Unchanged [.rsq, .spd, .pru] s t ∧
                t.aut =
                  { s.aut with
                    handover := some
                      { h with stage := .awaitTake, timer := some (tenthsMs s.cfg.active.takeTime) } })) ∧
        ((∀ h, s.aut.handover = some h → h.stage ≠ .awaitYield ∨ (linkSource h.claimant).code ≠ target.toNat) →
          refused .refusedState t))

/-- TAKE makes the claimant the holder in AWAIT TAKE with the right number, and is REFUSED STATE elsewhere; KEEP ends a
handover in AWAIT YIELD as REFUSED, or has no effect on one with the override option. -/
def Obligations.TakeAndKeepEndTheHandover : Prop :=
  ∀ (l : Link) (seq : Byte) (payload : List Byte) (s : State),
    let refused (f : Frame) (r : Result) (t : State) : Prop :=
      Unchanged [.rsq, .spd, .ins, .pru, .aut, .ntu, .iru, .cfg] s t ∧ Replied l f r [] s t
    (Ready l ⟨kindTake, seq, payload⟩ s →
      ∃ t, exec (.take l seq payload) s = .next t ∧
        (payload.length ≠ 1 → refused ⟨kindTake, seq, payload⟩ .badField t) ∧
        (∀ number : Byte, payload = [number] →
          ((∀ h, s.aut.handover = some h →
              h.claimant ≠ l ∨ h.stage = .awaitYield ∨ h.number ≠ number.toNat) →
            refused ⟨kindTake, seq, payload⟩ .refusedState t) ∧
          (∀ h, s.aut.handover = some h → h.claimant = l → h.stage = .awaitTake → h.number = number.toNat →
            Replied l ⟨kindTake, seq, payload⟩ .done [] s t ∧ Settled t ∧ t.aut.holder = some (linkSource l) ∧
              (s.aut.holder = some .service → l ≠ .service →
                forcesActive t = false ∧ ∀ e : Entry, (t.pru.entry e).masked = false) ∧
              (s.aut.holder ≠ some .service → s.rsq.engine ≠ .unloading →
                Unchanged [.rsq, .spd, .ins, .pru, .cfg] s t ∧
                  t.aut =
                    { s.aut.setSource l { s.aut.source l with outcome := .granted, fresh := false } with
                      holder := some (linkSource l), handover := none })))) ∧
      (Ready l ⟨kindKeep, seq, payload⟩ s →
        ∃ t, exec (.keep l seq payload) s = .next t ∧
          (s.aut.holds l = false → refused ⟨kindKeep, seq, payload⟩ .notHolder t) ∧
          (s.aut.holds l = true → s.aut.inStage .awaitYield = false →
            refused ⟨kindKeep, seq, payload⟩ .refusedState t) ∧
          (∀ h, s.aut.handover = some h → s.aut.holds l = true → h.stage = .awaitYield →
            if h.override = true then refused ⟨kindKeep, seq, payload⟩ .done t
            else
              Replied l ⟨kindKeep, seq, payload⟩ .done [] s t ∧ Settled t ∧ Unchanged [.ins, .cfg] s t ∧
                (s.rsq.engine ≠ .unloading →
                  Unchanged [.rsq, .spd, .pru] s t ∧ t.aut = s.aut.ended h.claimant .refused)))

/-- The stage timer: at its expiry in AWAIT YIELD an override goes on to AWAIT TAKE, and any other handover ends EXPIRED;
in AWAIT TAKE the handover ends EXPIRED. The holder stays. -/
def Obligations.AHandoverStageExpires : Prop :=
  ∀ (s : State) (c : Instr) (h : Handover), s.aut.handover = some h → h.timer.isSome = true →
    (c = .yieldStageExpiry ∧ h.stage = .awaitYield) ∨ (c = .takeStageExpiry ∧ h.stage = .awaitTake) →
    ∃ t, exec c s = .next t ∧ Settled t ∧ Unchanged [.ins, .links, .cfg] s t ∧
      (s.rsq.engine ≠ .unloading →
        Unchanged [.rsq, .spd, .pru] s t ∧
          t.aut =
            if c = .yieldStageExpiry ∧ h.override = true then
              { s.aut with
                handover := some { h with stage := .awaitTake, timer := some (tenthsMs s.cfg.active.takeTime) } }
            else s.aut.ended h.claimant .expired)

/-! ### The trainline -/

/-- A trainline wire: a level change starts its 60 ms timer, or cancels it where the level is back at the debounced one. The
debounced change takes the level: a change of W1 to W4 starts the settle timer and, where the code is not valid, the
invalid timer; a change of RUN sets the state afresh; a rise of STOP starts its 1 s hold and a fall cancels it. The
effective demand and the condition of TRAINLINE CODE follow, and a trainline that becomes LIVE takes authority that nobody
holds. That a change of RUN leaves the state as it is during the self-check is the model's choice (log 9). -/
def Obligations.TrainlineWiresAreDebounced : Prop :=
  (∀ (w : Wire) (level : Bool) (s : State),
    let x := s.aut.trainline.wires.wire w
    exec (.trainlineWireLevelChange w level) s = .next
      { s with
        aut :=
          { s.aut with
            trainline :=
              { s.aut.trainline with
                wires := s.aut.trainline.wires.setWire w
                  (if x.level = level then x
                  else
                    { x with level := level, timer := if level = x.debounced then none else some 60 }) } } }) ∧
    ∀ (w : Wire) (s : State), (s.aut.trainline.wires.wire w).timer.isSome = true → s.aut.trainline.forced = none →
      let old := s.aut.trainline
      let x := old.wires.wire w
      let wires := old.wires.setWire w { x with debounced := x.level, timer := none }
      let now := wires.debouncedLevels
      let moved : Bool := x.level != x.debounced
      let data : Bool := decide (w ≠ .run) && decide (w ≠ .stop)
      let state : TrainlineState :=
        if w = .run ∧ moved = true ∧ s.cfg.checking = false then
          (if s.cfg.active.trainlineFollow = false then .absent else if x.level = true then .live else .quiet)
        else old.state
      let takes : Bool := decide (s.aut.holder = none ∧ old.state ≠ .live ∧ state = .live)
      ∃ t, exec (.trainlineDebouncedChange w) s = .next t ∧ Settled t ∧ Unchanged [.ins, .links, .cfg] s t ∧
        t.aut.trainline =
          { old with
            wires := wires
            state := state
            settle := if moved = true ∧ data = true then some 60 else old.settle
            invalidTimer :=
              if moved = true ∧ data = true ∧ old.invalid = false ∧ old.invalidTimer = none ∧
                  codeNotch now.w1 now.w2 now.w3 now.w4 = none then
                some 500
              else old.invalidTimer
            stopHold :=
              if w = .stop ∧ moved = true then (if x.level = true then some 1000 else none) else old.stopHold
            effective := if state = .live ∧ old.invalid = false then old.decoded else 0
            fresh := takes || old.fresh } ∧
        t.aut.holder = (if takes = true then some .trainline else s.aut.holder) ∧
        (t.pru.entry 15).condition = (old.invalid && !decide (state = .absent)) ∧
        (s.aut.holder ≠ some .trainline → s.iru.state ≠ .stopping → s.iru.state ≠ .watch →
          s.rsq.engine ≠ .unloading →
          Unchanged [.rsq, .spd] s t ∧ (∀ e : Entry, e ≠ 15 → t.pru.entry e = s.pru.entry e) ∧
            t.aut = { s.aut with trainline := t.aut.trainline, holder := t.aut.holder })

/-- The trainline's timers. At the settle expiry a valid code is adopted and clears CODE INVALID; an invalid one is not. At
the invalid expiry CODE INVALID sets and the decoded notch is 0; a trainline holder whose effective demand falls to 0 in
AWAIT YIELD yields. At the end of the STOP hold a trainline holder's STOP goes
to RSQ, and any other is dropped. -/
def Obligations.TrainlineTimersDecodeAndStop : Prop :=
  ∀ (s : State),
    let old := s.aut.trainline
    let effective (invalid : Bool) (n : Nat) : Nat := if old.state = .live ∧ invalid = false then n else 0
    let unheard (t : State) : Prop :=
      s.aut.holder ≠ some .trainline → s.rsq.engine ≠ .unloading →
        Unchanged [.rsq, .spd] s t ∧ (∀ e : Entry, e ≠ 15 → t.pru.entry e = s.pru.entry e) ∧
          t.aut = { s.aut with trainline := t.aut.trainline }
    (old.settle.isSome = true →
      ∃ t, exec .settleTimerExpiry s = .next t ∧ Settled t ∧ Unchanged [.ins, .links, .cfg] s t ∧
        t.aut.holder = s.aut.holder ∧ unheard t ∧
        t.aut.trainline =
          match codeNotch old.used.w1 old.used.w2 old.used.w3 old.used.w4 with
          | some n =>
            { old with
              settle := none, decoded := n, invalid := false, invalidTimer := none, effective := effective false n }
          | none => { old with settle := none, effective := effective old.invalid old.decoded }) ∧
      (old.invalidTimer.isSome = true →
        ∃ t, exec .invalidTimerExpiry s = .next t ∧ Settled t ∧ Unchanged [.ins, .links, .cfg] s t ∧
          t.aut.holder = s.aut.holder ∧ unheard t ∧
          (∀ h, s.aut.handover = some h → h.stage = .awaitYield → s.aut.holder = some .trainline →
            old.effective ≠ 0 → s.iru.state ≠ .stopping → s.iru.state ≠ .watch → s.rsq.engine ≠ .unloading →
            t.aut.handover =
              some { h with stage := .awaitTake, timer := some (tenthsMs s.cfg.active.takeTime) }) ∧
          t.aut.trainline = { old with invalidTimer := none, invalid := true, decoded := 0, effective := 0 } ∧
          (t.pru.entry 15).condition = decide (old.state ≠ .absent)) ∧
      (old.stopHold.isSome = true →
        ∃ t, exec .stopHoldExpiry s = .next t ∧ Settled t ∧ Unchanged [.ins, .links, .cfg] s t ∧
          t.aut.trainline = { old with stopHold := none } ∧
          (s.aut.holder ≠ some .trainline → s.rsq.engine ≠ .unloading → Unchanged [.rsq, .spd, .pru] s t) ∧
          (s.aut.holder = some .trainline → s.rsq.engine = .running → 2 ≤ s.ntu.applied →
            t.rsq =
              { enterState .unloading { s.rsq with stopCause := .command } with
                timers :=
                  { stoppedTimers with
                    lubeArming := s.rsq.timers.lubeArming
                    unload := some (tenthsMs s.cfg.active.unloadLimit) } }))

/-! ### Starting, cranking, coming to rest -/

/-- A start fails at the prelube limit or the prime limit (R17): entry 5 trips and the engine is out. That every timer of the
start stops with it is the model's choice (log 11). -/
def Obligations.PrelubeAndPrimeLimitsFailTheStart : Prop :=
  ∀ (s : State) (c : Instr) (result : StartResult), Sound s → s.cfg.checking = false →
    (s.pru.entry 5).state = .idle →
    (c = .prelubeLimitExpiry ∧ s.rsq.engine = .prelube ∧ s.rsq.timers.prelubeLimit.isSome = true ∧
        result = .failedPrelube) ∨
      (c = .primeTimerExpiry ∧ s.rsq.engine = .priming ∧ s.rsq.timers.prime.isSome = true ∧
        result = .failedPrime) →
    ∃ t, exec c s = .next t ∧ Settled t ∧ Unchanged [.ins, .aut, .links, .cfg] s t ∧
      StartFailed result s.rsq s t

/-- The end of the minimum prelube: below PRELUBE PRESSURE the prelube goes on; else PRIMING with its timer, or at once
CRANKING where the fuel pressure stands at PRIME PRESSURE and the permissives hold; where one fails, the start is
abandoned, the first that fails in the order of R5 being the start reason. The timers a change of state does not start
stop with it (log 11). -/
def Obligations.PrelubeAdvancesOnPressure : Prop :=
  ∀ s : State, Sound s → s.rsq.engine = .prelube → s.rsq.timers.prelubeMinimum.isSome = true →
    let lube := s.ins.lube.given
    let fuel := s.ins.fuel.given
    let why : Option Reason :=
      if s.ins.turningGear.used = true then some .turningGear
      else if s.ins.battery.given < s.cfg.active.crankMin then some .battery
      else if 6 ≤ s.rsq.history.length then some .crankCount
      else if s.cfg.active.crankBudget < usedStarterTime s.rsq.history + 50 then some .budget
      else if forcesActive s = true then some .forced
      else if s.cfg.defaulted = true then some .defaulted
      else none
    ∃ t, exec .prelubeMinimumExpiry s = .next t ∧ Settled t ∧ Unchanged [.ins, .pru, .aut, .links, .cfg] s t ∧
      (lube < s.cfg.active.prelubePressure →
        t.rsq = { s.rsq with timers := { s.rsq.timers with prelubeMinimum := none } } ∧ t.spd = s.spd) ∧
      (s.cfg.active.prelubePressure ≤ lube → fuel < s.cfg.active.primePressure →
        t.rsq =
            { enterState .priming s.rsq with
              timers := { stoppedTimers with prime := some (tenthsMs s.cfg.active.primeLimit) } } ∧
          t.spd = s.spd) ∧
      (s.cfg.active.prelubePressure ≤ lube → s.cfg.active.primePressure ≤ fuel →
        (Permitted s → CrankingEntered s.rsq s t ∧ t.spd = s.spd) ∧
          (why = none ↔ Permitted s) ∧
          ∀ reason, why = some reason → s.rsq.stopCause = .none →
            let new : Engine :=
              if 0 < s.spd.measured then .rundown
              else if s.pru.shutdownInService = true then .lockedOut
              else .stopped
            t.rsq =
                { enterState new { s.rsq with startResult := .abandoned, startReason := some reason } with
                  timers := stoppedTimers
                  restartPending := s.rsq.restartPending && decide (0 < s.spd.measured) } ∧
              t.spd = if 0 < s.spd.measured then s.spd else { s.spd with senseLost := false })

/-- A failed attempt goes to CRANK REST (R15): NO ENGAGE, NO FIRE and BATTERY close the open record with its duration,
SLOW and STALLED change the FIRED one; the rest timer starts, and the zero hold timer too at measured speed 0. The
durations of the first two rest on the model's choice of how cranking time is counted (log 3); that the attempt's other
timers stop, the stall timer at SLOW and the acceleration timer at STALLED among them, is its choice too (log 11). -/
def Obligations.FailedAttemptsGoToCrankRest : Prop :=
  ∀ (s : State) (c : Instr) (older : List CrankRecord) (r : CrankRecord), Sound s →
    s.rsq.history = older ++ [r] →
    let rest (x : Rsq) : Rsq :=
      { enterState .crankRest x with
        zeroConfirmed := false
        timers :=
          { stoppedTimers with
            rest := some (tenthsMs s.cfg.active.crankRest)
            zeroHold := if s.spd.measured = 0 then some 1000 else none } }
    let failed (x : Rsq) : Prop :=
      ∃ t, exec c s = .next t ∧ Settled t ∧ Unchanged [.spd, .ins, .aut, .links, .cfg] s t ∧ t.rsq = rest x ∧
        (s.rsq.lubeArmed = false → t.pru = s.pru) ∧ ∀ e : Entry, e ≠ 4 → t.pru.entry e = s.pru.entry e
    (s.rsq.engine = .cranking →
      (∀ ms, s.rsq.timers.engage = some ms → c = .engageTimerExpiry → (∀ b, s.rsq.budget = some b → ms / 100 ≤ b) →
          failed (s.rsq.attemptEnded older r .noEngage (ms / 100))) ∧
        (∀ ms, s.rsq.timers.crankLimit = some ms → c = .crankLimitExpiry →
          (∀ b, s.rsq.budget = some b → ms / 100 ≤ b) →
          failed (s.rsq.attemptEnded older r .noFire (ms / 100))) ∧
        (c = .batteryDropoutExpiry → s.rsq.timers.batteryDropout.isSome = true → r.isOpen = true →
          r.outcome = .inProgress → failed (s.rsq.attemptEnded older r .battery r.duration))) ∧
      (s.rsq.engine = .accelerating →
        (c = .accelerationTimerExpiry → s.rsq.timers.acceleration.isSome = true →
            failed { s.rsq with history := older ++ [{ r with outcome := .slow, isOpen := false }] }) ∧
          (c = .stallTimerExpiry → s.rsq.timers.stall.isSome = true →
            failed { s.rsq with history := older ++ [{ r with outcome := .stalled, isOpen := false }] }))

/-- The budget timer ends the attempt as BUDGET and abandons the start, to rest by R3; no failed start is counted and
no entry trips. The duration written is the headroom wherever this timer can be the first to expire, that is where no
crank limit or engage timer that runs is shorter; in the other states it passes neither the headroom nor 600 (log 3).
Every timer of the start stops (log 11). -/
def Obligations.AFilledBudgetAbandonsTheStart : Prop :=
  ∀ (s : State) (older : List CrankRecord) (r : CrankRecord) (headroom : Nat), Sound s →
    s.rsq.engine = .cranking → s.rsq.budget = some headroom → s.rsq.history = older ++ [r] →
    s.rsq.stopCause = .none → s.rsq.lubeArmed = false →
    let new : Engine :=
      if 0 < s.spd.measured then .rundown else if s.pru.shutdownInService = true then .lockedOut else .stopped
    ∃ t tenths, exec .budgetTimerExpiry s = .next t ∧ Settled t ∧ Unchanged [.ins, .pru, .aut, .links, .cfg] s t ∧
      (headroom ≤ 600 → (∀ ms, s.rsq.timers.crankLimit = some ms → headroom ≤ ms / 100) →
        (∀ ms, s.rsq.timers.engage = some ms → headroom ≤ ms / 100) → tenths = headroom) ∧
      tenths ≤ headroom ∧ tenths ≤ 600 ∧
      t.rsq =
          { enterState new
              { s.rsq.attemptEnded older r .budget tenths with
                startResult := .abandoned, startReason := some .budget } with
            timers := stoppedTimers
            restartPending := s.rsq.restartPending && decide (0 < s.spd.measured) } ∧
        t.spd = if 0 < s.spd.measured then s.spd else { s.spd with senseLost := false }

/-- The lube arming timer sets lube armed; the minute tick moves the clock to at most 65535, ages the crank records, drops
the final ones at CRANK WINDOW or beyond, and forgets IRU's fuel-off time once the clock has saturated. -/
def Obligations.LubeArmingAndMinuteTick : Prop :=
  ∀ s : State,
    (s.rsq.timers.lubeArming.isSome = true →
      exec .lubeArmingExpiry s = .next
        { s with
          rsq := { s.rsq with lubeArmed := true, timers := { s.rsq.timers with lubeArming := none } } }) ∧
      exec .minuteTick s = .next
        { s with
          rsq :=
            { s.rsq with
              minute := min 65535 (s.rsq.minute + 1)
              history := (s.rsq.history.map fun r => { r with age := r.age + 1 }).filter fun r =>
                r.isOpen || decide (r.age < s.cfg.active.crankWindow) }
          iru := { s.iru with fuelOff := if 65534 ≤ s.rsq.minute then none else s.iru.fuelOff } }

/-- CRANK REST ends when its timer has expired and zero speed is confirmed, whichever comes second: with attempts left
and the permissives holding, RSQ cranks again with the next attempt number; with the attempts used up the start fails.
Before that an expiry changes its own timer alone. The timers a change of state does not start stop with it
(log 11). -/
def Obligations.CrankRestEnds : Prop :=
  ∀ (s : State) (c : Instr), Sound s → s.cfg.checking = false → s.rsq.engine = .crankRest →
    (c = .restTimerExpiry ∧ s.rsq.timers.rest.isSome = true) ∨
      (c = .zeroHoldExpiryCrankRest ∧ s.rsq.timers.zeroHold.isSome = true) →
    let after : Rsq :=
      if c = .restTimerExpiry then { s.rsq with timers := { s.rsq.timers with rest := none } }
      else { s.rsq with zeroConfirmed := true, timers := { s.rsq.timers with zeroHold := none } }
    let ended : Prop := after.zeroConfirmed = true ∧ after.timers.rest = none
    ∃ t, exec c s = .next t ∧ Settled t ∧ Unchanged [.ins, .aut, .links, .cfg] s t ∧
      (¬ended → t.rsq = after ∧ Unchanged [.spd, .pru] s t) ∧
      (ended → s.rsq.attempt < s.cfg.active.maxAttempts → Permitted s →
        CrankingEntered { after with attempt := s.rsq.attempt + 1 } s t ∧ Unchanged [.spd, .pru] s t) ∧
      (ended → s.rsq.attempt < s.cfg.active.maxAttempts → ¬Permitted s → s.rsq.stopCause = .none → Unchanged [.pru] s t ∧
        t.rsq.startResult = .abandoned ∧ t.rsq.startReason.isSome = true ∧
        t.rsq.startReason = failingPermissive s ∧ t.rsq.attempt = s.rsq.attempt + 1 ∧
        t.rsq.history = s.rsq.history ∧ t.rsq.counters = s.rsq.counters ∧
        (t.rsq.engine = .rundown ∨ t.rsq.engine.atRest = true)) ∧
      (ended → s.cfg.active.maxAttempts ≤ s.rsq.attempt → (s.pru.entry 5).state = .idle →
        StartFailed .failedAttempts after s t)

/-- The zero hold in RUNDOWN ends it at the state at rest that the stop cause and the SHUTDOWN entries give; an auto
stop with restart pending is restarted in the same event, or refused. The unload limit takes fuel off, whatever the
notch and the load: RUNDOWN, the load off at once, and an auto stop counted with its time. The timers a change of state
does not start stop with it (log 11). -/
def Obligations.RundownAndUnloadEnd : Prop :=
  ∀ s : State, Sound s →
    let new : Engine :=
      if s.pru.shutdownInService = true then .lockedOut
      else if s.rsq.stopCause = .autoStop then .autoStopped
      else .stopped
    (s.rsq.engine = .rundown → s.rsq.timers.zeroHold.isSome = true →
      ∃ t, exec .zeroHoldExpiryRundown s = .next t ∧ Settled t ∧ Unchanged [.ins, .pru, .aut, .links, .cfg] s t ∧
        t.spd = { s.spd with senseLost := false } ∧
        (s.rsq.restartPending = false ∨ new ≠ .autoStopped →
          t.rsq = { enterState new s.rsq with restartPending := false }) ∧
        (s.rsq.restartPending = true → new = .autoStopped →
          (Permitted s → PrelubeEntered .auto s.rsq s t) ∧
            (¬Permitted s → t.rsq.engine = .stopped ∧ t.rsq.startResult = .refused ∧
              t.rsq.startReason.isSome = true ∧ t.rsq.startReason = failingPermissive s ∧
              t.iru.restartRefused = true))) ∧
      (s.rsq.engine = .unloading → s.rsq.timers.unload.isSome = true →
        ∃ t, exec .unloadTimerExpiry s = .next t ∧ Settled t ∧ Unchanged [.spd, .ins, .aut, .links, .cfg] s t ∧
          t.rsq =
            { enterState .rundown
                { s.rsq with
                  counters :=
                    if s.rsq.stopCause = .autoStop then
                      { s.rsq.counters with autoStops := min 65535 (s.rsq.counters.autoStops + 1) }
                    else s.rsq.counters } with
              timers := { stoppedTimers with zeroHold := if s.spd.measured = 0 then some 2000 else none }
              restartPending := t.rsq.restartPending } ∧
          (s.iru.state ≠ .stopping → t.rsq.restartPending = s.rsq.restartPending) ∧
          t.iru.fuelOff =
            (if s.rsq.stopCause = .autoStop then
              (if s.rsq.minute = 65535 then none else some s.rsq.minute)
            else s.iru.fuelOff) ∧
          (t.ntu.applied = 0 ∧ t.ntu.loadRef = 0 ∧ t.ntu.loadPermit = false ∧ t.ntu.lowIdle = false) ∧
          ((t.pru.entry 8).condition = false ∧ (t.pru.entry 9).condition = false) ∧
          ∀ e : Entry, e ≠ 4 → e ≠ 8 → e ≠ 9 → t.pru.entry e = s.pru.entry e)

/-! ### Speed -/

/-- A pulse is counted up to 4095. A window turns the counts into window speeds, restarts them, and sets the overspeed and
measured speeds from the pickups that are GOOD (R42, R47, R48); under a speed force the readings are the forced value and
no pickup changes its health (R53). PICKUP FAULT follows the health (R46). -/
def Obligations.WindowsMeasureTheSpeed : Prop :=
  (∀ s : State,
    exec (.pickupPulse .a) s =
        .next { s with spd := { s.spd with a := { s.spd.a with count := min 4095 (s.spd.a.count + 1) } } } ∧
      exec (.pickupPulse .b) s =
        .next { s with spd := { s.spd with b := { s.spd.b with count := min 4095 (s.spd.b.count + 1) } } }) ∧
    ∀ s : State,
      let teeth := s.cfg.active.teeth
      let rpm (count : Nat) : Nat := count * 600 / teeth
      let reported : List Entry := [1, 2, 4, 8, 9, 13]
      ∃ t, exec .windowCompletes s = .next t ∧ Settled t ∧ Unchanged [.ins, .links, .cfg] s t ∧
        (Sound s → t.aut = s.aut) ∧ (∀ e : Entry, e ∉ reported → t.pru.entry e = s.pru.entry e) ∧
        (t.pru.entry 13).condition = (t.spd.a.failed || t.spd.b.failed || t.spd.speedDisagree) ∧
        (t.spd.a.count = 0 ∧ t.spd.b.count = 0 ∧ t.spd.force = s.spd.force ∧ t.spd.forceInEffect = s.spd.force) ∧
        (s.spd.force = none →
          t.spd.a.rpm = min 1600 (rpm s.spd.a.count) ∧ t.spd.a.aboveRange = decide (1600 < rpm s.spd.a.count) ∧
            t.spd.b.rpm = min 1600 (rpm s.spd.b.count) ∧ t.spd.b.aboveRange = decide (1600 < rpm s.spd.b.count)) ∧
        (∀ v, s.spd.force = some v →
          t.spd.a = { s.spd.a with count := 0, rpm := v, aboveRange := false } ∧
            t.spd.b = { s.spd.b with count := 0, rpm := v, aboveRange := false } ∧
            (t.spd.disagreeCount = s.spd.disagreeCount ∧ t.spd.agreeCount = s.spd.agreeCount ∧
              t.spd.speedDisagree = s.spd.speedDisagree ∧ t.spd.lostCount = s.spd.lostCount)) ∧
        t.spd.overspeed =
          max (if t.spd.a.failed = true then 0 else t.spd.a.rpm) (if t.spd.b.failed = true then 0 else t.spd.b.rpm) ∧
        t.spd.measured =
          if s.spd.senseLost = true then 0
          else if t.spd.a.failed = true then t.spd.b.rpm
          else if t.spd.b.failed = true then t.spd.a.rpm
          else if max t.spd.a.rpm t.spd.b.rpm - min t.spd.a.rpm t.spd.b.rpm ≤ s.cfg.active.tol then
            (t.spd.a.rpm + t.spd.b.rpm) / 2
          else max t.spd.a.rpm t.spd.b.rpm

/-- At most one pickup is FAILED at any time. Its health over one unforced window (R43, R44): the fifth failing window
in a row fails a GOOD pickup, the twentieth agreeing window in a row restores a FAILED one; pickup B goes by the same
rule with the two exchanged. OVERSPEED trips at one window at the limit. With both pickups GOOD the tenth disagreeing
window in a row sets SPEED DISAGREE and the tenth agreeing one clears it; a FAILED pickup clears it at once (R45). The
fifth blind window in a row, every GOOD pickup silent while a fuelled engine is accelerating, running or unloading, is
declared as SPEED SENSE LOST: the entry trips, the latch sets, unless this event brings the engine to rest, and the
engine goes to rest by R3 on the speed of this window (R50, R51). -/
def Obligations.WindowsJudgeThePickups : Prop :=
  Keeps PickupLaw ∧ ∀ s : State, s.spd.force = none → PickupLaw s →
    let c := s.cfg.active
    let rpm (p : PickupRec) : Nat := min 1600 (p.count * 600 / c.teeth)
    let silent (p : PickupRec) : Bool := decide (p.count < c.pMin)
    let failing (x y : PickupRec) : Bool :=
      silent x && !y.failed && !silent y && decide (60 ≤ rpm y)
    let agreeing (x y : PickupRec) : Bool :=
      !silent x && decide (max (rpm x) (rpm y) - min (rpm x) (rpm y) ≤ c.tol)
    let health (x y x' : PickupRec) : Prop :=
      (x.failed = false → failing x y = true → 4 ≤ x.failCount →
          x'.failed = true ∧ x'.failCount = 0 ∧ x'.recoveryCount = 0) ∧
        (x.failed = false → failing x y = true → x.failCount < 4 →
          x'.failed = false ∧ x'.failCount = x.failCount + 1) ∧
        (x.failed = false → failing x y = false → x'.failed = false ∧ x'.failCount = 0) ∧
        (x.failed = true → agreeing x y = true → 19 ≤ x.recoveryCount →
          x'.failed = false ∧ x'.failCount = 0 ∧ x'.recoveryCount = 0) ∧
        (x.failed = true → agreeing x y = true → x.recoveryCount < 19 →
          x'.failed = true ∧ x'.recoveryCount = x.recoveryCount + 1) ∧
        (x.failed = true → agreeing x y = false → x'.failed = true ∧ x'.recoveryCount = 0)
    let a := s.spd.a
    let b := s.spd.b
    let agree : Bool := decide (max (rpm a) (rpm b) - min (rpm a) (rpm b) ≤ c.tol)
    let burning : Bool :=
      s.rsq.fuelEnable && (decide (s.rsq.engine = .accelerating) || decide (s.rsq.engine = .running) ||
        decide (s.rsq.engine = .unloading))
    ∃ t, exec .windowCompletes s = .next t ∧
      (let p := t.spd
       let blind : Bool := (p.a.failed || silent a) && (p.b.failed || silent b) && burning
       let lost : Bool := blind && decide (4 ≤ s.spd.lostCount)
       (p.a.failed = true ∨ p.b.failed = true →
          p.speedDisagree = false ∧ p.disagreeCount = 0 ∧ p.agreeCount = 0) ∧
        (p.a.failed = false → p.b.failed = false →
          (s.spd.speedDisagree = false → agree = true →
              p.speedDisagree = false ∧ p.disagreeCount = 0 ∧ p.agreeCount = s.spd.agreeCount) ∧
            (s.spd.speedDisagree = false → agree = false → s.spd.disagreeCount < 9 →
              p.speedDisagree = false ∧ p.disagreeCount = s.spd.disagreeCount + 1 ∧
                p.agreeCount = s.spd.agreeCount) ∧
            (s.spd.speedDisagree = false → agree = false → 9 ≤ s.spd.disagreeCount →
              p.speedDisagree = true ∧ p.agreeCount = 0) ∧
            (s.spd.speedDisagree = true → agree = false →
              p.speedDisagree = true ∧ p.agreeCount = 0 ∧ p.disagreeCount = s.spd.disagreeCount) ∧
            (s.spd.speedDisagree = true → agree = true → s.spd.agreeCount < 9 →
              p.speedDisagree = true ∧ p.agreeCount = s.spd.agreeCount + 1 ∧
                p.disagreeCount = s.spd.disagreeCount) ∧
            (s.spd.speedDisagree = true → agree = true → 9 ≤ s.spd.agreeCount →
              p.speedDisagree = false ∧ p.disagreeCount = 0)) ∧
        p.lostCount = (if blind = true ∧ lost = false then s.spd.lostCount + 1 else 0) ∧
        (lost = false → t.pru.entry 2 = s.pru.entry 2 ∧
          (t.rsq.engine.atRest = false ∨ t.rsq.engine = s.rsq.engine → p.senseLost = s.spd.senseLost)) ∧
        (lost = true → p.senseLost = !t.rsq.engine.atRest ∧
          ((s.pru.entry 2).state = .idle →
            (t.pru.entry 2).state = .held ∧ (t.pru.entry 2).acknowledged = false ∧
              (t.pru.entry 2).tripCount = min 65535 ((s.pru.entry 2).tripCount + 1) ∧
              (s.cfg.checking = false → t.rsq.engine = if 0 < p.measured then .rundown else .lockedOut)))) ∧
      health s.spd.a s.spd.b t.spd.a ∧ health s.spd.b s.spd.a t.spd.b ∧
      (c.overspeedLimit ≤ (t.spd.overspeed : Int) → (s.pru.entry 1).state = .idle →
        (t.pru.entry 1).state = .held ∧ (t.pru.entry 1).acknowledged = false ∧
          (t.pru.entry 1).tripCount = min 65535 ((s.pru.entry 1).tripCount + 1))

/-- A window in which neither OVERSPEED nor SPEED SENSE LOST trips, by the engine state. In CRANKING at FIRE SPEED it
fires the attempt: the record is FIRED with its elapsed duration and RSQ is ACCELERATING with its two timers; from
CRANK FUEL SPEED on the crank fuel latch sets. In ACCELERATING at the idle speed less BAND it starts the engine, and
below FIRE SPEED less 50 rpm the stall timer runs. In CRANK REST and RUNDOWN it starts or cancels the zero hold. At
FIRE SPEED the run accumulator counts in every state. How the elapsed duration grows is the model's choice (log 3), and
so is that the timers a change of state does not start stop with it (log 11). -/
def Obligations.WindowsMoveTheRunSequencer : Prop :=
  ∀ s : State, Sound s → s.cfg.checking = false →
    let c := s.cfg.active
    let x := s.rsq
    ∃ t, exec .windowCompletes s = .next t ∧ Settled t ∧ OutputsLaw t ∧
      (t.pru.entry 1 = s.pru.entry 1 → t.pru.entry 2 = s.pru.entry 2 →
        let v : Int := t.spd.measured
        let counted (k : EngineCounters) : EngineCounters :=
          if v < c.fireSpeed then k
          else if 3600 ≤ k.runAcc + 1 then { k with runAcc := 0, runTime := min 4294967295 (k.runTime + 1) }
          else { k with runAcc := k.runAcc + 1 }
        let zeroHold (ms : Nat) (confirmed : Bool) : Timer :=
          if v = 0 then (if x.timers.zeroHold = none ∧ confirmed = false then some ms else x.timers.zeroHold)
          else none
        (∀ older r, x.history = older ++ [r] → HistoryLaw s → x.engine = .cranking →
          ∃ d, (d = r.duration ∨ d = r.duration + 1) ∧
            if c.fireSpeed ≤ v then
              t.rsq =
                { enterState .accelerating
                    { x.attemptEnded older r .fired d with
                      crankFuelLatch := true
                      history := older ++ [{ r with duration := d, outcome := .fired }]
                      counters := ({ x with counters := counted x.counters }.attemptEnded older r .fired d).counters } with
                  timers := { stoppedTimers with acceleration := some (tenthsMs c.accelLimit), lubeArming := some 10000 } }
            else
              t.rsq =
                { x with
                  crankFuelLatch := decide (c.crankFuelSpeed ≤ v) || x.crankFuelLatch
                  fuelEnable := decide (c.crankFuelSpeed ≤ v) || x.fuelEnable
                  history := older ++ [{ r with duration := d }] }) ∧
          (∀ older r, x.history = older ++ [r] → x.engine = .accelerating →
            if (c.speedAt 0 : Int) - c.band ≤ v then
              t.rsq =
                  enterState .running
                    { x with
                      startResult := .started, history := older ++ [{ r with outcome := .fired, isOpen := false }]
                      counters :=
                        counted
                          { x.counters with
                            successfulStarts := min 65535 (x.counters.successfulStarts + 1) } } ∧
                (s.ntu.applied = 0 → t.ntu.dwell = some ⟨.up, c.upDwell 0⟩)
            else
              t.rsq =
                { x with
                  counters := counted x.counters
                  timers :=
                    { x.timers with
                      stall :=
                        if v < c.fireSpeed - 50 then
                          (if x.timers.stall = none then some 1000 else x.timers.stall)
                        else none } }) ∧
          (x.engine = .crankRest →
            t.rsq =
              { x with
                counters := counted x.counters
                zeroConfirmed := x.zeroConfirmed && decide (v = 0)
                timers := { x.timers with zeroHold := zeroHold 1000 x.zeroConfirmed } }) ∧
          (x.engine = .rundown →
            t.rsq =
              { x with
                counters := counted x.counters, timers := { x.timers with zeroHold := zeroHold 2000 false } }) ∧
          (x.engine.atRest = true ∨ x.engine = .prelube ∨ x.engine = .priming ∨ x.engine = .running →
            t.rsq = { x with counters := counted x.counters }))

/-! ### The engine inputs -/

/-- The scan converts the channels in the order of R57, pass after pass; no other command but POWER_ON and RESET_LINE
moves it. That a conversion out of turn, which stands for no event, changes nothing is the model's reading (log 2). One
in its turn (R58 to R63, R66) moves the channel's record and no other input: an in-range value is scaled and clamped in
VALID, and in HELD and SUBSTITUTED counted, the third in a row returning the channel to VALID; an out-of-range one
takes VALID to HELD with the hold timer, or to SUBSTITUTED where no good value was ever seen. The hold timer takes HELD
to SUBSTITUTED. SENSOR RANGE is true while any channel is SUBSTITUTED. In CRANKING a BATTERY value keeps the open
record's minimum and runs the dropout timer (R12, R33); a LUBE PRESSURE value after the minimum prelube leads to
PRIMING (R8), a FUEL PRESSURE value in PRIMING to CRANKING (R9). That a channel whose force has been released gives the
substitute at the hold expiry, before its next conversion, is the model's choice (log 16). -/
def Obligations.ConversionsMoveTheChannel : Prop :=
  ∀ (c : Channel) (raw : BitVec 12) (s : State),
    let r := s.ins.channel c
    let lo := (channelRange c).1
    let hi := (channelRange c).2
    let scaled : Int :=
      max lo (min hi ((s.cfg.active.zeroSpan c).1 + (raw.toNat : Int) * (s.cfg.active.zeroSpan c).2 / 4095))
    let inRange : Bool := decide (40 ≤ raw.toNat) && decide (raw.toNat ≤ 4055)
    let judged : List Entry :=
      match c with
      | .lube => [4, 14]
      | .coolant => [6, 9, 10, 14]
      | .fuel => [8, 14]
      | .battery => [12, 14]
      | .intake => [11, 14]
      | .crankcase => [3, 14]
    let shown (t : State) : Prop :=
      Settled t ∧ Unchanged [.links, .cfg] s t ∧ t.aut.holder = s.aut.holder ∧
        ((t.pru.entry 14).condition = true ↔ ∃ k : Channel, (t.ins.channel k).state = .substituted)
    let following : Channel :=
      match c with
      | .lube => .coolant
      | .coolant => .fuel
      | .fuel => .battery
      | .battery => .intake
      | .intake => .crankcase
      | .crankcase => .lube
    (s.ins.scanNext = c → ∃ t, exec (.conversion c raw) s = .next t ∧ shown t ∧
      let x := t.ins.channel c
      t.ins = { s.ins.setChannel c x with scanNext := following } ∧ x.raw = raw.toNat ∧ x.forced = r.forced ∧ x.given = r.forced.getD x.eng ∧
      (r.state = .valid → inRange = true →
        x.state = .valid ∧ x.eng = scaled ∧ x.goodSeen = true ∧ x.goodCount = r.goodCount ∧
          x.holdTimer = r.holdTimer) ∧
      (r.state = .valid → inRange = false → r.goodSeen = true →
        x.state = .held ∧ x.eng = r.eng ∧ x.goodSeen = true ∧ x.goodCount = 0 ∧ x.holdTimer = some 5000) ∧
      (r.state = .valid → inRange = false → r.goodSeen = false →
        x.state = .substituted ∧ x.eng = substituteOf c ∧ x.goodSeen = false ∧ x.goodCount = 0 ∧
          x.holdTimer = r.holdTimer) ∧
      (r.state ≠ .valid → inRange = true → 2 ≤ r.goodCount →
        x.state = .valid ∧ x.eng = scaled ∧ x.goodSeen = true ∧ x.goodCount = 0 ∧ x.holdTimer = none) ∧
      (r.state ≠ .valid → inRange = true → r.goodCount < 2 →
        x.state = r.state ∧ x.eng = r.eng ∧ x.goodSeen = r.goodSeen ∧ x.goodCount = r.goodCount + 1 ∧
          x.holdTimer = r.holdTimer) ∧
      (r.state ≠ .valid → inRange = false →
        x.state = r.state ∧ x.eng = r.eng ∧ x.goodSeen = r.goodSeen ∧ x.goodCount = 0 ∧
          x.holdTimer = r.holdTimer) ∧
      (s.rsq.engine ≠ .prelube → s.rsq.engine ≠ .priming → s.rsq.engine ≠ .cranking → s.rsq.engine ≠ .unloading →
        s.iru.state ≠ .stopping → s.iru.state ≠ .watch →
        Unchanged [.rsq, .spd, .aut] s t ∧ ∀ e : Entry, e ∉ judged → t.pru.entry e = s.pru.entry e) ∧
      (s.cfg.checking = false → Sound s →
        (∀ older n, s.rsq.history = older ++ [n] → c = .battery → s.rsq.engine = .cranking → n.isOpen = true →
          n.outcome = .inProgress →
          t.rsq =
            { s.rsq with
              history := older ++ [{ n with batteryMin := n.batteryMin.map (min x.given) }]
              timers :=
                { s.rsq.timers with
                  batteryDropout :=
                    if x.given < s.cfg.active.crankDropout then
                      (if s.rsq.timers.batteryDropout = none then some 1000 else s.rsq.timers.batteryDropout)
                    else none } }) ∧
          (c = .lube → s.rsq.engine = .prelube → s.rsq.timers.prelubeMinimum = none →
            s.cfg.active.prelubePressure ≤ x.given → s.ins.fuel.given < s.cfg.active.primePressure →
            t.rsq =
              { enterState .priming s.rsq with
                timers := { stoppedTimers with prime := some (tenthsMs s.cfg.active.primeLimit) } }) ∧
          (c = .fuel → s.rsq.engine = .priming → s.cfg.active.primePressure ≤ x.given → Permitted s →
            CrankingEntered s.rsq s t))) ∧
      (r.state = .held → r.holdTimer.isSome = true →
        ∃ t, exec (.holdTimerExpiry c) s = .next t ∧ shown t ∧
          t.ins = s.ins.setChannel c
            { r with
              state := .substituted, eng := substituteOf c, holdTimer := none
              given := if r.forced.isSome = true then r.given else substituteOf c }) ∧
      (s.ins.scanNext ≠ c → exec (.conversion c raw) s = .next s) ∧
      ∀ (k : Instr) (t : State), exec k s = .next t → (∀ d v, k ≠ .conversion d v) → k ≠ .powerOn → k ≠ .resetLine →
        t.ins.scanNext = s.ins.scanNext

/-- Every conversion taken in its turn is judged against the protection conditions of its channel that hold in every
engine state, in RUNNING and UNLOADING against LOW FUEL PRESSURE and COLD ENGINE, and, while lube armed, against LOW
LUBE PRESSURE (R78, R80, R81): with a filter the set test starts it and a failed one cancels it; without one the
condition turns at once; the clear test ends a true condition. UNLOADING is spoken of at applied notch 2 or above,
since below it the unloading can end in the same event and withdraw the three conditions. A COOLANT TEMP conversion
computes the coolant percentage and an INTAKE AIR TEMP conversion the intake percentage, each kept through every other
conversion, and the derate percentage is the least of those whose entries are ACTIVE (R87). -/
def Obligations.ConversionsAreJudged : Prop :=
  ∀ (raw : BitVec 12) (s : State),
    let p := s.cfg.active
    let judged (e : Entry) (c : Channel) (sets clears : Int → Bool) (filter : Option Nat) : Prop :=
      s.ins.scanNext = c → ∃ t, exec (.conversion c raw) s = .next t ∧
        (let v := (t.ins.channel c).given
        let r := s.pru.entry e
        let r' := t.pru.entry e
        (r.condition = true → clears v = false → r' = r) ∧
          (r.condition = true → clears v = true → r'.condition = false ∧ r'.filter = r.filter ∧
            (r.state = .active → r'.state = if e.val ≤ 7 then .held else .idle)) ∧
          (r.condition = false → sets v = true →
            (∀ ms, filter = some ms → r' = { r with filter := if r.filter = none then some ms else r.filter }) ∧
              (filter = none → r'.condition = true ∧ (r.state = .idle → r.masked = false → r'.state = .active))) ∧
          (r.condition = false → sets v = false → filter.isSome = true → r' = { r with filter := none }) ∧
          (r.condition = false → sets v = false → filter = none → r' = r))
    judged 3 .crankcase (fun v => p.crankcaseLimit ≤ v) (fun v => v < p.crankcaseLimit)
        (some (tenthsMs p.crankcaseFilter)) ∧
      judged 6 .coolant (fun v => p.hotSet ≤ v) (fun v => v < p.hotClear) (some (tenthsMs p.hotFilter)) ∧
      judged 10 .coolant (fun v => p.coolantStart < v) (fun v => v ≤ p.coolantClear) none ∧
      judged 11 .intake (fun v => p.intakeStart < v) (fun v => v ≤ p.intakeClear) none ∧
      judged 12 .battery (fun v => v < p.batteryLowSet) (fun v => p.batteryLowClear ≤ v)
        (some (tenthsMs p.batteryLowFilter)) ∧
      (∀ c : Channel, s.ins.scanNext = c →
        let percent (start stop floorPct v : Int) : Int :=
          if v ≤ start then 100
          else if stop ≤ v then floorPct
          else 100 - (v - start) * (100 - floorPct) / (stop - start)
        ∃ t, exec (.conversion c raw) s = .next t ∧
          t.pru.coolantPct =
            (if c = .coolant then percent p.coolantStart p.coolantEnd p.coolantFloor t.ins.coolant.given
            else s.pru.coolantPct) ∧
          t.pru.intakePct =
            (if c = .intake then percent p.intakeStart p.intakeEnd p.intakeFloor t.ins.intake.given
            else s.pru.intakePct) ∧
          t.pru.deratePct =
            min (if (t.pru.entry 10).state = .active then t.pru.coolantPct else 100)
              (if (t.pru.entry 11).state = .active then t.pru.intakePct else 100)) ∧
      (s.rsq.engine = .running ∨ (s.rsq.engine = .unloading ∧ 2 ≤ s.ntu.applied) →
        judged 8 .fuel (fun v => v < p.lowFuelSet) (fun v => p.lowFuelClear ≤ v) (some (tenthsMs p.lowFuelFilter)) ∧
          judged 9 .coolant (fun v => v < p.coldSet) (fun v => p.coldClear ≤ v) none) ∧
      (s.rsq.engine = .accelerating ∨ s.rsq.engine = .running ∨
          (s.rsq.engine = .unloading ∧ 2 ≤ s.ntu.applied) →
        s.rsq.lubeArmed = true →
        judged 4 .lube (fun v => v < lubeThreshold p s.spd.measured)
          (fun v => lubeThreshold p s.spd.measured ≤ v) (some (tenthsMs p.lubeFilter)))

/-- A discrete input: a level change starts its debounce timer or cancels it; the debounced change takes the level, and where
no force stands its consumer acts: EMERGENCY STOP is the condition of entry 0, GROUND RELAY starts and cancels the filter of
entry 7 and clears its condition, a rise of STARTER ENGAGED in CRANKING stops the engage timer. -/
def Obligations.DiscreteInputsAreDebounced : Prop :=
  (∀ (d : Discrete) (level : Bool) (s : State),
    let r := s.ins.discrete d
    exec (.discreteInputLevelChange d level) s = .next
      { s with
        ins := s.ins.setDiscrete d
          (if r.level = level then r
          else
            { r with
              level := level
              timer :=
                if level = r.debounced then none
                else some (if d = .emergencyStop ∨ d = .starterEngaged then 20 else 100) }) }) ∧
    ∀ (d : Discrete) (s : State), (s.ins.discrete d).timer.isSome = true →
      let r := s.ins.discrete d
      let seen : Bool := r.forced.isNone && (r.level != r.debounced)
      let ground := s.pru.entry 7
      ∃ t, exec (.debouncedChange d) s = .next t ∧ Settled t ∧ Unchanged [.links, .cfg] s t ∧
        t.ins = s.ins.setDiscrete d { r with debounced := r.level, timer := none } ∧
        (seen = false ∨ d = .turningGear → s.rsq.engine ≠ .unloading → Unchanged [.rsq, .spd, .pru, .aut] s t) ∧
        (d = .emergencyStop → seen = true → (t.pru.entry 0).condition = r.level ∧
          ((s.pru.entry 0).Lawful true → (s.pru.entry 0).masked = false →
            (r.level = true → (t.pru.entry 0).state = .active) ∧
              (r.level = false → (s.pru.entry 0).state = .active → (t.pru.entry 0).state = .held))) ∧
        (d = .groundRelay → seen = true →
          (r.level = true → ground.condition = false →
              t.pru.entry 7 =
                { ground with
                  filter := if ground.filter = none then some (tenthsMs s.cfg.active.groundFilter) else ground.filter }) ∧
            (r.level = false → ground.condition = false → t.pru.entry 7 = { ground with filter := none }) ∧
            (r.level = false → ground.condition = true → (t.pru.entry 7).condition = false ∧
              (ground.state = .active → (t.pru.entry 7).state = .held))) ∧
        (d = .starterEngaged → seen = true → s.rsq.engine ≠ .unloading →
          Unchanged [.spd, .pru, .aut] s t ∧
            t.rsq =
              if r.level = true ∧ s.rsq.engine = .cranking then
                { s.rsq with timers := { s.rsq.timers with engage := none } }
              else s.rsq)

/-! ### Protection -/

/-- The expiry of an entry's filter makes its condition true (R78): from IDLE it enters service unacknowledged with one
trip more, or is PENDING while masked; from HELD it is ACTIVE again; the filter is stopped. A SHUTDOWN entry that
enters service takes the engine to LOCKED OUT or RUNDOWN as R25 says, state by state; no other class moves RSQ. In
CRANKING the open record closes as PROTECTION with its elapsed duration (log 3); the timers stop (log 11). -/
def Obligations.AFilterExpiryMakesTheConditionTrue : Prop :=
  ∀ (e : Entry) (s : State), (s.pru.entry e).filter.isSome = true → (s.pru.entry e).condition = false →
    let r := s.pru.entry e
    let after : EntryRec :=
      { r with
        condition := true, filter := none
        state :=
          match r.state with
          | .idle => if r.masked = true then .pending else .active
          | .held => .active
          | other => other
        tripCount := if r.state = .idle ∧ r.masked = false then min 65535 (r.tripCount + 1) else r.tripCount
        acknowledged := if r.state = .idle ∧ r.masked = false then false else r.acknowledged }
    ∃ t, exec (.filterTimerExpiry e) s = .next t ∧ Settled t ∧ Unchanged [.ins, .links, .cfg] s t ∧
      (classOf e ≠ .shutdown → s.rsq.engine ≠ .unloading →
        Unchanged [.rsq, .spd, .aut] s t ∧
          t.pru =
            { s.pru.setEntry e after with bell := (s.pru.setEntry e after).bellWanted }) ∧
      (classOf e = .shutdown → r.state = .idle → r.masked = false → s.cfg.checking = false → s.rsq.stopCause ≠ .autoStop →
        (t.pru.entry e).inService = true ∧
          t.rsq.engine =
            if s.rsq.engine.atRest = true ∨ (s.rsq.engine ≠ .rundown ∧ s.spd.measured = 0) then .lockedOut
            else .rundown) ∧
      (classOf e = .shutdown → r.state = .idle → r.masked = false → s.cfg.checking = false →
        let x := s.rsq
        let cause : StopCause := if x.stopCause = .startFailure then .startFailure else .protection
        let stopped (y : Rsq) : Rsq :=
          { enterState (if 0 < s.spd.measured then .rundown else .lockedOut)
              { y with
                stopCause := cause
                startResult :=
                  if x.engine.starting = true ∧ x.startResult = .inProgress then .stoppedByProtection
                  else x.startResult } with
            timers := stoppedTimers
            restartPending := x.restartPending && decide (0 < s.spd.measured) }
        (∀ older n, x.history = older ++ [n] → x.engine = .cranking → n.isOpen = true → n.outcome = .inProgress →
            t.rsq = stopped (x.attemptEnded older n .protection n.duration)) ∧
          (∀ older n, x.history = older ++ [n] → x.engine = .accelerating →
            t.rsq = stopped { x with history := older ++ [{ n with outcome := .protection, isOpen := false }] }) ∧
          (x.engine = .prelube ∨ x.engine = .priming ∨ x.engine = .crankRest ∨ x.engine = .running ∨
              x.engine = .unloading →
            t.rsq = stopped x) ∧
          (x.engine.atRest = false → x.engine ≠ .rundown →
            t.rsq.prelubePump = false ∧ t.rsq.fuelPump = false ∧ t.rsq.starter = false ∧ t.rsq.fuelEnable = false) ∧
          (x.engine.runningFamily = true →
            t.ntu.applied = 0 ∧ t.ntu.loadRef = 0 ∧ t.ntu.loadTarget = 0 ∧ t.ntu.excitationRef = 0 ∧
              t.ntu.loadPermit = false) ∧
          (x.engine = .stopped ∨ x.engine = .autoStopped →
            t.rsq = enterState .lockedOut x ∧ (s.iru.state = .watch → t.iru.state = .off)) ∧
          (x.engine = .rundown → t.rsq = { x with stopCause := cause, restartPending := false }) ∧
          (x.engine = .lockedOut → t.rsq = x))

/-- RESET PROTECTION by the tests of R91 in their order, and RESET ALL: the entries that leave service are IDLE and
acknowledged, the bell follows, and the last SHUTDOWN entry out of service takes a LOCKED OUT engine to STOPPED with stop
cause NONE. -/
def Obligations.ResetsReturnHeldEntries : Prop :=
  ∀ (l : Link) (seq : Byte) (payload : List Byte) (s : State),
    let mayReset : Bool := s.aut.holds l || decide (l = .service)
    let byLimit (e : Entry) : Bool :=
      decide (l ≠ .service) &&
        ((decide (e = 1) && decide (s.cfg.active.overspeedTripLimit ≤ (s.pru.entry e).tripCount)) ||
          (decide (e = 7) && decide (s.cfg.active.groundTripLimit ≤ (s.pru.entry e).tripCount)))
    let refused (f : Frame) (r : Result) (bytes : List Byte) (t : State) : Prop :=
      Unchanged [.rsq, .spd, .ins, .pru, .aut, .ntu, .iru, .cfg] s t ∧ Replied l f r bytes s t
    let reset (gone : Entry → Bool) (t : State) : Prop :=
      Settled t ∧ Unchanged [.ins, .aut, .cfg] s t ∧
        (s.rsq.engine ≠ .unloading →
          (∀ e : Entry, t.pru.entry e =
            if gone e = true then { s.pru.entry e with state := .idle, acknowledged := true } else s.pru.entry e) ∧
          (t.pru.coolantPct = s.pru.coolantPct ∧ t.pru.intakePct = s.pru.intakePct ∧ BellLaw t) ∧
          (if s.rsq.engine = .lockedOut ∧ s.pru.shutdownInService = true ∧ t.pru.shutdownInService = false ∧
                s.cfg.checking = false then
              t.rsq = { enterState .stopped s.rsq with stopCause := .none }
            else Unchanged [.rsq, .spd] s t))
    (Ready l ⟨kindResetProtection, seq, payload⟩ s → Sound s →
      let f : Frame := ⟨kindResetProtection, seq, payload⟩
      ∃ t, exec (.resetProtection l seq payload) s = .next t ∧
        ((∀ e : Entry, payload ≠ [byte e.val]) → refused f .badField [] t) ∧
        (∀ e : Entry, payload = [byte e.val] →
          if mayReset = false then refused f .notHolder [] t
          else if (s.pru.entry e).state ≠ .held then refused f .refusedState [] t
          else if byLimit e = true then refused f .locked [] t
          else Replied l f .done [] s t ∧ reset (fun k => decide (k = e)) t)) ∧
      (Ready l ⟨kindResetAll, seq, payload⟩ s → Sound s →
        let f : Frame := ⟨kindResetAll, seq, payload⟩
        let held := allEntries.filter fun e => decide ((s.pru.entry e).state = .held)
        let gone := held.filter fun e => !byLimit e
        let counts := [byte gone.length, byte (held.filter byLimit).length]
        ∃ t, exec (.resetAll l seq payload) s = .next t ∧
          (mayReset = true → gone = [] → refused f .refusedState counts t) ∧
          (mayReset = true → gone ≠ [] →
            Replied l f .done counts s t ∧ reset (fun k => decide (k ∈ gone)) t) ∧
          (mayReset = false → Unchanged [.rsq, .spd, .ins, .pru, .aut, .ntu, .iru, .cfg] s t ∧
            ∃ bytes, Replied l f .notHolder bytes s t))

/-- ACKNOWLEDGE, from any ACTIVE source and in any stage of a handover: every entry in service is acknowledged in one event,
the bell is silent, and nothing else changes; the reply is DONE, entries in service or not. -/
def Obligations.AcknowledgeSilencesTheBell : Prop :=
  ∀ (l : Link) (seq : Byte) (payload : List Byte) (s : State), Heard l ⟨kindAcknowledge, seq, payload⟩ s →
    ∃ t, exec (.acknowledge l seq payload) s = .next t ∧
      Unchanged [.rsq, .spd, .ins, .aut, .ntu, .iru, .cfg] s t ∧
      Replied l ⟨kindAcknowledge, seq, payload⟩ .done [] s t ∧
      (∀ e : Entry, t.pru.entry e =
        { s.pru.entry e with
          acknowledged := (s.pru.entry e).inService || (s.pru.entry e).acknowledged }) ∧
      t.pru.bell = false ∧ t.pru.coolantPct = s.pru.coolantPct ∧ t.pru.intakePct = s.pru.intakePct

/-- CLEAR TRIP COUNT: NOT PERMITTED on the Stand and Remote links; from the Service link, holder or not, BAD FIELD for a
payload that is not the number of an entry, else the entry's trip count is 0, its state, acknowledged flag and mask stay,
and a HELD entry can then be reset by the holder. -/
def Obligations.ClearTripCountLiftsTheLimit : Prop :=
  ∀ (l : Link) (seq : Byte) (payload : List Byte) (s : State), Ready l ⟨kindClearTripCount, seq, payload⟩ s →
    let f : Frame := ⟨kindClearTripCount, seq, payload⟩
    ∃ t, exec (.clearTripCount l seq payload) s = .next t ∧
      Unchanged [.rsq, .spd, .ins, .aut, .ntu, .iru, .cfg] s t ∧
      (l ≠ .service → Replied l f .notPermitted [] s t ∧ t.pru = s.pru) ∧
      (l = .service →
        ((∀ e : Entry, payload ≠ [byte e.val]) → Replied l f .badField [] s t ∧ t.pru = s.pru) ∧
          ∀ e : Entry, payload = [byte e.val] →
            Replied l f .done [] s t ∧ t.pru = s.pru.setEntry e { s.pru.entry e with tripCount := 0 } ∧
              ((s.pru.entry e).state = .held → s.cfg.active.InRange →
                ∀ (k : Link) (q : Byte) (u : State), Ready k ⟨kindResetProtection, q, payload⟩ u →
                  u.aut.holds k = true → u.pru = t.pru → u.cfg = t.cfg →
                  ∃ v, exec (.resetProtection k q payload) u = .next v ∧
                    Replied k ⟨kindResetProtection, q, payload⟩ .done [] u v))

/-- MASK and UNMASK, by the tests of R95 in their order: BAD FIELD, NOT HOLDER, NOT PERMITTED for entries 0 to 5, else DONE.
A mask set changes nothing else; at a mask cleared a PENDING entry enters service. -/
def Obligations.MasksHoldEntriesBack : Prop :=
  ∀ (seq : Byte) (payload : List Byte) (s : State),
    let refusal (e : Entry) : Option Result :=
      if s.aut.holds .service = false then some .notHolder else if e.val ≤ 5 then some .notPermitted else none
    let unchanged (t : State) : Prop := Unchanged [.rsq, .spd, .ins, .pru, .aut, .ntu, .iru, .cfg] s t
    (Ready .service ⟨kindMask, seq, payload⟩ s →
      let f : Frame := ⟨kindMask, seq, payload⟩
      ∃ t, exec (.mask .service seq payload) s = .next t ∧
        ((∀ e : Entry, payload ≠ [byte e.val]) → unchanged t ∧ Replied .service f .badField [] s t) ∧
        ∀ e : Entry, payload = [byte e.val] →
          (∀ r, refusal e = some r → unchanged t ∧ Replied .service f r [] s t) ∧
            (refusal e = none →
              Unchanged [.rsq, .spd, .ins, .aut, .ntu, .iru, .cfg] s t ∧ Replied .service f .done [] s t ∧
                t.pru = s.pru.setEntry e { s.pru.entry e with masked := true })) ∧
      (Ready .service ⟨kindUnmask, seq, payload⟩ s →
        let f : Frame := ⟨kindUnmask, seq, payload⟩
        ∃ t, exec (.unmask .service seq payload) s = .next t ∧
          ((∀ e : Entry, payload ≠ [byte e.val]) → unchanged t ∧ Replied .service f .badField [] s t) ∧
          ∀ e : Entry, payload = [byte e.val] →
            (∀ r, refusal e = some r → unchanged t ∧ Replied .service f r [] s t) ∧
              (refusal e = none →
                Replied .service f .done [] s t ∧ Settled t ∧ Unchanged [.ins, .cfg] s t ∧
                  (s.rsq.engine ≠ .unloading →
                    let r := s.pru.entry e
                    Unchanged [.rsq, .spd, .aut] s t ∧ BellLaw t ∧ t.pru.coolantPct = s.pru.coolantPct ∧
                      t.pru.intakePct = s.pru.intakePct ∧
                      (∀ k : Entry, k ≠ e → t.pru.entry k = s.pru.entry k) ∧
                      t.pru.entry e =
                        if r.state = .pending then
                          { r with
                            masked := false, state := .active, acknowledged := false
                            tripCount := min 65535 (r.tripCount + 1) }
                        else { r with masked := false })))

/-! ### Notch and load -/

/-- The end of a dwell and a ramp interval, in a state whose E, LOAD PERMIT and idle conditions are up to date. Both
test the step channel once: up by one to E with its dwell, where the speed of the applied notch is confirmed; down by
one with DOWN DWELL, where the load reference is at the load of the notch below (R142 to R145). The interval first
computes the target (R151) and moves the load reference toward it by at most RAMP UP or RAMP DOWN (R152), with
EXCITATION REF (R154). In UNLOADING the same two events step down without a dwell gate once the load reference has come
down to the load of the notch below, and the step to 0 ends the unloading (R144, R148). An IDLE-DOWN entry that enters
service takes the applied notch and the load to 0 at once (R146). A holder's DEMAND in RUNNING leaves NTU in LOW IDLE
exactly with the low-idle request set, the applied notch 0 and E 0; the leaving tests the step channel (R149). -/
def Obligations.DwellsAndRampsMoveTheNotch : Prop :=
  (∀ (s : State) (c : Instr) (q : Nat), s.rsq.engine = .running → Settled s → LoadLaw s → s.ntu.lowIdle = false →
    s.iru.lowIdleRequest = false →
    (c = .dwellTimerExpiry ∧ s.ntu.dwell.isSome = true) ∨ c = .rampInterval →
    let p := s.cfg.active
    let n := s.ntu
    let fast (k : Nat) : Bool := decide ((p.speedAt k : Int) - p.band ≤ (s.spd.measured : Int))
    q ≤ n.applied → (q ≠ 0 → fast q = true) → (∀ k, q < k → k ≤ n.applied → fast k = false) →
    let target : Nat := ((p.loadAt (min (min n.applied n.e) q) : Int) * s.pru.deratePct / 100).toNat
    let moved : Nat :=
      if n.loadRef < target then min target (n.loadRef + p.rampUp)
      else if target < n.loadRef then max target (n.loadRef - p.rampDown)
      else n.loadRef
    let ref : Nat := if c = .dwellTimerExpiry then n.loadRef else if n.loadPermit = true then moved else 0
    let dwell : Option Dwell := if c = .dwellTimerExpiry then none else n.dwell
    ∃ t, exec c s = .next t ∧ Settled t ∧ Unchanged [.rsq, .spd, .ins, .pru, .aut, .links, .cfg] s t ∧
      (n.applied < n.e → dwell = none → fast n.applied = true →
        t.ntu.applied = n.applied + 1 ∧
          t.ntu.dwell = if 8 ≤ n.applied + 1 then none else some ⟨.up, p.upDwell (n.applied + 1)⟩) ∧
      (n.e < n.applied → (∀ d, dwell = some d → d.kind = .up) → ref ≤ p.loadAt (n.applied - 1) →
        t.ntu.applied = n.applied - 1 ∧ t.ntu.dwell = some ⟨.down, p.downDwell⟩) ∧
      ((n.e = n.applied ∨ (n.applied < n.e ∧ (dwell ≠ none ∨ fast n.applied = false)) ∨
          (n.e < n.applied ∧ (dwell.map (·.kind) = some .down ∨ p.loadAt (n.applied - 1) < ref))) →
        t.ntu.applied = n.applied ∧ t.ntu.dwell = dwell ∧ t.ntu.loadRef = ref ∧
          (c = .rampInterval →
            t.ntu.loadTarget = (if n.loadPermit = true then target else 0) ∧
              t.ntu.excitationRef = min 1000 (ref * 1000 / p.loadMax)))) ∧
    (∀ (s : State) (c : Instr), s.rsq.engine = .unloading → Settled s → LoadLaw s → s.ntu.unloadReported = false →
      1 ≤ s.ntu.applied → (c = .dwellTimerExpiry ∧ s.ntu.dwell.isSome = true) ∨ c = .rampInterval →
      let p := s.cfg.active
      let n := s.ntu
      let ref : Nat := if c = .dwellTimerExpiry then n.loadRef else n.loadRef - p.rampDown
      ∃ t, exec c s = .next t ∧ Settled t ∧
        (ref ≤ p.loadAt (n.applied - 1) → 2 ≤ n.applied →
          Unchanged [.rsq, .spd, .ins, .pru, .aut, .links, .cfg] s t ∧ t.ntu.applied = n.applied - 1 ∧
            t.ntu.dwell = some ⟨.down, p.downDwell⟩ ∧ t.ntu.loadRef = ref) ∧
        (ref ≤ p.loadAt (n.applied - 1) → n.applied = 1 →
          t.rsq.engine = .rundown ∧ t.ntu.applied = 0 ∧ t.ntu.loadRef = 0 ∧ t.ntu.loadPermit = false) ∧
        (p.loadAt (n.applied - 1) < ref →
          Unchanged [.rsq, .spd, .ins, .pru, .aut, .links, .cfg] s t ∧ t.ntu.applied = n.applied ∧
            t.ntu.loadRef = ref ∧ t.ntu.dwell = if c = .dwellTimerExpiry then none else n.dwell)) ∧
    (∀ (s : State) (e : Entry), classOf e = .idleDown → (s.pru.entry e).filter.isSome = true →
      (s.pru.entry e).condition = false → (s.pru.entry e).state = .idle → (s.pru.entry e).masked = false →
      s.pru.idleDown = false → s.rsq.engine.runningFamily = true →
      ∃ t, exec (.filterTimerExpiry e) s = .next t ∧ Settled t ∧ t.pru.idleDown = true ∧
        (t.ntu.applied = 0 ∧ t.ntu.dwell = none ∧ t.ntu.loadPermit = false ∧ t.ntu.loadRef = 0 ∧
          t.ntu.loadTarget = 0 ∧ t.ntu.excitationRef = 0 ∧ t.ntu.e = 0) ∧
        (s.rsq.engine = .running → t.rsq = s.rsq) ∧
        (s.rsq.engine = .unloading → s.ntu.unloadReported = false → t.rsq.engine = .rundown)) ∧
    ∀ (l : Link) (seq notch : Byte) (s : State), Ready l ⟨kindDemand, seq, [notch, 0]⟩ s → s.aut.holds l = true →
      notch.toNat ≤ 8 → s.rsq.engine = .running → s.iru.state ≠ .stopping → s.iru.state ≠ .watch →
      (s.ntu.lowIdle = true → s.ntu.applied = 0) →
      let p := s.cfg.active
      let d := min notch.toNat (s.aut.source l).maxNotch
      ∃ t, exec (.demand l seq [notch, 0]) s = .next t ∧ Settled t ∧ Unchanged [.rsq, .spd, .ins, .pru, .cfg] s t ∧
        (t.ntu.lowIdle = true ↔ t.iru.lowIdleRequest = true ∧ t.ntu.applied = 0 ∧ t.ntu.e = 0) ∧
        t.ntu.setpoint = (if t.ntu.lowIdle = true then p.lowIdleSpeed else p.speedAt t.ntu.applied) ∧
        (d = 0 → s.ntu.applied = 0 → t.iru.lowIdleRequest = true →
          t.ntu.lowIdle = true ∧ t.ntu.dwell = s.ntu.dwell) ∧
        (1 ≤ d → s.ntu.lowIdle = true → s.pru.idleDown = false → s.aut.handover = none →
          t.ntu.lowIdle = false ∧ (s.iru.state = .lowIdleDwell → t.iru.state = .off ∧ t.iru.lowIdleRequest = false) ∧
            t.ntu.applied =
              if s.ntu.dwell = none ∧ (p.speedAt 0 : Int) - p.band ≤ (s.spd.measured : Int) then 1 else 0)

/-! ### Idle reduction -/

/-- The timers of IRU, in a settled state at idle. The idle dwell leads to LOW IDLE DWELL with the low-idle request and
its timer, and NTU is in LOW IDLE; with a LOW IDLE DWELL TIME of 0 it leads on at once. The low-idle dwell leads to
STOPPING, and RSQ is UNLOADING an auto stop, or already in RUNDOWN where nothing was left to unload. In WATCH either
timer hands RSQ an auto restart once: with the permissives holding RSQ is in PRELUBE for an AUTO start; where one fails
the engine is STOPPED, the first that fails its reason, and AUTO RESTART REFUSED sets. At the end of a window, a ramp
interval or a conversion in its turn the idle reduction conditions of R158 are judged: OFF leads to IDLE DWELL where
they hold, either dwell to OFF where they do not (R160). A holder's DEMAND without a run request that asks for the
engine cancels an auto stop that is unloading (R161), makes a restart pending in its rundown (R162) and restarts in
WATCH (R163); so does a COOLANT TEMP below RESTART COOLANT in the last two, and in WATCH a BATTERY below RESTART
BATTERY starts the battery-low timer. The rundown of an auto stop ends in WATCH. -/
def Obligations.IdleReductionTimersMoveTheEngine : Prop :=
  ∀ (s : State) (c : Instr), Sound s →
    let restarted (u t : State) (a : Aut) : Prop :=
      (Permitted u →
          PrelubeEntered .auto s.rsq u t ∧ t.spd = s.spd ∧ t.iru.restartRefused = false ∧ t.iru.state = .off ∧
            t.aut = if a.claimedBy .service = true then a.ended .service .refused else a) ∧
        (failingPermissive u = none ↔ Permitted u) ∧
        ∀ why, failingPermissive u = some why →
          t.rsq = { enterState .stopped s.rsq with startResult := .refused, startReason := some why } ∧
            t.spd = { s.spd with senseLost := false } ∧ t.aut = a ∧ t.iru.restartRefused = true ∧
            t.iru.state = .off
    (c = .idleDwellExpiry → s.iru.state = .idleDwell → s.iru.idleDwell.isSome = true → Settled s → LoadLaw s →
      s.ntu.lowIdle = false → s.ntu.unloadReported = false →
      ∃ t, exec c s = .next t ∧ Settled t ∧ Unchanged [.spd, .ins, .links, .cfg] s t ∧
        (0 < s.cfg.active.lowIdleDwellTime →
          Unchanged [.rsq, .pru, .aut] s t ∧ t.iru.state = .lowIdleDwell ∧ t.iru.lowIdleRequest = true ∧
            t.iru.idleDwell = none ∧ t.iru.lowIdleDwell = some (minutesMs s.cfg.active.lowIdleDwellTime) ∧
            t.ntu.lowIdle = true ∧ t.ntu.setpoint = s.cfg.active.lowIdleSpeed) ∧
        (s.cfg.active.lowIdleDwellTime = 0 →
          t.rsq.engine = .rundown ∧ t.rsq.stopCause = .autoStop ∧ t.iru.state = .stopping ∧
            t.rsq.counters.autoStops = min 65535 (s.rsq.counters.autoStops + 1))) ∧
      (c = .lowIdleDwellExpiry → s.iru.state = .lowIdleDwell → s.iru.lowIdleDwell.isSome = true → Settled s →
        LoadLaw s → s.ntu.unloadReported = false →
        ∃ t, exec c s = .next t ∧ Settled t ∧ Unchanged [.spd, .ins, .links, .cfg] s t ∧
          t.rsq.engine = .rundown ∧ t.rsq.stopCause = .autoStop ∧ t.iru.state = .stopping ∧
          t.iru.demandSeen = false ∧ t.rsq.counters.autoStops = min 65535 (s.rsq.counters.autoStops + 1) ∧
          t.iru.fuelOff = if s.rsq.minute = 65535 then none else some s.rsq.minute) ∧
      ((c = .autoStopTimerExpiry ∧ s.iru.autoStop.isSome = true) ∨
          (c = .batteryLowRestartExpiry ∧ s.iru.batteryLow.isSome = true) →
        s.iru.state = .watch → s.rsq.engine = .autoStopped →
        ∃ t, exec c s = .next t ∧ Settled t ∧ Unchanged [.ins, .pru, .links, .cfg] s t ∧
          (s.iru.restartSent = true → Unchanged [.rsq, .spd, .aut] s t ∧ t.iru.state = .watch ∧
            (c = .autoStopTimerExpiry → t.iru.autoStop = none) ∧
            (c = .batteryLowRestartExpiry → t.iru.batteryLow = none)) ∧
          (s.iru.restartSent = false → restarted s t s.aut)) ∧
      (∀ (k : Channel) (raw : BitVec 12),
        c = .windowCompletes ∨ c = .rampInterval ∨ (c = .conversion k raw ∧ s.ins.scanNext = k) →
        let idle (t : State) : Prop :=
          t.rsq.engine = .running ∧ t.ntu.applied = 0 ∧ t.ntu.e = 0 ∧ t.ntu.loadPermit = false ∧
            t.cfg.active.airEnable = true ∧ autoStopPermitted t = true ∧
            t.cfg.active.airCoolantMin ≤ t.ins.coolant.given ∧ t.cfg.active.airBatteryMin ≤ t.ins.battery.given ∧
            (∀ e : Entry, (t.pru.entry e).inService = true → classOf e = .alarm) ∧ t.aut.handover = none ∧
            forcesActive t = false
        ∃ t, exec c s = .next t ∧ Settled t ∧
          (s.iru.state = .off → idle t →
            t.iru.state = .idleDwell ∧ t.iru.idleDwell = some (minutesMs s.cfg.active.idleDwellTime)) ∧
          (s.iru.state = .off ∨ s.iru.state = .idleDwell ∨ s.iru.state = .lowIdleDwell → ¬idle t →
            t.iru.state = .off) ∧
          (s.iru.state = .idleDwell ∨ s.iru.state = .lowIdleDwell → ¬idle t →
            t.iru.idleDwell = none ∧ t.iru.lowIdleDwell = none ∧ t.iru.lowIdleRequest = false ∧
              t.ntu.lowIdle = false)) ∧
      (∀ (l : Link) (seq notch : Byte), c = .demand l seq [notch, 0] → Ready l ⟨kindDemand, seq, [notch, 0]⟩ s →
        s.aut.holds l = true → notch.toNat ≤ 8 →
        let x := s.aut.source l
        let d := min notch.toNat x.maxNotch
        let recorded := s.aut.setSource l
          { x with demand := d, run := .none, limited := decide (x.maxNotch < notch.toNat), fresh := true }
        ∃ t, exec c s = .next t ∧ Settled t ∧ Unchanged [.ins, .cfg] s t ∧
          Replied l ⟨kindDemand, seq, [notch, 0]⟩ (if x.maxNotch < notch.toNat then .doneLimited else .done)
            [byte d, 0] s t ∧
          (1 ≤ d → s.iru.state = .stopping → s.rsq.engine = .unloading → s.rsq.stopCause = .autoStop →
            t.rsq = { enterState .running s.rsq with stopCause := .none } ∧ t.aut = recorded ∧
              t.iru.state = .off ∧ t.iru.lowIdleRequest = false ∧ t.iru.demandSeen = false) ∧
          (1 ≤ d → s.iru.state = .stopping → s.rsq.engine = .rundown → s.rsq.stopCause = .autoStop →
            t.rsq = { s.rsq with restartPending := true } ∧ t.aut = recorded ∧ t.iru.state = .restartPending ∧
              t.iru.lowIdleRequest = false) ∧
          (1 ≤ d → s.iru.state = .watch → s.rsq.engine = .autoStopped → s.iru.restartSent = false →
            restarted s t recorded) ∧
          (d = 0 ∨ (s.iru.state = .watch ∧ s.iru.restartSent = true) →
            (s.iru.state = .stopping ∧ s.rsq.engine = .rundown) ∨
                (s.iru.state = .watch ∧ s.rsq.engine = .autoStopped) →
            t.rsq = s.rsq ∧ t.iru = s.iru ∧ t.aut = recorded)) ∧
      (∀ (k : Channel) (raw : BitVec 12), c = .conversion k raw → s.ins.scanNext = k →
        ∃ t, exec c s = .next t ∧ Settled t ∧
          (let v := (t.ins.channel k).given
          let p := s.cfg.active
          (k = .coolant → v < p.restartCoolant → s.iru.state = .stopping → s.rsq.engine = .rundown →
              s.rsq.stopCause = .autoStop →
              t.rsq = { s.rsq with restartPending := true } ∧ t.iru.state = .restartPending ∧
                t.iru.lowIdleRequest = false) ∧
            (k = .coolant → v < p.restartCoolant → s.iru.state = .watch → s.rsq.engine = .autoStopped →
              s.iru.restartSent = false → restarted { s with ins := t.ins } t s.aut) ∧
            (k = .battery → s.iru.state = .watch → s.rsq.engine = .autoStopped →
              t.rsq = s.rsq ∧
                t.iru =
                  { s.iru with
                    batteryLow :=
                      if v < p.restartBattery then
                        (if s.iru.batteryLow = none then some (tenthsMs p.restartBatteryFilter)
                        else s.iru.batteryLow)
                      else none }) ∧
            (k = .coolant → p.restartCoolant ≤ v →
              (s.iru.state = .stopping ∧ s.rsq.engine = .rundown) ∨
                  (s.iru.state = .watch ∧ s.rsq.engine = .autoStopped) →
              t.rsq = s.rsq ∧ t.iru = s.iru))) ∧
      (c = .unloadTimerExpiry → s.rsq.timers.unload.isSome = true → s.iru.state = .stopping →
        s.rsq.engine = .unloading → s.rsq.stopCause = .autoStop →
        ∃ t, exec c s = .next t ∧ Settled t ∧
          t.iru.state = (if s.iru.demandSeen = true then .restartPending else .stopping) ∧
          t.rsq.restartPending = (s.iru.demandSeen || s.rsq.restartPending)) ∧
      (c = .zeroHoldExpiryRundown → s.rsq.timers.zeroHold.isSome = true → s.iru.state = .stopping →
        s.rsq.engine = .rundown → s.rsq.stopCause = .autoStop → s.rsq.restartPending = false →
        s.pru.shutdownInService = false →
        ∃ t, exec c s = .next t ∧ Settled t ∧ t.rsq.engine = .autoStopped ∧ t.iru.state = .watch ∧
          t.iru.restartSent = false ∧ t.iru.autoStop = some (minutesMs s.cfg.active.autoStopMax) ∧
          t.iru.batteryLow = none ∧ t.iru.lowIdleRequest = false)

/-! ### The configuration store and the service functions -/

/-- WRITE ENTRY, from the Service link alone, by the tests of R181 in their order; then the value stands in the pending table
and nothing else changes. The pending table changes by WRITE ENTRY, by LOCK and FIX, and at the end of a self-check, and by
no other command; a reset begins a self-check, at whose end it equals the active table. -/
def Obligations.WriteEntryChangesThePendingTable : Prop :=
  (∀ (l : Link) (seq : Byte) (payload : List Byte) (s : State), Ready l ⟨kindWriteEntry, seq, payload⟩ s →
    let f : Frame := ⟨kindWriteEntry, seq, payload⟩
    let others : List Block := [.rsq, .spd, .ins, .pru, .aut, .ntu, .iru]
    let refused (r : Result) (t : State) : Prop := Unchanged (.cfg :: others) s t ∧ Replied l f r [] s t
    ∃ t, exec (.writeEntry l seq payload) s = .next t ∧
      (l ≠ .service → refused .notPermitted t) ∧
      (l = .service → s.aut.holder ≠ some .service → refused .notHolder t) ∧
      (l = .service → s.aut.holder = some .service → s.cfg.writing = true → refused .busy t) ∧
      (l = .service → s.aut.holder = some .service → s.cfg.writing = false →
        ((∀ (g : Fin 5) (n hi lo : Byte), payload = [byte g.val, n, hi, lo] → fieldSpec g.val n.toNat = none) →
            refused .badField t) ∧
          ∀ (g : Fin 5) (n hi lo : Byte), payload = [byte g.val, n, hi, lo] →
            ∀ spec, fieldSpec g.val n.toNat = some spec →
            let v : Int := (hi ++ lo : BitVec 16).toInt
            if s.cfg.groups[g] ≠ .opened then refused .locked t
            else if v < spec.lo ∨ spec.hi < v then refused .badField t
            else
              Unchanged others s t ∧ Replied l f .done [] s t ∧
                t.cfg = { s.cfg with edited := t.cfg.edited } ∧
                ∀ (k : Fin 5) (m : Nat),
                  t.cfg.edited.field k.val m =
                    if k = g ∧ m = n.toNat then v else s.cfg.edited.field k.val m)) ∧
    (∀ (c : Instr) (s t : State), exec c s = .next t →
      (∀ l q p, c ≠ .writeEntry l q p ∧ c ≠ .lockGroup l q p ∧ c ≠ .fixGroup l q p) → c ≠ .selfCheckEnd →
      t.cfg.edited = s.cfg.edited) ∧
    ∀ s : State,
      (∀ c : Instr, c = .powerOn ∨ c = .resetLine → ∃ t, exec c s = .next t ∧ t.cfg.checking = true) ∧
        (s.cfg.checking = true →
          ∃ t, exec .selfCheckEnd s = .next t ∧ t.cfg.edited = t.cfg.active ∧ t.cfg.active = s.cfg.active)

/-- APPLY, by the tests of R182 in their order: refused without authority, during a store write, with the engine away
from rest, and by the first cross-check that fails, with the group and number of the field it names; else the pending
table is the active one, the store write begins and the trainline state is set afresh. Inside a row that names several
fields they are tried in the order the row writes them, which is the model's choice where the spec does not say it (log
15). The write's completion leaves the active table in the store with a good check, and CONFIG DEFAULTED clear. -/
def Obligations.ApplyAndTheStoreWrite : Prop :=
  ∀ (seq : Byte) (payload : List Byte) (s : State),
    (Ready .service ⟨kindApply, seq, payload⟩ s →
      let f : Frame := ⟨kindApply, seq, payload⟩
      let p := s.cfg.edited
      let v := p.field
      let others : List Block := [.rsq, .spd, .ins, .pru, .aut, .ntu, .iru, .cfg]
      -- the cross-checks, in order: whether one fails, and the group and number of the field it names
      let row (fails : Bool) (group field : Nat) : Bool × Nat × Nat := (fails, group, field)
      let checks : List (Bool × Nat × Nat) :=
        [-- 1: each position speed, LOW IDLE, IDLE, N1 to N8, against the one before it
          row (v 0 1 < v 0 0) 0 1, row (v 0 2 < v 0 1) 0 2, row (v 0 3 < v 0 2) 0 3, row (v 0 4 < v 0 3) 0 4,
          row (v 0 5 < v 0 4) 0 5, row (v 0 6 < v 0 5) 0 6, row (v 0 7 < v 0 6) 0 7, row (v 0 8 < v 0 7) 0 8,
          row (v 0 9 < v 0 8) 0 9,
          -- 2: each load, N1 to N8, against the one before it; 3: LOAD MAX
          row (v 0 11 < v 0 10) 0 11, row (v 0 12 < v 0 11) 0 12, row (v 0 13 < v 0 12) 0 13,
          row (v 0 14 < v 0 13) 0 14,
          row (v 0 15 < v 0 14) 0 15, row (v 0 16 < v 0 15) 0 16, row (v 0 17 < v 0 16) 0 17,
          row (v 0 30 < v 0 17) 0 30,
          -- 4: N8 speed; 5: OVERSPEED LIMIT; 6: PRELUBE NORMAL, COLD, FAST; 7: FIRE SPEED; 8: CRANK BUDGET
          row (v 0 9 ≤ v 0 1) 0 9, row (v 3 3 ≤ v 0 9) 3 3, row (v 1 3 ≤ v 1 0) 1 0, row (v 1 3 ≤ v 1 1) 1 1,
          row (v 1 3 ≤ v 1 2) 1 2, row (v 1 9 ≤ v 1 8) 1 9,
          row (v 1 19 < ((s.rsq.history.map (·.duration)).sum : Nat)) 1 19,
          -- 9: the clear points of HOT ENGINE, LOW FUEL PRESSURE, COLD ENGINE, BATTERY LOW
          row (v 2 5 ≤ v 2 6) 2 6, row (v 2 10 ≤ v 2 9) 2 10, row (v 2 13 ≤ v 2 12) 2 13, row (v 2 23 ≤ v 2 22) 2 23,
          -- 10: the derate start points of COOLANT and INTAKE, then their clear points; 11: LUBE LOW AT N8
          row (v 2 15 ≤ v 2 14) 2 14, row (v 2 19 ≤ v 2 18) 2 18, row (v 2 14 ≤ v 2 17) 2 17,
          row (v 2 18 ≤ v 2 21) 2 21,
          row (v 2 3 < v 2 2) 2 3,
          -- 12: RESTART COOLANT, RESTART BATTERY
          row (v 4 10 ≤ v 4 12) 4 12, row (v 4 11 ≤ v 4 13) 4 13]
      ∃ t, exec (.applyTable .service seq payload) s = .next t ∧
        (s.aut.holder ≠ some .service → Unchanged others s t ∧ Replied .service f .notHolder [] s t) ∧
        (s.aut.holder = some .service → s.cfg.writing = true →
          Unchanged others s t ∧ Replied .service f .busy [] s t) ∧
        (s.aut.holder = some .service → s.cfg.writing = false → s.rsq.engine.atRest = false →
          Unchanged others s t ∧ Replied .service f .refusedState [] s t) ∧
        (s.aut.holder = some .service → s.cfg.writing = false → s.rsq.engine.atRest = true →
          (∀ check, checks.find? (·.1) = some check →
            Unchanged others s t ∧ Replied .service f .badTable [byte check.2.1, byte check.2.2] s t) ∧
          (checks.find? (·.1) = none →
            Replied .service f .done [] s t ∧ Settled t ∧ Unchanged [.rsq, .spd, .ins] s t ∧
              t.cfg = { s.cfg with active := s.cfg.edited, writing := true } ∧
              (∀ e : Entry, e ≠ 15 → t.pru.entry e = s.pru.entry e) ∧
              t.aut =
                { s.aut with
                  trainline :=
                    { s.aut.trainline with
                      effective := t.aut.trainline.effective
                      state :=
                        if p.trainlineFollow = false then .absent
                        else if s.aut.trainline.used.run = true then .live
                        else .quiet } }))) ∧
      (s.cfg.writing = true →
        ∃ t, exec .storeWriteCompletion s = .next t ∧
          Unchanged [.rsq, .spd, .ins, .pru, .aut, .ntu, .iru, .links] s t ∧ AttnLaw t ∧
          t.cfg =
            { s.cfg with
              store := s.cfg.active, storeGood := true, checkBad := false, defaulted := false, writing := false })

/-- LOCK GROUP, UNLOCK GROUP and FIX GROUP, from the Service link, holder or not, by the tests of R180 in their order:
BUSY during a store write, BAD FIELD, REFUSED STATE; else the group takes its new state, and at LOCK and FIX its
pending values become its active ones. No command and no reset takes a group out of FIXED; the pending values of a
group that is LOCKED or FIXED equal its active ones after every step but during the self-check, at whose end the
pending table is made (R184, log 6), and an APPLY leaves the active values of such a group as they were. -/
def Obligations.GroupsAreLockedUnlockedAndFixed : Prop :=
  (∀ (l : Link) (seq : Byte) (payload : List Byte) (s : State),
    let others : List Block := [.rsq, .spd, .ins, .pru, .aut, .ntu, .iru]
    let answers (c : Instr) (kind : Byte) (allowed : GroupState → Bool) (new : GroupState) : Prop :=
      let refused (r : Result) (t : State) : Prop :=
        Unchanged (.cfg :: others) s t ∧ Replied l ⟨kind, seq, payload⟩ r [] s t
      Ready l ⟨kind, seq, payload⟩ s →
        ∃ t, exec c s = .next t ∧
          (l ≠ .service → refused .notPermitted t) ∧
          (l = .service → s.cfg.writing = true → refused .busy t) ∧
          (l = .service → s.cfg.writing = false →
            ((∀ g : Fin 5, payload ≠ [byte g.val]) → refused .badField t) ∧
              ∀ g : Fin 5, payload = [byte g.val] →
                (allowed s.cfg.groups[g] = false → refused .refusedState t) ∧
                  (allowed s.cfg.groups[g] = true →
                    Unchanged others s t ∧ Replied l ⟨kind, seq, payload⟩ .done [] s t ∧
                      t.cfg = { s.cfg with groups := s.cfg.groups.set g new, edited := t.cfg.edited } ∧
                      ∀ (k : Fin 5) (m : Nat),
                        t.cfg.edited.field k.val m =
                          if k = g ∧ new ≠ .opened then s.cfg.active.field k.val m
                          else s.cfg.edited.field k.val m))
    answers (.lockGroup l seq payload) kindLockGroup (fun g => g = .opened) .locked ∧
      answers (.unlockGroup l seq payload) kindUnlockGroup (fun g => g = .locked) .opened ∧
      answers (.fixGroup l seq payload) kindFixGroup (fun g => g ≠ .fixed) .fixed) ∧
    (∀ (c : Instr) (s t : State) (g : Fin 5), exec c s = .next t → s.cfg.groups[g] = .fixed →
      t.cfg.groups[g] = .fixed) ∧
    Keeps GroupLaw ∧
    ∀ (l : Link) (seq : Byte) (payload : List Byte) (s t : State) (g : Fin 5) (n : Nat), GroupLaw s →
      s.cfg.checking = false → exec (.applyTable l seq payload) s = .next t → s.cfg.groups[g] ≠ .opened →
      t.cfg.active.field g.val n = s.cfg.active.field g.val n

/-- FORCE, by the tests of R185 in their order: NOT HOLDER, REFUSED STATE away from rest, BAD FIELD; else the force is
stored at its target, and FORCES ACTIVE holds. A speed or channel force changes nothing else until its window or
conversion. That bits 6 and 7 of a wire byte are ignored is the model's choice (log 17). -/
def Obligations.ForceIsStoredAtItsTarget : Prop :=
  ∀ (seq : Byte) (payload : List Byte) (s : State), Ready .service ⟨kindForce, seq, payload⟩ s →
    let f : Frame := ⟨kindForce, seq, payload⟩
    let refused (r : Result) (t : State) : Prop :=
      Unchanged [.rsq, .spd, .ins, .pru, .aut, .ntu, .iru, .cfg] s t ∧ Replied .service f r [] s t
    let done (t : State) : Prop :=
      Replied .service f .done [] s t ∧ Settled t ∧ forcesActive t = true ∧ Unchanged [.cfg] s t
    let channels : List Channel := [.lube, .coolant, .fuel, .battery, .intake, .crankcase]
    let inputs : List Discrete := [.emergencyStop, .turningGear, .groundRelay, .starterEngaged]
    let value (hi lo : Byte) : Int := (hi ++ lo : BitVec 16).toInt
    ∃ t, exec (.force .service seq payload) s = .next t ∧
      (s.aut.holder ≠ some .service → refused .notHolder t) ∧
      (s.aut.holder = some .service → s.rsq.engine.atRest = false → refused .refusedState t) ∧
      (s.aut.holder = some .service → s.rsq.engine.atRest = true →
        (payload.length ≠ 2 → payload.length ≠ 3 → refused .badField t) ∧
          (∀ hi lo : Byte, payload = [0, hi, lo] →
            if 0 ≤ value hi lo ∧ value hi lo ≤ 1600 then
              done t ∧ Unchanged [.rsq, .ins, .pru, .aut] s t ∧
                t.spd = { s.spd with force := some (value hi lo).toNat }
            else refused .badField t) ∧
          (∀ target hi lo : Byte, payload = [target, hi, lo] → target ≠ 0 →
            match channels[target.toNat - 1]? with
            | some c =>
              if (channelRange c).1 ≤ value hi lo ∧ value hi lo ≤ (channelRange c).2 then
                done t ∧ Unchanged [.rsq, .spd, .pru, .aut] s t ∧
                  t.ins = s.ins.setChannel c { s.ins.channel c with forced := some (value hi lo) }
              else refused .badField t
            | none => refused .badField t) ∧
          (∀ target b : Byte, payload = [target, b] → target.toNat < 7 ∨ 11 < target.toNat → refused .badField t) ∧
          (∀ target b : Byte, payload = [target, b] → 7 ≤ target.toNat →
            ∀ d, inputs[target.toNat - 7]? = some d →
            if b.toNat ≤ 1 then
              done t ∧ t.ins = s.ins.setDiscrete d { s.ins.discrete d with forced := some (decide (b = 1)) } ∧
                (d = .emergencyStop → (s.ins.discrete d).used ≠ decide (b = 1) →
                  (t.pru.entry 0).condition = decide (b = 1))
            else refused .badField t) ∧
          (∀ b : Byte, payload = [11, b] →
            done t ∧ Unchanged [.ins] s t ∧
              t.aut.trainline.forced =
                some ⟨b.getLsbD 0, b.getLsbD 1, b.getLsbD 2, b.getLsbD 3, b.getLsbD 4, b.getLsbD 5⟩))

/-- RELEASE FORCE, by the tests of R186: BAD FIELD before NOT HOLDER; target 255 releases every force, and a target of 0 to
11 its own force alone, forced or not. -/
def Obligations.ReleaseForceClearsTheForce : Prop :=
  ∀ (seq : Byte) (payload : List Byte) (s : State), Ready .service ⟨kindReleaseForce, seq, payload⟩ s →
    let f : Frame := ⟨kindReleaseForce, seq, payload⟩
    let refused (r : Result) (t : State) : Prop :=
      Unchanged [.rsq, .spd, .ins, .pru, .aut, .ntu, .iru, .cfg] s t ∧ Replied .service f r [] s t
    let done (t : State) : Prop := Replied .service f .done [] s t ∧ Settled t ∧ Unchanged [.cfg] s t
    let channels : List Channel := [.lube, .coolant, .fuel, .battery, .intake, .crankcase]
    let inputs : List Discrete := [.emergencyStop, .turningGear, .groundRelay, .starterEngaged]
    ∃ t, exec (.releaseForce .service seq payload) s = .next t ∧
      (payload.length ≠ 1 → refused .badField t) ∧
      (∀ target : Byte, payload = [target] →
        let n := target.toNat
        (12 ≤ n → n ≤ 254 → refused .badField t) ∧
          (n ≤ 11 ∨ n = 255 → s.aut.holder ≠ some .service → refused .notHolder t) ∧
          (n = 255 → s.aut.holder = some .service → done t ∧ forcesActive t = false) ∧
          (n ≤ 11 → s.aut.holder = some .service →
            done t ∧ (n ≤ 6 → s.rsq.engine ≠ .unloading → Unchanged [.rsq, .pru, .aut] s t) ∧
              t.spd.force = (if n = 0 then none else s.spd.force) ∧
              (∀ c : Channel, (t.ins.channel c).forced =
                if 1 ≤ n ∧ channels[n - 1]? = some c then none else (s.ins.channel c).forced) ∧
              (∀ d : Discrete, (t.ins.discrete d).forced =
                if 7 ≤ n ∧ inputs[n - 7]? = some d then none else (s.ins.discrete d).forced) ∧
              t.aut.trainline.forced = if n = 11 then none else s.aut.trainline.forced))

end
end

