-- ==== Sys2Proof/Laws/State.lean ====
section
/-! SUPPORT. What each update of one block does to each field of State, true by unfolding, and what reading a sub-record
gives after one is replaced. -/

namespace Sys2Proof.Machine

/-! ### The updates of one block -/

@[simp] theorem State.mapRsq_rsq (f : Rsq → Rsq) (s : State) : (s.mapRsq f).rsq = f s.rsq := rfl
@[simp] theorem State.mapRsq_spd (f : Rsq → Rsq) (s : State) : (s.mapRsq f).spd = s.spd := rfl
@[simp] theorem State.mapRsq_ins (f : Rsq → Rsq) (s : State) : (s.mapRsq f).ins = s.ins := rfl
@[simp] theorem State.mapRsq_pru (f : Rsq → Rsq) (s : State) : (s.mapRsq f).pru = s.pru := rfl
@[simp] theorem State.mapRsq_aut (f : Rsq → Rsq) (s : State) : (s.mapRsq f).aut = s.aut := rfl
@[simp] theorem State.mapRsq_ntu (f : Rsq → Rsq) (s : State) : (s.mapRsq f).ntu = s.ntu := rfl
@[simp] theorem State.mapRsq_iru (f : Rsq → Rsq) (s : State) : (s.mapRsq f).iru = s.iru := rfl
@[simp] theorem State.mapRsq_links (f : Rsq → Rsq) (s : State) : (s.mapRsq f).links = s.links := rfl
@[simp] theorem State.mapRsq_cfg (f : Rsq → Rsq) (s : State) : (s.mapRsq f).cfg = s.cfg := rfl
@[simp] theorem State.mapRsq_pending (f : Rsq → Rsq) (s : State) : (s.mapRsq f).pending = s.pending := rfl

@[simp] theorem State.mapSpd_rsq (f : Spd → Spd) (s : State) : (s.mapSpd f).rsq = s.rsq := rfl
@[simp] theorem State.mapSpd_spd (f : Spd → Spd) (s : State) : (s.mapSpd f).spd = f s.spd := rfl
@[simp] theorem State.mapSpd_ins (f : Spd → Spd) (s : State) : (s.mapSpd f).ins = s.ins := rfl
@[simp] theorem State.mapSpd_pru (f : Spd → Spd) (s : State) : (s.mapSpd f).pru = s.pru := rfl
@[simp] theorem State.mapSpd_aut (f : Spd → Spd) (s : State) : (s.mapSpd f).aut = s.aut := rfl
@[simp] theorem State.mapSpd_ntu (f : Spd → Spd) (s : State) : (s.mapSpd f).ntu = s.ntu := rfl
@[simp] theorem State.mapSpd_iru (f : Spd → Spd) (s : State) : (s.mapSpd f).iru = s.iru := rfl
@[simp] theorem State.mapSpd_links (f : Spd → Spd) (s : State) : (s.mapSpd f).links = s.links := rfl
@[simp] theorem State.mapSpd_cfg (f : Spd → Spd) (s : State) : (s.mapSpd f).cfg = s.cfg := rfl
@[simp] theorem State.mapSpd_pending (f : Spd → Spd) (s : State) : (s.mapSpd f).pending = s.pending := rfl

@[simp] theorem State.mapIns_rsq (f : Ins → Ins) (s : State) : (s.mapIns f).rsq = s.rsq := rfl
@[simp] theorem State.mapIns_spd (f : Ins → Ins) (s : State) : (s.mapIns f).spd = s.spd := rfl
@[simp] theorem State.mapIns_ins (f : Ins → Ins) (s : State) : (s.mapIns f).ins = f s.ins := rfl
@[simp] theorem State.mapIns_pru (f : Ins → Ins) (s : State) : (s.mapIns f).pru = s.pru := rfl
@[simp] theorem State.mapIns_aut (f : Ins → Ins) (s : State) : (s.mapIns f).aut = s.aut := rfl
@[simp] theorem State.mapIns_ntu (f : Ins → Ins) (s : State) : (s.mapIns f).ntu = s.ntu := rfl
@[simp] theorem State.mapIns_iru (f : Ins → Ins) (s : State) : (s.mapIns f).iru = s.iru := rfl
@[simp] theorem State.mapIns_links (f : Ins → Ins) (s : State) : (s.mapIns f).links = s.links := rfl
@[simp] theorem State.mapIns_cfg (f : Ins → Ins) (s : State) : (s.mapIns f).cfg = s.cfg := rfl
@[simp] theorem State.mapIns_pending (f : Ins → Ins) (s : State) : (s.mapIns f).pending = s.pending := rfl

@[simp] theorem State.mapPru_rsq (f : Pru → Pru) (s : State) : (s.mapPru f).rsq = s.rsq := rfl
@[simp] theorem State.mapPru_spd (f : Pru → Pru) (s : State) : (s.mapPru f).spd = s.spd := rfl
@[simp] theorem State.mapPru_ins (f : Pru → Pru) (s : State) : (s.mapPru f).ins = s.ins := rfl
@[simp] theorem State.mapPru_pru (f : Pru → Pru) (s : State) : (s.mapPru f).pru = f s.pru := rfl
@[simp] theorem State.mapPru_aut (f : Pru → Pru) (s : State) : (s.mapPru f).aut = s.aut := rfl
@[simp] theorem State.mapPru_ntu (f : Pru → Pru) (s : State) : (s.mapPru f).ntu = s.ntu := rfl
@[simp] theorem State.mapPru_iru (f : Pru → Pru) (s : State) : (s.mapPru f).iru = s.iru := rfl
@[simp] theorem State.mapPru_links (f : Pru → Pru) (s : State) : (s.mapPru f).links = s.links := rfl
@[simp] theorem State.mapPru_cfg (f : Pru → Pru) (s : State) : (s.mapPru f).cfg = s.cfg := rfl
@[simp] theorem State.mapPru_pending (f : Pru → Pru) (s : State) : (s.mapPru f).pending = s.pending := rfl

@[simp] theorem State.mapAut_rsq (f : Aut → Aut) (s : State) : (s.mapAut f).rsq = s.rsq := rfl
@[simp] theorem State.mapAut_spd (f : Aut → Aut) (s : State) : (s.mapAut f).spd = s.spd := rfl
@[simp] theorem State.mapAut_ins (f : Aut → Aut) (s : State) : (s.mapAut f).ins = s.ins := rfl
@[simp] theorem State.mapAut_pru (f : Aut → Aut) (s : State) : (s.mapAut f).pru = s.pru := rfl
@[simp] theorem State.mapAut_aut (f : Aut → Aut) (s : State) : (s.mapAut f).aut = f s.aut := rfl
@[simp] theorem State.mapAut_ntu (f : Aut → Aut) (s : State) : (s.mapAut f).ntu = s.ntu := rfl
@[simp] theorem State.mapAut_iru (f : Aut → Aut) (s : State) : (s.mapAut f).iru = s.iru := rfl
@[simp] theorem State.mapAut_links (f : Aut → Aut) (s : State) : (s.mapAut f).links = s.links := rfl
@[simp] theorem State.mapAut_cfg (f : Aut → Aut) (s : State) : (s.mapAut f).cfg = s.cfg := rfl
@[simp] theorem State.mapAut_pending (f : Aut → Aut) (s : State) : (s.mapAut f).pending = s.pending := rfl

@[simp] theorem State.mapNtu_rsq (f : Ntu → Ntu) (s : State) : (s.mapNtu f).rsq = s.rsq := rfl
@[simp] theorem State.mapNtu_spd (f : Ntu → Ntu) (s : State) : (s.mapNtu f).spd = s.spd := rfl
@[simp] theorem State.mapNtu_ins (f : Ntu → Ntu) (s : State) : (s.mapNtu f).ins = s.ins := rfl
@[simp] theorem State.mapNtu_pru (f : Ntu → Ntu) (s : State) : (s.mapNtu f).pru = s.pru := rfl
@[simp] theorem State.mapNtu_aut (f : Ntu → Ntu) (s : State) : (s.mapNtu f).aut = s.aut := rfl
@[simp] theorem State.mapNtu_ntu (f : Ntu → Ntu) (s : State) : (s.mapNtu f).ntu = f s.ntu := rfl
@[simp] theorem State.mapNtu_iru (f : Ntu → Ntu) (s : State) : (s.mapNtu f).iru = s.iru := rfl
@[simp] theorem State.mapNtu_links (f : Ntu → Ntu) (s : State) : (s.mapNtu f).links = s.links := rfl
@[simp] theorem State.mapNtu_cfg (f : Ntu → Ntu) (s : State) : (s.mapNtu f).cfg = s.cfg := rfl
@[simp] theorem State.mapNtu_pending (f : Ntu → Ntu) (s : State) : (s.mapNtu f).pending = s.pending := rfl

@[simp] theorem State.mapIru_rsq (f : Iru → Iru) (s : State) : (s.mapIru f).rsq = s.rsq := rfl
@[simp] theorem State.mapIru_spd (f : Iru → Iru) (s : State) : (s.mapIru f).spd = s.spd := rfl
@[simp] theorem State.mapIru_ins (f : Iru → Iru) (s : State) : (s.mapIru f).ins = s.ins := rfl
@[simp] theorem State.mapIru_pru (f : Iru → Iru) (s : State) : (s.mapIru f).pru = s.pru := rfl
@[simp] theorem State.mapIru_aut (f : Iru → Iru) (s : State) : (s.mapIru f).aut = s.aut := rfl
@[simp] theorem State.mapIru_ntu (f : Iru → Iru) (s : State) : (s.mapIru f).ntu = s.ntu := rfl
@[simp] theorem State.mapIru_iru (f : Iru → Iru) (s : State) : (s.mapIru f).iru = f s.iru := rfl
@[simp] theorem State.mapIru_links (f : Iru → Iru) (s : State) : (s.mapIru f).links = s.links := rfl
@[simp] theorem State.mapIru_cfg (f : Iru → Iru) (s : State) : (s.mapIru f).cfg = s.cfg := rfl
@[simp] theorem State.mapIru_pending (f : Iru → Iru) (s : State) : (s.mapIru f).pending = s.pending := rfl

@[simp] theorem State.mapLinks_rsq (f : Links → Links) (s : State) : (s.mapLinks f).rsq = s.rsq := rfl
@[simp] theorem State.mapLinks_spd (f : Links → Links) (s : State) : (s.mapLinks f).spd = s.spd := rfl
@[simp] theorem State.mapLinks_ins (f : Links → Links) (s : State) : (s.mapLinks f).ins = s.ins := rfl
@[simp] theorem State.mapLinks_pru (f : Links → Links) (s : State) : (s.mapLinks f).pru = s.pru := rfl
@[simp] theorem State.mapLinks_aut (f : Links → Links) (s : State) : (s.mapLinks f).aut = s.aut := rfl
@[simp] theorem State.mapLinks_ntu (f : Links → Links) (s : State) : (s.mapLinks f).ntu = s.ntu := rfl
@[simp] theorem State.mapLinks_iru (f : Links → Links) (s : State) : (s.mapLinks f).iru = s.iru := rfl
@[simp] theorem State.mapLinks_links (f : Links → Links) (s : State) : (s.mapLinks f).links = f s.links := rfl
@[simp] theorem State.mapLinks_cfg (f : Links → Links) (s : State) : (s.mapLinks f).cfg = s.cfg := rfl
@[simp] theorem State.mapLinks_pending (f : Links → Links) (s : State) : (s.mapLinks f).pending = s.pending := rfl

@[simp] theorem State.mapCfg_rsq (f : Cfg → Cfg) (s : State) : (s.mapCfg f).rsq = s.rsq := rfl
@[simp] theorem State.mapCfg_spd (f : Cfg → Cfg) (s : State) : (s.mapCfg f).spd = s.spd := rfl
@[simp] theorem State.mapCfg_ins (f : Cfg → Cfg) (s : State) : (s.mapCfg f).ins = s.ins := rfl
@[simp] theorem State.mapCfg_pru (f : Cfg → Cfg) (s : State) : (s.mapCfg f).pru = s.pru := rfl
@[simp] theorem State.mapCfg_aut (f : Cfg → Cfg) (s : State) : (s.mapCfg f).aut = s.aut := rfl
@[simp] theorem State.mapCfg_ntu (f : Cfg → Cfg) (s : State) : (s.mapCfg f).ntu = s.ntu := rfl
@[simp] theorem State.mapCfg_iru (f : Cfg → Cfg) (s : State) : (s.mapCfg f).iru = s.iru := rfl
@[simp] theorem State.mapCfg_links (f : Cfg → Cfg) (s : State) : (s.mapCfg f).links = s.links := rfl
@[simp] theorem State.mapCfg_cfg (f : Cfg → Cfg) (s : State) : (s.mapCfg f).cfg = f s.cfg := rfl
@[simp] theorem State.mapCfg_pending (f : Cfg → Cfg) (s : State) : (s.mapCfg f).pending = s.pending := rfl

/-! ### The updates of a sub-record -/

@[simp] theorem State.mapTimers_rsq (f : SeqTimers → SeqTimers) (s : State) : (s.mapTimers f).rsq = { s.rsq with timers := f s.rsq.timers } := rfl
@[simp] theorem State.mapTimers_spd (f : SeqTimers → SeqTimers) (s : State) : (s.mapTimers f).spd = s.spd := rfl
@[simp] theorem State.mapTimers_ins (f : SeqTimers → SeqTimers) (s : State) : (s.mapTimers f).ins = s.ins := rfl
@[simp] theorem State.mapTimers_pru (f : SeqTimers → SeqTimers) (s : State) : (s.mapTimers f).pru = s.pru := rfl
@[simp] theorem State.mapTimers_aut (f : SeqTimers → SeqTimers) (s : State) : (s.mapTimers f).aut = s.aut := rfl
@[simp] theorem State.mapTimers_ntu (f : SeqTimers → SeqTimers) (s : State) : (s.mapTimers f).ntu = s.ntu := rfl
@[simp] theorem State.mapTimers_iru (f : SeqTimers → SeqTimers) (s : State) : (s.mapTimers f).iru = s.iru := rfl
@[simp] theorem State.mapTimers_links (f : SeqTimers → SeqTimers) (s : State) : (s.mapTimers f).links = s.links := rfl
@[simp] theorem State.mapTimers_cfg (f : SeqTimers → SeqTimers) (s : State) : (s.mapTimers f).cfg = s.cfg := rfl
@[simp] theorem State.mapTimers_pending (f : SeqTimers → SeqTimers) (s : State) : (s.mapTimers f).pending = s.pending := rfl

@[simp] theorem State.mapChannel_rsq (c : Channel) (f : ChannelRec → ChannelRec) (s : State) : (s.mapChannel c f).rsq = s.rsq := rfl
@[simp] theorem State.mapChannel_spd (c : Channel) (f : ChannelRec → ChannelRec) (s : State) : (s.mapChannel c f).spd = s.spd := rfl
@[simp] theorem State.mapChannel_ins (c : Channel) (f : ChannelRec → ChannelRec) (s : State) : (s.mapChannel c f).ins = s.ins.setChannel c (f (s.ins.channel c)) := rfl
@[simp] theorem State.mapChannel_pru (c : Channel) (f : ChannelRec → ChannelRec) (s : State) : (s.mapChannel c f).pru = s.pru := rfl
@[simp] theorem State.mapChannel_aut (c : Channel) (f : ChannelRec → ChannelRec) (s : State) : (s.mapChannel c f).aut = s.aut := rfl
@[simp] theorem State.mapChannel_ntu (c : Channel) (f : ChannelRec → ChannelRec) (s : State) : (s.mapChannel c f).ntu = s.ntu := rfl
@[simp] theorem State.mapChannel_iru (c : Channel) (f : ChannelRec → ChannelRec) (s : State) : (s.mapChannel c f).iru = s.iru := rfl
@[simp] theorem State.mapChannel_links (c : Channel) (f : ChannelRec → ChannelRec) (s : State) : (s.mapChannel c f).links = s.links := rfl
@[simp] theorem State.mapChannel_cfg (c : Channel) (f : ChannelRec → ChannelRec) (s : State) : (s.mapChannel c f).cfg = s.cfg := rfl
@[simp] theorem State.mapChannel_pending (c : Channel) (f : ChannelRec → ChannelRec) (s : State) : (s.mapChannel c f).pending = s.pending := rfl

@[simp] theorem State.mapDiscrete_rsq (d : Discrete) (f : DiscreteRec → DiscreteRec) (s : State) : (s.mapDiscrete d f).rsq = s.rsq := rfl
@[simp] theorem State.mapDiscrete_spd (d : Discrete) (f : DiscreteRec → DiscreteRec) (s : State) : (s.mapDiscrete d f).spd = s.spd := rfl
@[simp] theorem State.mapDiscrete_ins (d : Discrete) (f : DiscreteRec → DiscreteRec) (s : State) : (s.mapDiscrete d f).ins = s.ins.setDiscrete d (f (s.ins.discrete d)) := rfl
@[simp] theorem State.mapDiscrete_pru (d : Discrete) (f : DiscreteRec → DiscreteRec) (s : State) : (s.mapDiscrete d f).pru = s.pru := rfl
@[simp] theorem State.mapDiscrete_aut (d : Discrete) (f : DiscreteRec → DiscreteRec) (s : State) : (s.mapDiscrete d f).aut = s.aut := rfl
@[simp] theorem State.mapDiscrete_ntu (d : Discrete) (f : DiscreteRec → DiscreteRec) (s : State) : (s.mapDiscrete d f).ntu = s.ntu := rfl
@[simp] theorem State.mapDiscrete_iru (d : Discrete) (f : DiscreteRec → DiscreteRec) (s : State) : (s.mapDiscrete d f).iru = s.iru := rfl
@[simp] theorem State.mapDiscrete_links (d : Discrete) (f : DiscreteRec → DiscreteRec) (s : State) : (s.mapDiscrete d f).links = s.links := rfl
@[simp] theorem State.mapDiscrete_cfg (d : Discrete) (f : DiscreteRec → DiscreteRec) (s : State) : (s.mapDiscrete d f).cfg = s.cfg := rfl
@[simp] theorem State.mapDiscrete_pending (d : Discrete) (f : DiscreteRec → DiscreteRec) (s : State) : (s.mapDiscrete d f).pending = s.pending := rfl

@[simp] theorem State.mapSource_rsq (l : Link) (f : FramedSource → FramedSource) (s : State) : (s.mapSource l f).rsq = s.rsq := rfl
@[simp] theorem State.mapSource_spd (l : Link) (f : FramedSource → FramedSource) (s : State) : (s.mapSource l f).spd = s.spd := rfl
@[simp] theorem State.mapSource_ins (l : Link) (f : FramedSource → FramedSource) (s : State) : (s.mapSource l f).ins = s.ins := rfl
@[simp] theorem State.mapSource_pru (l : Link) (f : FramedSource → FramedSource) (s : State) : (s.mapSource l f).pru = s.pru := rfl
@[simp] theorem State.mapSource_aut (l : Link) (f : FramedSource → FramedSource) (s : State) : (s.mapSource l f).aut = s.aut.setSource l (f (s.aut.source l)) := rfl
@[simp] theorem State.mapSource_ntu (l : Link) (f : FramedSource → FramedSource) (s : State) : (s.mapSource l f).ntu = s.ntu := rfl
@[simp] theorem State.mapSource_iru (l : Link) (f : FramedSource → FramedSource) (s : State) : (s.mapSource l f).iru = s.iru := rfl
@[simp] theorem State.mapSource_links (l : Link) (f : FramedSource → FramedSource) (s : State) : (s.mapSource l f).links = s.links := rfl
@[simp] theorem State.mapSource_cfg (l : Link) (f : FramedSource → FramedSource) (s : State) : (s.mapSource l f).cfg = s.cfg := rfl
@[simp] theorem State.mapSource_pending (l : Link) (f : FramedSource → FramedSource) (s : State) : (s.mapSource l f).pending = s.pending := rfl

@[simp] theorem State.mapLink_rsq (l : Link) (f : LinkIf → LinkIf) (s : State) : (s.mapLink l f).rsq = s.rsq := rfl
@[simp] theorem State.mapLink_spd (l : Link) (f : LinkIf → LinkIf) (s : State) : (s.mapLink l f).spd = s.spd := rfl
@[simp] theorem State.mapLink_ins (l : Link) (f : LinkIf → LinkIf) (s : State) : (s.mapLink l f).ins = s.ins := rfl
@[simp] theorem State.mapLink_pru (l : Link) (f : LinkIf → LinkIf) (s : State) : (s.mapLink l f).pru = s.pru := rfl
@[simp] theorem State.mapLink_aut (l : Link) (f : LinkIf → LinkIf) (s : State) : (s.mapLink l f).aut = s.aut := rfl
@[simp] theorem State.mapLink_ntu (l : Link) (f : LinkIf → LinkIf) (s : State) : (s.mapLink l f).ntu = s.ntu := rfl
@[simp] theorem State.mapLink_iru (l : Link) (f : LinkIf → LinkIf) (s : State) : (s.mapLink l f).iru = s.iru := rfl
@[simp] theorem State.mapLink_links (l : Link) (f : LinkIf → LinkIf) (s : State) : (s.mapLink l f).links = s.links.setLink l (f (s.links.link l)) := rfl
@[simp] theorem State.mapLink_cfg (l : Link) (f : LinkIf → LinkIf) (s : State) : (s.mapLink l f).cfg = s.cfg := rfl
@[simp] theorem State.mapLink_pending (l : Link) (f : LinkIf → LinkIf) (s : State) : (s.mapLink l f).pending = s.pending := rfl

/-! ### Reading a sub-record after one is replaced -/

@[simp] theorem Links.link_setLink_same (x : Links) (k : Link) (v : LinkIf) :
    (x.setLink k v).link k = v := by cases k <;> rfl

theorem Links.link_setLink_other (x : Links) {j k : Link} (v : LinkIf) (h : j ≠ k) :
    (x.setLink k v).link j = x.link j := by cases k <;> cases j <;> first | rfl | exact absurd rfl h

@[simp] theorem Aut.source_setSource_same (x : Aut) (k : Link) (v : FramedSource) :
    (x.setSource k v).source k = v := by cases k <;> rfl

theorem Aut.source_setSource_other (x : Aut) {j k : Link} (v : FramedSource) (h : j ≠ k) :
    (x.setSource k v).source j = x.source j := by cases k <;> cases j <;> first | rfl | exact absurd rfl h

@[simp] theorem Aut.setSource_trainline (x : Aut) (k : Link) (v : FramedSource) :
    (x.setSource k v).trainline = x.trainline := by cases k <;> rfl

@[simp] theorem Aut.setSource_holder (x : Aut) (k : Link) (v : FramedSource) :
    (x.setSource k v).holder = x.holder := by cases k <;> rfl

@[simp] theorem Aut.setSource_handover (x : Aut) (k : Link) (v : FramedSource) :
    (x.setSource k v).handover = x.handover := by cases k <;> rfl

@[simp] theorem Aut.setSource_nextNumber (x : Aut) (k : Link) (v : FramedSource) :
    (x.setSource k v).nextNumber = x.nextNumber := by cases k <;> rfl

@[simp] theorem Ins.channel_setChannel_same (x : Ins) (k : Channel) (v : ChannelRec) :
    (x.setChannel k v).channel k = v := by cases k <;> rfl

theorem Ins.channel_setChannel_other (x : Ins) {j k : Channel} (v : ChannelRec) (h : j ≠ k) :
    (x.setChannel k v).channel j = x.channel j := by cases k <;> cases j <;> first | rfl | exact absurd rfl h

@[simp] theorem Ins.setChannel_emergencyStop (x : Ins) (k : Channel) (v : ChannelRec) :
    (x.setChannel k v).emergencyStop = x.emergencyStop := by cases k <;> rfl

@[simp] theorem Ins.setChannel_turningGear (x : Ins) (k : Channel) (v : ChannelRec) :
    (x.setChannel k v).turningGear = x.turningGear := by cases k <;> rfl

@[simp] theorem Ins.setChannel_groundRelay (x : Ins) (k : Channel) (v : ChannelRec) :
    (x.setChannel k v).groundRelay = x.groundRelay := by cases k <;> rfl

@[simp] theorem Ins.setChannel_starterEngaged (x : Ins) (k : Channel) (v : ChannelRec) :
    (x.setChannel k v).starterEngaged = x.starterEngaged := by cases k <;> rfl

@[simp] theorem Ins.setChannel_scanNext (x : Ins) (k : Channel) (v : ChannelRec) :
    (x.setChannel k v).scanNext = x.scanNext := by cases k <;> rfl

@[simp] theorem Ins.setDiscrete_scanNext (x : Ins) (k : Discrete) (v : DiscreteRec) :
    (x.setDiscrete k v).scanNext = x.scanNext := by cases k <;> rfl

@[simp] theorem Ins.converted_scanNext (t : Table) (c : Channel) (raw : Nat) (x : Ins) :
    (x.converted t c raw).scanNext = scanAfter c := rfl

@[simp] theorem Ins.converted_channel (t : Table) (c : Channel) (raw : Nat) (x : Ins) (k : Channel) :
    (x.converted t c raw).channel k = (x.setChannel c (convert t c raw (x.channel c))).channel k := by cases k <;> rfl

@[simp] theorem Ins.converted_discrete (t : Table) (c : Channel) (raw : Nat) (x : Ins) (d : Discrete) :
    (x.converted t c raw).discrete d = x.discrete d := by cases c <;> cases d <;> rfl

@[simp] theorem Ins.discrete_setDiscrete_same (x : Ins) (k : Discrete) (v : DiscreteRec) :
    (x.setDiscrete k v).discrete k = v := by cases k <;> rfl

theorem Ins.discrete_setDiscrete_other (x : Ins) {j k : Discrete} (v : DiscreteRec) (h : j ≠ k) :
    (x.setDiscrete k v).discrete j = x.discrete j := by cases k <;> cases j <;> first | rfl | exact absurd rfl h

@[simp] theorem Ins.setDiscrete_lube (x : Ins) (k : Discrete) (v : DiscreteRec) :
    (x.setDiscrete k v).lube = x.lube := by cases k <;> rfl

@[simp] theorem Ins.setDiscrete_coolant (x : Ins) (k : Discrete) (v : DiscreteRec) :
    (x.setDiscrete k v).coolant = x.coolant := by cases k <;> rfl

@[simp] theorem Ins.setDiscrete_fuel (x : Ins) (k : Discrete) (v : DiscreteRec) :
    (x.setDiscrete k v).fuel = x.fuel := by cases k <;> rfl

@[simp] theorem Ins.setDiscrete_battery (x : Ins) (k : Discrete) (v : DiscreteRec) :
    (x.setDiscrete k v).battery = x.battery := by cases k <;> rfl

@[simp] theorem Ins.setDiscrete_intake (x : Ins) (k : Discrete) (v : DiscreteRec) :
    (x.setDiscrete k v).intake = x.intake := by cases k <;> rfl

@[simp] theorem Ins.setDiscrete_crankcase (x : Ins) (k : Discrete) (v : DiscreteRec) :
    (x.setDiscrete k v).crankcase = x.crankcase := by cases k <;> rfl

@[simp] theorem Wires.wire_setWire_same (x : Wires) (k : Wire) (v : WireFilter) :
    (x.setWire k v).wire k = v := by cases k <;> rfl

theorem Wires.wire_setWire_other (x : Wires) {j k : Wire} (v : WireFilter) (h : j ≠ k) :
    (x.setWire k v).wire j = x.wire j := by cases k <;> cases j <;> first | rfl | exact absurd rfl h

@[simp] theorem Ins.discrete_setChannel (x : Ins) (c : Channel) (v : ChannelRec) (d : Discrete) :
    (x.setChannel c v).discrete d = x.discrete d := by cases c <;> cases d <;> rfl

@[simp] theorem Ins.channel_setDiscrete (x : Ins) (d : Discrete) (v : DiscreteRec) (c : Channel) :
    (x.setDiscrete d v).channel c = x.channel c := by cases c <;> cases d <;> rfl

@[simp] theorem Pru.entry_setEntry_same (p : Pru) (e : Entry) (r : EntryRec) : (p.setEntry e r).entry e = r := by
  simp [Pru.setEntry, Pru.entry]

theorem Pru.entry_setEntry_other (p : Pru) {d e : Entry} (r : EntryRec) (h : d ≠ e) :
    (p.setEntry e r).entry d = p.entry d := by
  have : e.val ≠ d.val := fun w => h (Fin.ext w.symm)
  simp [Pru.setEntry, Pru.entry, Vector.getElem_set_ne _ _ this]

theorem Pru.entry_setEntry (p : Pru) (d e : Entry) (r : EntryRec) :
    (p.setEntry e r).entry d = if d = e then r else p.entry d := by
  split
  · next h => subst h; simp
  · next h => exact Pru.entry_setEntry_other p r h

@[simp] theorem Pru.setEntry_coolantPct (p : Pru) (e : Entry) (r : EntryRec) :
    (p.setEntry e r).coolantPct = p.coolantPct := rfl

@[simp] theorem Pru.setEntry_intakePct (p : Pru) (e : Entry) (r : EntryRec) :
    (p.setEntry e r).intakePct = p.intakePct := rfl

@[simp] theorem Pru.setEntry_bell (p : Pru) (e : Entry) (r : EntryRec) : (p.setEntry e r).bell = p.bell := rfl

theorem Pru.entry_mapEntries (p : Pru) (f : EntryRec → EntryRec) (e : Entry) :
    (p.mapEntries f).entry e = f (p.entry e) := by
  simp [Pru.mapEntries, Pru.entry]

end Sys2Proof.Machine
end

