-- ==== Sys2Proof/Laws/Frames.lean ====
section
/-! SUPPORT. What the shared operations of Machine/Ops.lean leave alone: for each operation, each block it does not
touch. -/

namespace Sys2Proof.Machine

/-! ### endHandover -/

@[simp] theorem endHandover_rsq (o : ClaimOutcome) (s : State) : (endHandover o s).rsq = s.rsq := by
  dsimp only [endHandover]
  (repeat' split) <;> simp
@[simp] theorem endHandover_spd (o : ClaimOutcome) (s : State) : (endHandover o s).spd = s.spd := by
  dsimp only [endHandover]
  (repeat' split) <;> simp
@[simp] theorem endHandover_ins (o : ClaimOutcome) (s : State) : (endHandover o s).ins = s.ins := by
  dsimp only [endHandover]
  (repeat' split) <;> simp
@[simp] theorem endHandover_pru (o : ClaimOutcome) (s : State) : (endHandover o s).pru = s.pru := by
  dsimp only [endHandover]
  (repeat' split) <;> simp
@[simp] theorem endHandover_ntu (o : ClaimOutcome) (s : State) : (endHandover o s).ntu = s.ntu := by
  dsimp only [endHandover]
  (repeat' split) <;> simp
@[simp] theorem endHandover_iru (o : ClaimOutcome) (s : State) : (endHandover o s).iru = s.iru := by
  dsimp only [endHandover]
  (repeat' split) <;> simp
@[simp] theorem endHandover_links (o : ClaimOutcome) (s : State) : (endHandover o s).links = s.links := by
  dsimp only [endHandover]
  (repeat' split) <;> simp
@[simp] theorem endHandover_cfg (o : ClaimOutcome) (s : State) : (endHandover o s).cfg = s.cfg := by
  dsimp only [endHandover]
  (repeat' split) <;> simp
@[simp] theorem endHandover_pending (o : ClaimOutcome) (s : State) : (endHandover o s).pending = s.pending := by
  dsimp only [endHandover]
  (repeat' split) <;> simp

/-! ### refreshGovernor -/

@[simp] theorem refreshGovernor_rsq (s : State) : (refreshGovernor s).rsq = s.rsq := by
  dsimp only [refreshGovernor]
  (repeat' split) <;> simp
@[simp] theorem refreshGovernor_spd (s : State) : (refreshGovernor s).spd = s.spd := by
  dsimp only [refreshGovernor]
  (repeat' split) <;> simp
@[simp] theorem refreshGovernor_ins (s : State) : (refreshGovernor s).ins = s.ins := by
  dsimp only [refreshGovernor]
  (repeat' split) <;> simp
@[simp] theorem refreshGovernor_pru (s : State) : (refreshGovernor s).pru = s.pru := by
  dsimp only [refreshGovernor]
  (repeat' split) <;> simp
@[simp] theorem refreshGovernor_aut (s : State) : (refreshGovernor s).aut = s.aut := by
  dsimp only [refreshGovernor]
  (repeat' split) <;> simp
@[simp] theorem refreshGovernor_iru (s : State) : (refreshGovernor s).iru = s.iru := by
  dsimp only [refreshGovernor]
  (repeat' split) <;> simp
@[simp] theorem refreshGovernor_links (s : State) : (refreshGovernor s).links = s.links := by
  dsimp only [refreshGovernor]
  (repeat' split) <;> simp
@[simp] theorem refreshGovernor_cfg (s : State) : (refreshGovernor s).cfg = s.cfg := by
  dsimp only [refreshGovernor]
  (repeat' split) <;> simp
@[simp] theorem refreshGovernor_pending (s : State) : (refreshGovernor s).pending = s.pending := by
  dsimp only [refreshGovernor]
  (repeat' split) <;> simp

/-! ### idleDownJump -/

@[simp] theorem idleDownJump_rsq (s : State) : (idleDownJump s).rsq = s.rsq := by simp [idleDownJump]
@[simp] theorem idleDownJump_spd (s : State) : (idleDownJump s).spd = s.spd := by simp [idleDownJump]
@[simp] theorem idleDownJump_ins (s : State) : (idleDownJump s).ins = s.ins := by simp [idleDownJump]
@[simp] theorem idleDownJump_pru (s : State) : (idleDownJump s).pru = s.pru := by simp [idleDownJump]
@[simp] theorem idleDownJump_aut (s : State) : (idleDownJump s).aut = s.aut := by simp [idleDownJump]
@[simp] theorem idleDownJump_iru (s : State) : (idleDownJump s).iru = s.iru := by simp [idleDownJump]
@[simp] theorem idleDownJump_links (s : State) : (idleDownJump s).links = s.links := by simp [idleDownJump]
@[simp] theorem idleDownJump_cfg (s : State) : (idleDownJump s).cfg = s.cfg := by simp [idleDownJump]
@[simp] theorem idleDownJump_pending (s : State) : (idleDownJump s).pending = s.pending := by simp [idleDownJump]

/-! ### ntuEngineChange -/

@[simp] theorem ntuEngineChange_rsq (old new : Engine) (s : State) : (ntuEngineChange old new s).rsq = s.rsq := by
  dsimp only [ntuEngineChange]
  (repeat' split) <;> simp
@[simp] theorem ntuEngineChange_spd (old new : Engine) (s : State) : (ntuEngineChange old new s).spd = s.spd := by
  dsimp only [ntuEngineChange]
  (repeat' split) <;> simp
@[simp] theorem ntuEngineChange_ins (old new : Engine) (s : State) : (ntuEngineChange old new s).ins = s.ins := by
  dsimp only [ntuEngineChange]
  (repeat' split) <;> simp
@[simp] theorem ntuEngineChange_pru (old new : Engine) (s : State) : (ntuEngineChange old new s).pru = s.pru := by
  dsimp only [ntuEngineChange]
  (repeat' split) <;> simp
@[simp] theorem ntuEngineChange_aut (old new : Engine) (s : State) : (ntuEngineChange old new s).aut = s.aut := by
  dsimp only [ntuEngineChange]
  (repeat' split) <;> simp
@[simp] theorem ntuEngineChange_iru (old new : Engine) (s : State) : (ntuEngineChange old new s).iru = s.iru := by
  dsimp only [ntuEngineChange]
  (repeat' split) <;> simp
@[simp] theorem ntuEngineChange_links (old new : Engine) (s : State) : (ntuEngineChange old new s).links = s.links := by
  dsimp only [ntuEngineChange]
  (repeat' split) <;> simp
@[simp] theorem ntuEngineChange_cfg (old new : Engine) (s : State) : (ntuEngineChange old new s).cfg = s.cfg := by
  dsimp only [ntuEngineChange]
  (repeat' split) <;> simp
@[simp] theorem ntuEngineChange_pending (old new : Engine) (s : State) : (ntuEngineChange old new s).pending = s.pending := by
  dsimp only [ntuEngineChange]
  (repeat' split) <;> simp

/-! ### noteRestart -/

@[simp] theorem noteRestart_spd (s : State) : (noteRestart s).spd = s.spd := by
  dsimp only [noteRestart]
  (repeat' split) <;> simp
@[simp] theorem noteRestart_ins (s : State) : (noteRestart s).ins = s.ins := by
  dsimp only [noteRestart]
  (repeat' split) <;> simp
@[simp] theorem noteRestart_pru (s : State) : (noteRestart s).pru = s.pru := by
  dsimp only [noteRestart]
  (repeat' split) <;> simp
@[simp] theorem noteRestart_aut (s : State) : (noteRestart s).aut = s.aut := by
  dsimp only [noteRestart]
  (repeat' split) <;> simp
@[simp] theorem noteRestart_ntu (s : State) : (noteRestart s).ntu = s.ntu := by
  dsimp only [noteRestart]
  (repeat' split) <;> simp
@[simp] theorem noteRestart_iru (s : State) : (noteRestart s).iru = s.iru := by
  dsimp only [noteRestart]
  (repeat' split) <;> simp
@[simp] theorem noteRestart_links (s : State) : (noteRestart s).links = s.links := by
  dsimp only [noteRestart]
  (repeat' split) <;> simp
@[simp] theorem noteRestart_cfg (s : State) : (noteRestart s).cfg = s.cfg := by
  dsimp only [noteRestart]
  (repeat' split) <;> simp
@[simp] theorem noteRestart_pending (s : State) : (noteRestart s).pending = s.pending := by
  dsimp only [noteRestart]
  (repeat' split) <;> simp

/-! ### handRestartTrigger -/

@[simp] theorem handRestartTrigger_spd (s : State) : (handRestartTrigger s).spd = s.spd := by simp [handRestartTrigger]
@[simp] theorem handRestartTrigger_ins (s : State) : (handRestartTrigger s).ins = s.ins := by simp [handRestartTrigger]
@[simp] theorem handRestartTrigger_pru (s : State) : (handRestartTrigger s).pru = s.pru := by simp [handRestartTrigger]
@[simp] theorem handRestartTrigger_aut (s : State) : (handRestartTrigger s).aut = s.aut := by simp [handRestartTrigger]
@[simp] theorem handRestartTrigger_ntu (s : State) : (handRestartTrigger s).ntu = s.ntu := by simp [handRestartTrigger]
@[simp] theorem handRestartTrigger_links (s : State) : (handRestartTrigger s).links = s.links := by simp [handRestartTrigger]
@[simp] theorem handRestartTrigger_cfg (s : State) : (handRestartTrigger s).cfg = s.cfg := by simp [handRestartTrigger]
@[simp] theorem handRestartTrigger_pending (s : State) : (handRestartTrigger s).pending = s.pending := by simp [handRestartTrigger]

/-! ### iruEngineChange -/

@[simp] theorem iruEngineChange_spd (old new : Engine) (s : State) : (iruEngineChange old new s).spd = s.spd := by
  dsimp only [iruEngineChange]
  (repeat' split) <;> simp
@[simp] theorem iruEngineChange_ins (old new : Engine) (s : State) : (iruEngineChange old new s).ins = s.ins := by
  dsimp only [iruEngineChange]
  (repeat' split) <;> simp
@[simp] theorem iruEngineChange_pru (old new : Engine) (s : State) : (iruEngineChange old new s).pru = s.pru := by
  dsimp only [iruEngineChange]
  (repeat' split) <;> simp
@[simp] theorem iruEngineChange_aut (old new : Engine) (s : State) : (iruEngineChange old new s).aut = s.aut := by
  dsimp only [iruEngineChange]
  (repeat' split) <;> simp
@[simp] theorem iruEngineChange_ntu (old new : Engine) (s : State) : (iruEngineChange old new s).ntu = s.ntu := by
  dsimp only [iruEngineChange]
  (repeat' split) <;> simp
@[simp] theorem iruEngineChange_links (old new : Engine) (s : State) : (iruEngineChange old new s).links = s.links := by
  dsimp only [iruEngineChange]
  (repeat' split) <;> simp
@[simp] theorem iruEngineChange_cfg (old new : Engine) (s : State) : (iruEngineChange old new s).cfg = s.cfg := by
  dsimp only [iruEngineChange]
  (repeat' split) <;> simp
@[simp] theorem iruEngineChange_pending (old new : Engine) (s : State) : (iruEngineChange old new s).pending = s.pending := by
  dsimp only [iruEngineChange]
  (repeat' split) <;> simp

/-! ### spdEngineChange -/

@[simp] theorem spdEngineChange_rsq (new : Engine) (s : State) : (spdEngineChange new s).rsq = s.rsq := by
  dsimp only [spdEngineChange]
  (repeat' split) <;> simp
@[simp] theorem spdEngineChange_ins (new : Engine) (s : State) : (spdEngineChange new s).ins = s.ins := by
  dsimp only [spdEngineChange]
  (repeat' split) <;> simp
@[simp] theorem spdEngineChange_pru (new : Engine) (s : State) : (spdEngineChange new s).pru = s.pru := by
  dsimp only [spdEngineChange]
  (repeat' split) <;> simp
@[simp] theorem spdEngineChange_aut (new : Engine) (s : State) : (spdEngineChange new s).aut = s.aut := by
  dsimp only [spdEngineChange]
  (repeat' split) <;> simp
@[simp] theorem spdEngineChange_ntu (new : Engine) (s : State) : (spdEngineChange new s).ntu = s.ntu := by
  dsimp only [spdEngineChange]
  (repeat' split) <;> simp
@[simp] theorem spdEngineChange_iru (new : Engine) (s : State) : (spdEngineChange new s).iru = s.iru := by
  dsimp only [spdEngineChange]
  (repeat' split) <;> simp
@[simp] theorem spdEngineChange_links (new : Engine) (s : State) : (spdEngineChange new s).links = s.links := by
  dsimp only [spdEngineChange]
  (repeat' split) <;> simp
@[simp] theorem spdEngineChange_cfg (new : Engine) (s : State) : (spdEngineChange new s).cfg = s.cfg := by
  dsimp only [spdEngineChange]
  (repeat' split) <;> simp
@[simp] theorem spdEngineChange_pending (new : Engine) (s : State) : (spdEngineChange new s).pending = s.pending := by
  dsimp only [spdEngineChange]
  (repeat' split) <;> simp

/-! ### pruEngineChange -/

@[simp] theorem pruEngineChange_rsq (old new : Engine) (wasArmed : Bool) (s : State) : (pruEngineChange old new wasArmed s).rsq = s.rsq := by simp [pruEngineChange]
@[simp] theorem pruEngineChange_spd (old new : Engine) (wasArmed : Bool) (s : State) : (pruEngineChange old new wasArmed s).spd = s.spd := by simp [pruEngineChange]
@[simp] theorem pruEngineChange_ins (old new : Engine) (wasArmed : Bool) (s : State) : (pruEngineChange old new wasArmed s).ins = s.ins := by simp [pruEngineChange]
@[simp] theorem pruEngineChange_aut (old new : Engine) (wasArmed : Bool) (s : State) : (pruEngineChange old new wasArmed s).aut = s.aut := by simp [pruEngineChange]
@[simp] theorem pruEngineChange_ntu (old new : Engine) (wasArmed : Bool) (s : State) : (pruEngineChange old new wasArmed s).ntu = s.ntu := by simp [pruEngineChange]
@[simp] theorem pruEngineChange_iru (old new : Engine) (wasArmed : Bool) (s : State) : (pruEngineChange old new wasArmed s).iru = s.iru := by simp [pruEngineChange]
@[simp] theorem pruEngineChange_links (old new : Engine) (wasArmed : Bool) (s : State) : (pruEngineChange old new wasArmed s).links = s.links := by simp [pruEngineChange]
@[simp] theorem pruEngineChange_cfg (old new : Engine) (wasArmed : Bool) (s : State) : (pruEngineChange old new wasArmed s).cfg = s.cfg := by simp [pruEngineChange]
@[simp] theorem pruEngineChange_pending (old new : Engine) (wasArmed : Bool) (s : State) : (pruEngineChange old new wasArmed s).pending = s.pending := by simp [pruEngineChange]

/-! ### autEngineChange -/

@[simp] theorem autEngineChange_rsq (new : Engine) (s : State) : (autEngineChange new s).rsq = s.rsq := by
  dsimp only [autEngineChange]
  (repeat' split) <;> simp
@[simp] theorem autEngineChange_spd (new : Engine) (s : State) : (autEngineChange new s).spd = s.spd := by
  dsimp only [autEngineChange]
  (repeat' split) <;> simp
@[simp] theorem autEngineChange_ins (new : Engine) (s : State) : (autEngineChange new s).ins = s.ins := by
  dsimp only [autEngineChange]
  (repeat' split) <;> simp
@[simp] theorem autEngineChange_pru (new : Engine) (s : State) : (autEngineChange new s).pru = s.pru := by
  dsimp only [autEngineChange]
  (repeat' split) <;> simp
@[simp] theorem autEngineChange_ntu (new : Engine) (s : State) : (autEngineChange new s).ntu = s.ntu := by
  dsimp only [autEngineChange]
  (repeat' split) <;> simp
@[simp] theorem autEngineChange_iru (new : Engine) (s : State) : (autEngineChange new s).iru = s.iru := by
  dsimp only [autEngineChange]
  (repeat' split) <;> simp
@[simp] theorem autEngineChange_links (new : Engine) (s : State) : (autEngineChange new s).links = s.links := by
  dsimp only [autEngineChange]
  (repeat' split) <;> simp
@[simp] theorem autEngineChange_cfg (new : Engine) (s : State) : (autEngineChange new s).cfg = s.cfg := by
  dsimp only [autEngineChange]
  (repeat' split) <;> simp
@[simp] theorem autEngineChange_pending (new : Engine) (s : State) : (autEngineChange new s).pending = s.pending := by
  dsimp only [autEngineChange]
  (repeat' split) <;> simp

/-! ### changeEngine -/

@[simp] theorem changeEngine_ins (new : Engine) (s : State) : (changeEngine new s).ins = s.ins := by simp [changeEngine]
@[simp] theorem changeEngine_links (new : Engine) (s : State) : (changeEngine new s).links = s.links := by simp [changeEngine]
@[simp] theorem changeEngine_cfg (new : Engine) (s : State) : (changeEngine new s).cfg = s.cfg := by simp [changeEngine]
@[simp] theorem changeEngine_pending (new : Engine) (s : State) : (changeEngine new s).pending = s.pending := by simp [changeEngine]

/-! ### setStopCause -/

@[simp] theorem setStopCause_spd (c : StopCause) (s : State) : (setStopCause c s).spd = s.spd := by
  dsimp only [setStopCause]
  (repeat' split) <;> simp
@[simp] theorem setStopCause_ins (c : StopCause) (s : State) : (setStopCause c s).ins = s.ins := by
  dsimp only [setStopCause]
  (repeat' split) <;> simp
@[simp] theorem setStopCause_pru (c : StopCause) (s : State) : (setStopCause c s).pru = s.pru := by
  dsimp only [setStopCause]
  (repeat' split) <;> simp
@[simp] theorem setStopCause_aut (c : StopCause) (s : State) : (setStopCause c s).aut = s.aut := by
  dsimp only [setStopCause]
  (repeat' split) <;> simp
@[simp] theorem setStopCause_ntu (c : StopCause) (s : State) : (setStopCause c s).ntu = s.ntu := by
  dsimp only [setStopCause]
  (repeat' split) <;> simp
@[simp] theorem setStopCause_links (c : StopCause) (s : State) : (setStopCause c s).links = s.links := by
  dsimp only [setStopCause]
  (repeat' split) <;> simp
@[simp] theorem setStopCause_cfg (c : StopCause) (s : State) : (setStopCause c s).cfg = s.cfg := by
  dsimp only [setStopCause]
  (repeat' split) <;> simp
@[simp] theorem setStopCause_pending (c : StopCause) (s : State) : (setStopCause c s).pending = s.pending := by
  dsimp only [setStopCause]
  (repeat' split) <;> simp

/-! ### enterPrelube -/

@[simp] theorem enterPrelube_ins (s : State) : (enterPrelube s).ins = s.ins := by simp [enterPrelube]
@[simp] theorem enterPrelube_links (s : State) : (enterPrelube s).links = s.links := by simp [enterPrelube]
@[simp] theorem enterPrelube_cfg (s : State) : (enterPrelube s).cfg = s.cfg := by simp [enterPrelube]
@[simp] theorem enterPrelube_pending (s : State) : (enterPrelube s).pending = s.pending := by simp [enterPrelube]

/-! ### acceptStart -/

@[simp] theorem acceptStart_ins (k : StartKind) (s : State) : (acceptStart k s).ins = s.ins := by simp [acceptStart]
@[simp] theorem acceptStart_links (k : StartKind) (s : State) : (acceptStart k s).links = s.links := by simp [acceptStart]
@[simp] theorem acceptStart_cfg (k : StartKind) (s : State) : (acceptStart k s).cfg = s.cfg := by simp [acceptStart]
@[simp] theorem acceptStart_pending (k : StartKind) (s : State) : (acceptStart k s).pending = s.pending := by simp [acceptStart]

/-! ### noteRefusal -/

@[simp] theorem noteRefusal_spd (why : Reason) (s : State) : (noteRefusal why s).spd = s.spd := rfl
@[simp] theorem noteRefusal_ins (why : Reason) (s : State) : (noteRefusal why s).ins = s.ins := rfl
@[simp] theorem noteRefusal_pru (why : Reason) (s : State) : (noteRefusal why s).pru = s.pru := rfl
@[simp] theorem noteRefusal_aut (why : Reason) (s : State) : (noteRefusal why s).aut = s.aut := rfl
@[simp] theorem noteRefusal_ntu (why : Reason) (s : State) : (noteRefusal why s).ntu = s.ntu := rfl
@[simp] theorem noteRefusal_iru (why : Reason) (s : State) : (noteRefusal why s).iru = s.iru := rfl
@[simp] theorem noteRefusal_links (why : Reason) (s : State) : (noteRefusal why s).links = s.links := rfl
@[simp] theorem noteRefusal_cfg (why : Reason) (s : State) : (noteRefusal why s).cfg = s.cfg := rfl
@[simp] theorem noteRefusal_pending (why : Reason) (s : State) : (noteRefusal why s).pending = s.pending := rfl

/-! ### autoRestart -/

@[simp] theorem autoRestart_ins (s : State) : (autoRestart s).ins = s.ins := by
  dsimp only [autoRestart]
  (repeat' split) <;> simp
@[simp] theorem autoRestart_links (s : State) : (autoRestart s).links = s.links := by
  dsimp only [autoRestart]
  (repeat' split) <;> simp
@[simp] theorem autoRestart_cfg (s : State) : (autoRestart s).cfg = s.cfg := by
  dsimp only [autoRestart]
  (repeat' split) <;> simp
@[simp] theorem autoRestart_pending (s : State) : (autoRestart s).pending = s.pending := by
  dsimp only [autoRestart]
  (repeat' split) <;> simp

/-! ### comeToRest -/

@[simp] theorem comeToRest_ins (s : State) : (comeToRest s).ins = s.ins := by
  dsimp only [comeToRest]
  (repeat' split) <;> simp
@[simp] theorem comeToRest_links (s : State) : (comeToRest s).links = s.links := by
  dsimp only [comeToRest]
  (repeat' split) <;> simp
@[simp] theorem comeToRest_cfg (s : State) : (comeToRest s).cfg = s.cfg := by
  dsimp only [comeToRest]
  (repeat' split) <;> simp
@[simp] theorem comeToRest_pending (s : State) : (comeToRest s).pending = s.pending := by
  dsimp only [comeToRest]
  (repeat' split) <;> simp

/-! ### enterRundown -/

@[simp] theorem enterRundown_ins (s : State) : (enterRundown s).ins = s.ins := by simp [enterRundown]
@[simp] theorem enterRundown_links (s : State) : (enterRundown s).links = s.links := by simp [enterRundown]
@[simp] theorem enterRundown_cfg (s : State) : (enterRundown s).cfg = s.cfg := by simp [enterRundown]
@[simp] theorem enterRundown_pending (s : State) : (enterRundown s).pending = s.pending := by simp [enterRundown]

/-! ### toRest -/

@[simp] theorem toRest_ins (s : State) : (toRest s).ins = s.ins := by
  dsimp only [toRest]
  (repeat' split) <;> simp
@[simp] theorem toRest_links (s : State) : (toRest s).links = s.links := by
  dsimp only [toRest]
  (repeat' split) <;> simp
@[simp] theorem toRest_cfg (s : State) : (toRest s).cfg = s.cfg := by
  dsimp only [toRest]
  (repeat' split) <;> simp
@[simp] theorem toRest_pending (s : State) : (toRest s).pending = s.pending := by
  dsimp only [toRest]
  (repeat' split) <;> simp

/-! ### cutAttempt -/

@[simp] theorem cutAttempt_spd (o : CrankOutcome) (s : State) : (cutAttempt o s).spd = s.spd := by
  dsimp only [cutAttempt]
  (repeat' split) <;> simp
@[simp] theorem cutAttempt_ins (o : CrankOutcome) (s : State) : (cutAttempt o s).ins = s.ins := by
  dsimp only [cutAttempt]
  (repeat' split) <;> simp
@[simp] theorem cutAttempt_pru (o : CrankOutcome) (s : State) : (cutAttempt o s).pru = s.pru := by
  dsimp only [cutAttempt]
  (repeat' split) <;> simp
@[simp] theorem cutAttempt_aut (o : CrankOutcome) (s : State) : (cutAttempt o s).aut = s.aut := by
  dsimp only [cutAttempt]
  (repeat' split) <;> simp
@[simp] theorem cutAttempt_ntu (o : CrankOutcome) (s : State) : (cutAttempt o s).ntu = s.ntu := by
  dsimp only [cutAttempt]
  (repeat' split) <;> simp
@[simp] theorem cutAttempt_iru (o : CrankOutcome) (s : State) : (cutAttempt o s).iru = s.iru := by
  dsimp only [cutAttempt]
  (repeat' split) <;> simp
@[simp] theorem cutAttempt_links (o : CrankOutcome) (s : State) : (cutAttempt o s).links = s.links := by
  dsimp only [cutAttempt]
  (repeat' split) <;> simp
@[simp] theorem cutAttempt_cfg (o : CrankOutcome) (s : State) : (cutAttempt o s).cfg = s.cfg := by
  dsimp only [cutAttempt]
  (repeat' split) <;> simp
@[simp] theorem cutAttempt_pending (o : CrankOutcome) (s : State) : (cutAttempt o s).pending = s.pending := by
  dsimp only [cutAttempt]
  (repeat' split) <;> simp

/-! ### stopByProtection -/

@[simp] theorem stopByProtection_spd (s : State) : (stopByProtection s).spd = s.spd := by
  dsimp only [stopByProtection]
  (repeat' split) <;> simp
@[simp] theorem stopByProtection_ins (s : State) : (stopByProtection s).ins = s.ins := by
  dsimp only [stopByProtection]
  (repeat' split) <;> simp
@[simp] theorem stopByProtection_pru (s : State) : (stopByProtection s).pru = s.pru := by
  dsimp only [stopByProtection]
  (repeat' split) <;> simp
@[simp] theorem stopByProtection_aut (s : State) : (stopByProtection s).aut = s.aut := by
  dsimp only [stopByProtection]
  (repeat' split) <;> simp
@[simp] theorem stopByProtection_ntu (s : State) : (stopByProtection s).ntu = s.ntu := by
  dsimp only [stopByProtection]
  (repeat' split) <;> simp
@[simp] theorem stopByProtection_links (s : State) : (stopByProtection s).links = s.links := by
  dsimp only [stopByProtection]
  (repeat' split) <;> simp
@[simp] theorem stopByProtection_cfg (s : State) : (stopByProtection s).cfg = s.cfg := by
  dsimp only [stopByProtection]
  (repeat' split) <;> simp
@[simp] theorem stopByProtection_pending (s : State) : (stopByProtection s).pending = s.pending := by
  dsimp only [stopByProtection]
  (repeat' split) <;> simp

/-! ### noteProtection -/

@[simp] theorem noteProtection_spd (s : State) : (noteProtection s).spd = s.spd := by
  dsimp only [noteProtection]
  (repeat' split) <;> simp
@[simp] theorem noteProtection_ins (s : State) : (noteProtection s).ins = s.ins := by
  dsimp only [noteProtection]
  (repeat' split) <;> simp
@[simp] theorem noteProtection_pru (s : State) : (noteProtection s).pru = s.pru := by
  dsimp only [noteProtection]
  (repeat' split) <;> simp
@[simp] theorem noteProtection_aut (s : State) : (noteProtection s).aut = s.aut := by
  dsimp only [noteProtection]
  (repeat' split) <;> simp
@[simp] theorem noteProtection_ntu (s : State) : (noteProtection s).ntu = s.ntu := by
  dsimp only [noteProtection]
  (repeat' split) <;> simp
@[simp] theorem noteProtection_iru (s : State) : (noteProtection s).iru = s.iru := by
  dsimp only [noteProtection]
  (repeat' split) <;> simp
@[simp] theorem noteProtection_links (s : State) : (noteProtection s).links = s.links := by
  dsimp only [noteProtection]
  (repeat' split) <;> simp
@[simp] theorem noteProtection_cfg (s : State) : (noteProtection s).cfg = s.cfg := by
  dsimp only [noteProtection]
  (repeat' split) <;> simp
@[simp] theorem noteProtection_pending (s : State) : (noteProtection s).pending = s.pending := by
  dsimp only [noteProtection]
  (repeat' split) <;> simp

/-! ### takeShutdown -/

@[simp] theorem takeShutdown_ins (s : State) : (takeShutdown s).ins = s.ins := by
  dsimp only [takeShutdown]
  (repeat' split) <;> simp
@[simp] theorem takeShutdown_links (s : State) : (takeShutdown s).links = s.links := by
  dsimp only [takeShutdown]
  (repeat' split) <;> simp
@[simp] theorem takeShutdown_cfg (s : State) : (takeShutdown s).cfg = s.cfg := by
  dsimp only [takeShutdown]
  (repeat' split) <;> simp
@[simp] theorem takeShutdown_pending (s : State) : (takeShutdown s).pending = s.pending := by
  dsimp only [takeShutdown]
  (repeat' split) <;> simp

/-! ### takeLastLeft -/

@[simp] theorem takeLastLeft_ins (s : State) : (takeLastLeft s).ins = s.ins := by
  dsimp only [takeLastLeft]
  (repeat' split) <;> simp
@[simp] theorem takeLastLeft_links (s : State) : (takeLastLeft s).links = s.links := by
  dsimp only [takeLastLeft]
  (repeat' split) <;> simp
@[simp] theorem takeLastLeft_cfg (s : State) : (takeLastLeft s).cfg = s.cfg := by
  dsimp only [takeLastLeft]
  (repeat' split) <;> simp
@[simp] theorem takeLastLeft_pending (s : State) : (takeLastLeft s).pending = s.pending := by
  dsimp only [takeLastLeft]
  (repeat' split) <;> simp

/-! ### handOff -/

@[simp] theorem handOff_ins (before : Pru) (s : State) : (handOff before s).ins = s.ins := by
  dsimp only [handOff]
  (repeat' split) <;> simp
@[simp] theorem handOff_links (before : Pru) (s : State) : (handOff before s).links = s.links := by
  dsimp only [handOff]
  (repeat' split) <;> simp
@[simp] theorem handOff_cfg (before : Pru) (s : State) : (handOff before s).cfg = s.cfg := by
  dsimp only [handOff]
  (repeat' split) <;> simp
@[simp] theorem handOff_pending (before : Pru) (s : State) : (handOff before s).pending = s.pending := by
  dsimp only [handOff]
  (repeat' split) <;> simp

/-! ### pruEvent -/

@[simp] theorem pruEvent_ins (f : Pru → Pru) (s : State) : (pruEvent f s).ins = s.ins := by simp [pruEvent]
@[simp] theorem pruEvent_links (f : Pru → Pru) (s : State) : (pruEvent f s).links = s.links := by simp [pruEvent]
@[simp] theorem pruEvent_cfg (f : Pru → Pru) (s : State) : (pruEvent f s).cfg = s.cfg := by simp [pruEvent]
@[simp] theorem pruEvent_pending (f : Pru → Pru) (s : State) : (pruEvent f s).pending = s.pending := by simp [pruEvent]

/-! ### abandonStart -/

@[simp] theorem abandonStart_ins (why : Reason) (s : State) : (abandonStart why s).ins = s.ins := by simp [abandonStart]
@[simp] theorem abandonStart_links (why : Reason) (s : State) : (abandonStart why s).links = s.links := by simp [abandonStart]
@[simp] theorem abandonStart_cfg (why : Reason) (s : State) : (abandonStart why s).cfg = s.cfg := by simp [abandonStart]
@[simp] theorem abandonStart_pending (why : Reason) (s : State) : (abandonStart why s).pending = s.pending := by simp [abandonStart]

/-! ### failStart -/

@[simp] theorem failStart_ins (result : StartResult) (s : State) : (failStart result s).ins = s.ins := by simp [failStart]
@[simp] theorem failStart_links (result : StartResult) (s : State) : (failStart result s).links = s.links := by simp [failStart]
@[simp] theorem failStart_cfg (result : StartResult) (s : State) : (failStart result s).cfg = s.cfg := by simp [failStart]
@[simp] theorem failStart_pending (result : StartResult) (s : State) : (failStart result s).pending = s.pending := by simp [failStart]

/-! ### beginCranking -/

@[simp] theorem beginCranking_ins (s : State) : (beginCranking s).ins = s.ins := by simp [beginCranking]
@[simp] theorem beginCranking_links (s : State) : (beginCranking s).links = s.links := by simp [beginCranking]
@[simp] theorem beginCranking_cfg (s : State) : (beginCranking s).cfg = s.cfg := by simp [beginCranking]
@[simp] theorem beginCranking_pending (s : State) : (beginCranking s).pending = s.pending := by simp [beginCranking]

/-! ### enterCranking -/

@[simp] theorem enterCranking_ins (s : State) : (enterCranking s).ins = s.ins := by
  dsimp only [enterCranking]
  (repeat' split) <;> simp
@[simp] theorem enterCranking_links (s : State) : (enterCranking s).links = s.links := by
  dsimp only [enterCranking]
  (repeat' split) <;> simp
@[simp] theorem enterCranking_cfg (s : State) : (enterCranking s).cfg = s.cfg := by
  dsimp only [enterCranking]
  (repeat' split) <;> simp
@[simp] theorem enterCranking_pending (s : State) : (enterCranking s).pending = s.pending := by
  dsimp only [enterCranking]
  (repeat' split) <;> simp

/-! ### enterPriming -/

@[simp] theorem enterPriming_ins (s : State) : (enterPriming s).ins = s.ins := by
  dsimp only [enterPriming]
  (repeat' split) <;> simp
@[simp] theorem enterPriming_links (s : State) : (enterPriming s).links = s.links := by
  dsimp only [enterPriming]
  (repeat' split) <;> simp
@[simp] theorem enterPriming_cfg (s : State) : (enterPriming s).cfg = s.cfg := by
  dsimp only [enterPriming]
  (repeat' split) <;> simp
@[simp] theorem enterPriming_pending (s : State) : (enterPriming s).pending = s.pending := by
  dsimp only [enterPriming]
  (repeat' split) <;> simp

/-! ### failAttempt -/

@[simp] theorem failAttempt_ins (s : State) : (failAttempt s).ins = s.ins := by simp [failAttempt]
@[simp] theorem failAttempt_links (s : State) : (failAttempt s).links = s.links := by simp [failAttempt]
@[simp] theorem failAttempt_cfg (s : State) : (failAttempt s).cfg = s.cfg := by simp [failAttempt]
@[simp] theorem failAttempt_pending (s : State) : (failAttempt s).pending = s.pending := by simp [failAttempt]

/-! ### endAttempt -/

@[simp] theorem endAttempt_ins (o : CrankOutcome) (tenths : Nat) (s : State) : (endAttempt o tenths s).ins = s.ins := by simp [endAttempt]
@[simp] theorem endAttempt_links (o : CrankOutcome) (tenths : Nat) (s : State) : (endAttempt o tenths s).links = s.links := by simp [endAttempt]
@[simp] theorem endAttempt_cfg (o : CrankOutcome) (tenths : Nat) (s : State) : (endAttempt o tenths s).cfg = s.cfg := by simp [endAttempt]
@[simp] theorem endAttempt_pending (o : CrankOutcome) (tenths : Nat) (s : State) : (endAttempt o tenths s).pending = s.pending := by simp [endAttempt]

/-! ### endRest -/

@[simp] theorem endRest_ins (s : State) : (endRest s).ins = s.ins := by
  dsimp only [endRest]
  (repeat' split) <;> simp
@[simp] theorem endRest_links (s : State) : (endRest s).links = s.links := by
  dsimp only [endRest]
  (repeat' split) <;> simp
@[simp] theorem endRest_cfg (s : State) : (endRest s).cfg = s.cfg := by
  dsimp only [endRest]
  (repeat' split) <;> simp
@[simp] theorem endRest_pending (s : State) : (endRest s).pending = s.pending := by
  dsimp only [endRest]
  (repeat' split) <;> simp

/-! ### beginUnloading -/

@[simp] theorem beginUnloading_ins (c : StopCause) (s : State) : (beginUnloading c s).ins = s.ins := by simp [beginUnloading]
@[simp] theorem beginUnloading_links (c : StopCause) (s : State) : (beginUnloading c s).links = s.links := by simp [beginUnloading]
@[simp] theorem beginUnloading_cfg (c : StopCause) (s : State) : (beginUnloading c s).cfg = s.cfg := by simp [beginUnloading]
@[simp] theorem beginUnloading_pending (c : StopCause) (s : State) : (beginUnloading c s).pending = s.pending := by simp [beginUnloading]

/-! ### cancelStop -/

@[simp] theorem cancelStop_ins (s : State) : (cancelStop s).ins = s.ins := by simp [cancelStop]
@[simp] theorem cancelStop_links (s : State) : (cancelStop s).links = s.links := by simp [cancelStop]
@[simp] theorem cancelStop_cfg (s : State) : (cancelStop s).cfg = s.cfg := by simp [cancelStop]
@[simp] theorem cancelStop_pending (s : State) : (cancelStop s).pending = s.pending := by simp [cancelStop]

/-! ### holderStop -/

@[simp] theorem holderStop_ins (s : State) : (holderStop s).ins = s.ins := by
  dsimp only [holderStop]
  (repeat' split) <;> simp
@[simp] theorem holderStop_links (s : State) : (holderStop s).links = s.links := by
  dsimp only [holderStop]
  (repeat' split) <;> simp
@[simp] theorem holderStop_cfg (s : State) : (holderStop s).cfg = s.cfg := by
  dsimp only [holderStop]
  (repeat' split) <;> simp
@[simp] theorem holderStop_pending (s : State) : (holderStop s).pending = s.pending := by
  dsimp only [holderStop]
  (repeat' split) <;> simp

/-! ### autoStop -/

@[simp] theorem autoStop_ins (s : State) : (autoStop s).ins = s.ins := by
  dsimp only [autoStop]
  (repeat' split) <;> simp
@[simp] theorem autoStop_links (s : State) : (autoStop s).links = s.links := by
  dsimp only [autoStop]
  (repeat' split) <;> simp
@[simp] theorem autoStop_cfg (s : State) : (autoStop s).cfg = s.cfg := by
  dsimp only [autoStop]
  (repeat' split) <;> simp
@[simp] theorem autoStop_pending (s : State) : (autoStop s).pending = s.pending := by
  dsimp only [autoStop]
  (repeat' split) <;> simp

/-! ### autoStopCancel -/

@[simp] theorem autoStopCancel_ins (s : State) : (autoStopCancel s).ins = s.ins := by
  dsimp only [autoStopCancel]
  (repeat' split) <;> simp
@[simp] theorem autoStopCancel_links (s : State) : (autoStopCancel s).links = s.links := by
  dsimp only [autoStopCancel]
  (repeat' split) <;> simp
@[simp] theorem autoStopCancel_cfg (s : State) : (autoStopCancel s).cfg = s.cfg := by
  dsimp only [autoStopCancel]
  (repeat' split) <;> simp
@[simp] theorem autoStopCancel_pending (s : State) : (autoStopCancel s).pending = s.pending := by
  dsimp only [autoStopCancel]
  (repeat' split) <;> simp

/-! ### fuelOff -/

@[simp] theorem fuelOff_ins (s : State) : (fuelOff s).ins = s.ins := by
  dsimp only [fuelOff]
  (repeat' split) <;> simp
@[simp] theorem fuelOff_links (s : State) : (fuelOff s).links = s.links := by
  dsimp only [fuelOff]
  (repeat' split) <;> simp
@[simp] theorem fuelOff_cfg (s : State) : (fuelOff s).cfg = s.cfg := by
  dsimp only [fuelOff]
  (repeat' split) <;> simp
@[simp] theorem fuelOff_pending (s : State) : (fuelOff s).pending = s.pending := by
  dsimp only [fuelOff]
  (repeat' split) <;> simp

/-! ### watchTrigger -/

@[simp] theorem watchTrigger_ins (s : State) : (watchTrigger s).ins = s.ins := by
  dsimp only [watchTrigger]
  (repeat' split) <;> simp
@[simp] theorem watchTrigger_links (s : State) : (watchTrigger s).links = s.links := by
  dsimp only [watchTrigger]
  (repeat' split) <;> simp
@[simp] theorem watchTrigger_cfg (s : State) : (watchTrigger s).cfg = s.cfg := by
  dsimp only [watchTrigger]
  (repeat' split) <;> simp
@[simp] theorem watchTrigger_pending (s : State) : (watchTrigger s).pending = s.pending := by
  dsimp only [watchTrigger]
  (repeat' split) <;> simp

/-! ### demandArrival -/

@[simp] theorem demandArrival_ins (notch : Nat) (run : RunRequest) (s : State) : (demandArrival notch run s).ins = s.ins := by
  dsimp only [demandArrival]
  (repeat' split) <;> simp
@[simp] theorem demandArrival_links (notch : Nat) (run : RunRequest) (s : State) : (demandArrival notch run s).links = s.links := by
  dsimp only [demandArrival]
  (repeat' split) <;> simp
@[simp] theorem demandArrival_cfg (notch : Nat) (run : RunRequest) (s : State) : (demandArrival notch run s).cfg = s.cfg := by
  dsimp only [demandArrival]
  (repeat' split) <;> simp
@[simp] theorem demandArrival_pending (notch : Nat) (run : RunRequest) (s : State) : (demandArrival notch run s).pending = s.pending := by
  dsimp only [demandArrival]
  (repeat' split) <;> simp

/-! ### refreshE -/

@[simp] theorem refreshE_rsq (s : State) : (refreshE s).rsq = s.rsq := rfl
@[simp] theorem refreshE_spd (s : State) : (refreshE s).spd = s.spd := rfl
@[simp] theorem refreshE_ins (s : State) : (refreshE s).ins = s.ins := rfl
@[simp] theorem refreshE_pru (s : State) : (refreshE s).pru = s.pru := rfl
@[simp] theorem refreshE_aut (s : State) : (refreshE s).aut = s.aut := rfl
@[simp] theorem refreshE_iru (s : State) : (refreshE s).iru = s.iru := rfl
@[simp] theorem refreshE_links (s : State) : (refreshE s).links = s.links := rfl
@[simp] theorem refreshE_cfg (s : State) : (refreshE s).cfg = s.cfg := rfl
@[simp] theorem refreshE_pending (s : State) : (refreshE s).pending = s.pending := rfl

/-! ### refreshPermit -/

@[simp] theorem refreshPermit_rsq (s : State) : (refreshPermit s).rsq = s.rsq := by
  dsimp only [refreshPermit]
  (repeat' split) <;> simp
@[simp] theorem refreshPermit_spd (s : State) : (refreshPermit s).spd = s.spd := by
  dsimp only [refreshPermit]
  (repeat' split) <;> simp
@[simp] theorem refreshPermit_ins (s : State) : (refreshPermit s).ins = s.ins := by
  dsimp only [refreshPermit]
  (repeat' split) <;> simp
@[simp] theorem refreshPermit_pru (s : State) : (refreshPermit s).pru = s.pru := by
  dsimp only [refreshPermit]
  (repeat' split) <;> simp
@[simp] theorem refreshPermit_aut (s : State) : (refreshPermit s).aut = s.aut := by
  dsimp only [refreshPermit]
  (repeat' split) <;> simp
@[simp] theorem refreshPermit_iru (s : State) : (refreshPermit s).iru = s.iru := by
  dsimp only [refreshPermit]
  (repeat' split) <;> simp
@[simp] theorem refreshPermit_links (s : State) : (refreshPermit s).links = s.links := by
  dsimp only [refreshPermit]
  (repeat' split) <;> simp
@[simp] theorem refreshPermit_cfg (s : State) : (refreshPermit s).cfg = s.cfg := by
  dsimp only [refreshPermit]
  (repeat' split) <;> simp
@[simp] theorem refreshPermit_pending (s : State) : (refreshPermit s).pending = s.pending := by
  dsimp only [refreshPermit]
  (repeat' split) <;> simp

/-! ### refreshLowIdle -/

@[simp] theorem refreshLowIdle_rsq (s : State) : (refreshLowIdle s).rsq = s.rsq := by
  dsimp only [refreshLowIdle]
  (repeat' split) <;> simp
@[simp] theorem refreshLowIdle_spd (s : State) : (refreshLowIdle s).spd = s.spd := by
  dsimp only [refreshLowIdle]
  (repeat' split) <;> simp
@[simp] theorem refreshLowIdle_ins (s : State) : (refreshLowIdle s).ins = s.ins := by
  dsimp only [refreshLowIdle]
  (repeat' split) <;> simp
@[simp] theorem refreshLowIdle_pru (s : State) : (refreshLowIdle s).pru = s.pru := by
  dsimp only [refreshLowIdle]
  (repeat' split) <;> simp
@[simp] theorem refreshLowIdle_aut (s : State) : (refreshLowIdle s).aut = s.aut := by
  dsimp only [refreshLowIdle]
  (repeat' split) <;> simp
@[simp] theorem refreshLowIdle_iru (s : State) : (refreshLowIdle s).iru = s.iru := by
  dsimp only [refreshLowIdle]
  (repeat' split) <;> simp
@[simp] theorem refreshLowIdle_links (s : State) : (refreshLowIdle s).links = s.links := by
  dsimp only [refreshLowIdle]
  (repeat' split) <;> simp
@[simp] theorem refreshLowIdle_cfg (s : State) : (refreshLowIdle s).cfg = s.cfg := by
  dsimp only [refreshLowIdle]
  (repeat' split) <;> simp
@[simp] theorem refreshLowIdle_pending (s : State) : (refreshLowIdle s).pending = s.pending := by
  dsimp only [refreshLowIdle]
  (repeat' split) <;> simp

/-! ### judgeIdle -/

@[simp] theorem judgeIdle_rsq (s : State) : (judgeIdle s).rsq = s.rsq := by
  dsimp only [judgeIdle]
  (repeat' split) <;> simp
@[simp] theorem judgeIdle_spd (s : State) : (judgeIdle s).spd = s.spd := by
  dsimp only [judgeIdle]
  (repeat' split) <;> simp
@[simp] theorem judgeIdle_ins (s : State) : (judgeIdle s).ins = s.ins := by
  dsimp only [judgeIdle]
  (repeat' split) <;> simp
@[simp] theorem judgeIdle_pru (s : State) : (judgeIdle s).pru = s.pru := by
  dsimp only [judgeIdle]
  (repeat' split) <;> simp
@[simp] theorem judgeIdle_aut (s : State) : (judgeIdle s).aut = s.aut := by
  dsimp only [judgeIdle]
  (repeat' split) <;> simp
@[simp] theorem judgeIdle_ntu (s : State) : (judgeIdle s).ntu = s.ntu := by
  dsimp only [judgeIdle]
  (repeat' split) <;> simp
@[simp] theorem judgeIdle_links (s : State) : (judgeIdle s).links = s.links := by
  dsimp only [judgeIdle]
  (repeat' split) <;> simp
@[simp] theorem judgeIdle_cfg (s : State) : (judgeIdle s).cfg = s.cfg := by
  dsimp only [judgeIdle]
  (repeat' split) <;> simp
@[simp] theorem judgeIdle_pending (s : State) : (judgeIdle s).pending = s.pending := by
  dsimp only [judgeIdle]
  (repeat' split) <;> simp

/-! ### stepChannel -/

@[simp] theorem stepChannel_rsq (s : State) : (stepChannel s).rsq = s.rsq := by
  dsimp only [stepChannel]
  (repeat' split) <;> simp
@[simp] theorem stepChannel_spd (s : State) : (stepChannel s).spd = s.spd := by
  dsimp only [stepChannel]
  (repeat' split) <;> simp
@[simp] theorem stepChannel_ins (s : State) : (stepChannel s).ins = s.ins := by
  dsimp only [stepChannel]
  (repeat' split) <;> simp
@[simp] theorem stepChannel_pru (s : State) : (stepChannel s).pru = s.pru := by
  dsimp only [stepChannel]
  (repeat' split) <;> simp
@[simp] theorem stepChannel_aut (s : State) : (stepChannel s).aut = s.aut := by
  dsimp only [stepChannel]
  (repeat' split) <;> simp
@[simp] theorem stepChannel_iru (s : State) : (stepChannel s).iru = s.iru := by
  dsimp only [stepChannel]
  (repeat' split) <;> simp
@[simp] theorem stepChannel_links (s : State) : (stepChannel s).links = s.links := by
  dsimp only [stepChannel]
  (repeat' split) <;> simp
@[simp] theorem stepChannel_cfg (s : State) : (stepChannel s).cfg = s.cfg := by
  dsimp only [stepChannel]
  (repeat' split) <;> simp
@[simp] theorem stepChannel_pending (s : State) : (stepChannel s).pending = s.pending := by
  dsimp only [stepChannel]
  (repeat' split) <;> simp

/-! ### reportUnload -/

@[simp] theorem reportUnload_ins (s : State) : (reportUnload s).ins = s.ins := by
  dsimp only [reportUnload]
  (repeat' split) <;> simp
@[simp] theorem reportUnload_links (s : State) : (reportUnload s).links = s.links := by
  dsimp only [reportUnload]
  (repeat' split) <;> simp
@[simp] theorem reportUnload_cfg (s : State) : (reportUnload s).cfg = s.cfg := by
  dsimp only [reportUnload]
  (repeat' split) <;> simp
@[simp] theorem reportUnload_pending (s : State) : (reportUnload s).pending = s.pending := by
  dsimp only [reportUnload]
  (repeat' split) <;> simp

/-! ### settleInputs -/

@[simp] theorem settleInputs_rsq (s : State) : (settleInputs s).rsq = s.rsq := by simp [settleInputs]
@[simp] theorem settleInputs_spd (s : State) : (settleInputs s).spd = s.spd := by simp [settleInputs]
@[simp] theorem settleInputs_ins (s : State) : (settleInputs s).ins = s.ins := by simp [settleInputs]
@[simp] theorem settleInputs_pru (s : State) : (settleInputs s).pru = s.pru := by simp [settleInputs]
@[simp] theorem settleInputs_aut (s : State) : (settleInputs s).aut = s.aut := by simp [settleInputs]
@[simp] theorem settleInputs_links (s : State) : (settleInputs s).links = s.links := by simp [settleInputs]
@[simp] theorem settleInputs_cfg (s : State) : (settleInputs s).cfg = s.cfg := by simp [settleInputs]
@[simp] theorem settleInputs_pending (s : State) : (settleInputs s).pending = s.pending := by simp [settleInputs]

/-! ### settle -/

@[simp] theorem settle_ins (s0 : State) (test : Bool) (s : State) : (settle s0 test s).ins = s.ins := by
  dsimp only [settle]
  (repeat' split) <;> simp
@[simp] theorem settle_links (s0 : State) (test : Bool) (s : State) : (settle s0 test s).links = s.links := by
  dsimp only [settle]
  (repeat' split) <;> simp
@[simp] theorem settle_cfg (s0 : State) (test : Bool) (s : State) : (settle s0 test s).cfg = s.cfg := by
  dsimp only [settle]
  (repeat' split) <;> simp
@[simp] theorem settle_pending (s0 : State) (test : Bool) (s : State) : (settle s0 test s).pending = s.pending := by
  dsimp only [settle]
  (repeat' split) <;> simp

/-! ### trainlineChange -/

@[simp] theorem trainlineChange_ins (f : Trainline → Trainline) (s : State) : (trainlineChange f s).ins = s.ins := by simp [trainlineChange]
@[simp] theorem trainlineChange_links (f : Trainline → Trainline) (s : State) : (trainlineChange f s).links = s.links := by simp [trainlineChange]
@[simp] theorem trainlineChange_cfg (f : Trainline → Trainline) (s : State) : (trainlineChange f s).cfg = s.cfg := by simp [trainlineChange]
@[simp] theorem trainlineChange_pending (f : Trainline → Trainline) (s : State) : (trainlineChange f s).pending = s.pending := by simp [trainlineChange]

/-! ### advanceHandover -/

@[simp] theorem advanceHandover_rsq (s : State) : (advanceHandover s).rsq = s.rsq := rfl
@[simp] theorem advanceHandover_spd (s : State) : (advanceHandover s).spd = s.spd := rfl
@[simp] theorem advanceHandover_ins (s : State) : (advanceHandover s).ins = s.ins := rfl
@[simp] theorem advanceHandover_pru (s : State) : (advanceHandover s).pru = s.pru := rfl
@[simp] theorem advanceHandover_ntu (s : State) : (advanceHandover s).ntu = s.ntu := rfl
@[simp] theorem advanceHandover_iru (s : State) : (advanceHandover s).iru = s.iru := rfl
@[simp] theorem advanceHandover_links (s : State) : (advanceHandover s).links = s.links := rfl
@[simp] theorem advanceHandover_cfg (s : State) : (advanceHandover s).cfg = s.cfg := rfl
@[simp] theorem advanceHandover_pending (s : State) : (advanceHandover s).pending = s.pending := rfl

/-! ### trainlineYield -/

@[simp] theorem trainlineYield_rsq (s : State) : (trainlineYield s).rsq = s.rsq := by
  dsimp only [trainlineYield]
  (repeat' split) <;> simp
@[simp] theorem trainlineYield_spd (s : State) : (trainlineYield s).spd = s.spd := by
  dsimp only [trainlineYield]
  (repeat' split) <;> simp
@[simp] theorem trainlineYield_ins (s : State) : (trainlineYield s).ins = s.ins := by
  dsimp only [trainlineYield]
  (repeat' split) <;> simp
@[simp] theorem trainlineYield_pru (s : State) : (trainlineYield s).pru = s.pru := by
  dsimp only [trainlineYield]
  (repeat' split) <;> simp
@[simp] theorem trainlineYield_ntu (s : State) : (trainlineYield s).ntu = s.ntu := by
  dsimp only [trainlineYield]
  (repeat' split) <;> simp
@[simp] theorem trainlineYield_iru (s : State) : (trainlineYield s).iru = s.iru := by
  dsimp only [trainlineYield]
  (repeat' split) <;> simp
@[simp] theorem trainlineYield_links (s : State) : (trainlineYield s).links = s.links := by
  dsimp only [trainlineYield]
  (repeat' split) <;> simp
@[simp] theorem trainlineYield_cfg (s : State) : (trainlineYield s).cfg = s.cfg := by
  dsimp only [trainlineYield]
  (repeat' split) <;> simp
@[simp] theorem trainlineYield_pending (s : State) : (trainlineYield s).pending = s.pending := by
  dsimp only [trainlineYield]
  (repeat' split) <;> simp

/-! ### discreteChanged -/

@[simp] theorem discreteChanged_ins (d : Discrete) (v : Bool) (s : State) : (discreteChanged d v s).ins = s.ins := by
  dsimp only [discreteChanged]
  (repeat' split) <;> simp
@[simp] theorem discreteChanged_links (d : Discrete) (v : Bool) (s : State) : (discreteChanged d v s).links = s.links := by
  dsimp only [discreteChanged]
  (repeat' split) <;> simp
@[simp] theorem discreteChanged_cfg (d : Discrete) (v : Bool) (s : State) : (discreteChanged d v s).cfg = s.cfg := by
  dsimp only [discreteChanged]
  (repeat' split) <;> simp
@[simp] theorem discreteChanged_pending (d : Discrete) (v : Bool) (s : State) : (discreteChanged d v s).pending = s.pending := by
  dsimp only [discreteChanged]
  (repeat' split) <;> simp

/-! ### forceDiscrete -/

@[simp] theorem forceDiscrete_links (d : Discrete) (v : Option Bool) (s : State) : (forceDiscrete d v s).links = s.links := by
  dsimp only [forceDiscrete]
  (repeat' split) <;> simp
@[simp] theorem forceDiscrete_cfg (d : Discrete) (v : Option Bool) (s : State) : (forceDiscrete d v s).cfg = s.cfg := by
  dsimp only [forceDiscrete]
  (repeat' split) <;> simp
@[simp] theorem forceDiscrete_pending (d : Discrete) (v : Option Bool) (s : State) : (forceDiscrete d v s).pending = s.pending := by
  dsimp only [forceDiscrete]
  (repeat' split) <;> simp

@[simp] theorem forceDiscrete_scanNext (d : Discrete) (v : Option Bool) (s : State) :
    (forceDiscrete d v s).ins.scanNext = s.ins.scanNext := by
  dsimp only [forceDiscrete]
  (repeat' split) <;> simp

/-! ### forceChannel -/

@[simp] theorem forceChannel_scanNext (c : Channel) (v : Option Int) (s : State) :
    (forceChannel c v s).ins.scanNext = s.ins.scanNext := by simp [forceChannel]

@[simp] theorem forceChannel_rsq (c : Channel) (v : Option Int) (s : State) : (forceChannel c v s).rsq = s.rsq := rfl
@[simp] theorem forceChannel_spd (c : Channel) (v : Option Int) (s : State) : (forceChannel c v s).spd = s.spd := rfl
@[simp] theorem forceChannel_pru (c : Channel) (v : Option Int) (s : State) : (forceChannel c v s).pru = s.pru := rfl
@[simp] theorem forceChannel_aut (c : Channel) (v : Option Int) (s : State) : (forceChannel c v s).aut = s.aut := rfl
@[simp] theorem forceChannel_ntu (c : Channel) (v : Option Int) (s : State) : (forceChannel c v s).ntu = s.ntu := rfl
@[simp] theorem forceChannel_iru (c : Channel) (v : Option Int) (s : State) : (forceChannel c v s).iru = s.iru := rfl
@[simp] theorem forceChannel_links (c : Channel) (v : Option Int) (s : State) : (forceChannel c v s).links = s.links := rfl
@[simp] theorem forceChannel_cfg (c : Channel) (v : Option Int) (s : State) : (forceChannel c v s).cfg = s.cfg := rfl
@[simp] theorem forceChannel_pending (c : Channel) (v : Option Int) (s : State) : (forceChannel c v s).pending = s.pending := rfl

/-! ### forceSpeed -/

@[simp] theorem forceSpeed_rsq (v : Option Nat) (s : State) : (forceSpeed v s).rsq = s.rsq := rfl
@[simp] theorem forceSpeed_ins (v : Option Nat) (s : State) : (forceSpeed v s).ins = s.ins := rfl
@[simp] theorem forceSpeed_pru (v : Option Nat) (s : State) : (forceSpeed v s).pru = s.pru := rfl
@[simp] theorem forceSpeed_aut (v : Option Nat) (s : State) : (forceSpeed v s).aut = s.aut := rfl
@[simp] theorem forceSpeed_ntu (v : Option Nat) (s : State) : (forceSpeed v s).ntu = s.ntu := rfl
@[simp] theorem forceSpeed_iru (v : Option Nat) (s : State) : (forceSpeed v s).iru = s.iru := rfl
@[simp] theorem forceSpeed_links (v : Option Nat) (s : State) : (forceSpeed v s).links = s.links := rfl
@[simp] theorem forceSpeed_cfg (v : Option Nat) (s : State) : (forceSpeed v s).cfg = s.cfg := rfl
@[simp] theorem forceSpeed_pending (v : Option Nat) (s : State) : (forceSpeed v s).pending = s.pending := rfl

/-! ### forceWires -/

@[simp] theorem forceWires_ins (v : Option WireLevels) (s : State) : (forceWires v s).ins = s.ins := by simp [forceWires]
@[simp] theorem forceWires_links (v : Option WireLevels) (s : State) : (forceWires v s).links = s.links := by simp [forceWires]
@[simp] theorem forceWires_cfg (v : Option WireLevels) (s : State) : (forceWires v s).cfg = s.cfg := by simp [forceWires]
@[simp] theorem forceWires_pending (v : Option WireLevels) (s : State) : (forceWires v s).pending = s.pending := by simp [forceWires]

/-! ### releaseInputs -/

@[simp] theorem releaseInputs_links (s : State) : (releaseInputs s).links = s.links := by simp [releaseInputs]
@[simp] theorem releaseInputs_cfg (s : State) : (releaseInputs s).cfg = s.cfg := by simp [releaseInputs]
@[simp] theorem releaseInputs_pending (s : State) : (releaseInputs s).pending = s.pending := by simp [releaseInputs]

/-! ### clearForcesAndMasks -/

@[simp] theorem clearForcesAndMasks_scanNext (s : State) :
    (clearForcesAndMasks s).ins.scanNext = s.ins.scanNext := by simp [clearForcesAndMasks, releaseInputs]
@[simp] theorem clearForcesAndMasks_links (s : State) : (clearForcesAndMasks s).links = s.links := by simp [clearForcesAndMasks]
@[simp] theorem clearForcesAndMasks_cfg (s : State) : (clearForcesAndMasks s).cfg = s.cfg := by simp [clearForcesAndMasks]
@[simp] theorem clearForcesAndMasks_pending (s : State) : (clearForcesAndMasks s).pending = s.pending := by simp [clearForcesAndMasks]

/-! ### afterHolderChange -/

@[simp] theorem afterHolderChange_links (old : Option Source) (s : State) : (afterHolderChange old s).links = s.links := by
  dsimp only [afterHolderChange]
  (repeat' split) <;> simp
@[simp] theorem afterHolderChange_cfg (old : Option Source) (s : State) : (afterHolderChange old s).cfg = s.cfg := by
  dsimp only [afterHolderChange]
  (repeat' split) <;> simp
@[simp] theorem afterHolderChange_pending (old : Option Source) (s : State) : (afterHolderChange old s).pending = s.pending := by
  dsimp only [afterHolderChange]
  (repeat' split) <;> simp

/-! ### trainlineEvent -/

@[simp] theorem trainlineEvent_links (f : Trainline → Trainline) (s : State) : (trainlineEvent f s).links = s.links := by
  dsimp only [trainlineEvent]
  (repeat' split) <;> simp
@[simp] theorem trainlineEvent_cfg (f : Trainline → Trainline) (s : State) : (trainlineEvent f s).cfg = s.cfg := by
  dsimp only [trainlineEvent]
  (repeat' split) <;> simp
@[simp] theorem trainlineEvent_pending (f : Trainline → Trainline) (s : State) : (trainlineEvent f s).pending = s.pending := by
  dsimp only [trainlineEvent]
  (repeat' split) <;> simp

/-! ### grantLink -/

@[simp] theorem grantLink_links (l : Link) (s : State) : (grantLink l s).links = s.links := by simp [grantLink]
@[simp] theorem grantLink_cfg (l : Link) (s : State) : (grantLink l s).cfg = s.cfg := by simp [grantLink]
@[simp] theorem grantLink_pending (l : Link) (s : State) : (grantLink l s).pending = s.pending := by simp [grantLink]

/-! ### releaseHolder -/

@[simp] theorem releaseHolder_links (s : State) : (releaseHolder s).links = s.links := by simp [releaseHolder]
@[simp] theorem releaseHolder_cfg (s : State) : (releaseHolder s).cfg = s.cfg := by simp [releaseHolder]
@[simp] theorem releaseHolder_pending (s : State) : (releaseHolder s).pending = s.pending := by simp [releaseHolder]

/-! ### lapse -/

@[simp] theorem lapse_links (l : Link) (s : State) : (lapse l s).links = s.links := by simp [lapse]
@[simp] theorem lapse_cfg (l : Link) (s : State) : (lapse l s).cfg = s.cfg := by simp [lapse]
@[simp] theorem lapse_pending (l : Link) (s : State) : (lapse l s).pending = s.pending := by simp [lapse]

/-! ### leaveActive -/

@[simp] theorem leaveActive_links (l : Link) (st : LinkState) (s : State) : (leaveActive l st s).links = s.links := by
  dsimp only [leaveActive]
  (repeat' split) <;> simp
@[simp] theorem leaveActive_cfg (l : Link) (st : LinkState) (s : State) : (leaveActive l st s).cfg = s.cfg := by
  dsimp only [leaveActive]
  (repeat' split) <;> simp
@[simp] theorem leaveActive_pending (l : Link) (st : LinkState) (s : State) : (leaveActive l st s).pending = s.pending := by
  dsimp only [leaveActive]
  (repeat' split) <;> simp

/-! ### rejudgeAttn -/

@[simp] theorem rejudgeAttn_rsq (s : State) : (rejudgeAttn s).rsq = s.rsq := rfl
@[simp] theorem rejudgeAttn_spd (s : State) : (rejudgeAttn s).spd = s.spd := rfl
@[simp] theorem rejudgeAttn_ins (s : State) : (rejudgeAttn s).ins = s.ins := rfl
@[simp] theorem rejudgeAttn_pru (s : State) : (rejudgeAttn s).pru = s.pru := rfl
@[simp] theorem rejudgeAttn_aut (s : State) : (rejudgeAttn s).aut = s.aut := rfl
@[simp] theorem rejudgeAttn_ntu (s : State) : (rejudgeAttn s).ntu = s.ntu := rfl
@[simp] theorem rejudgeAttn_iru (s : State) : (rejudgeAttn s).iru = s.iru := rfl
@[simp] theorem rejudgeAttn_cfg (s : State) : (rejudgeAttn s).cfg = s.cfg := rfl
@[simp] theorem rejudgeAttn_pending (s : State) : (rejudgeAttn s).pending = s.pending := rfl

/-! ### finish -/

@[simp] theorem finish_ins (s0 : State) (test : Bool) (s : State) : (finish s0 test s).ins = s.ins := by simp [finish]
@[simp] theorem finish_cfg (s0 : State) (test : Bool) (s : State) : (finish s0 test s).cfg = s.cfg := by simp [finish]
@[simp] theorem finish_pending (s0 : State) (test : Bool) (s : State) : (finish s0 test s).pending = s.pending := by simp [finish]

/-! ### sendReply -/

@[simp] theorem sendReply_rsq (l : Link) (f : Frame) (r : Result) (payload : List Byte) (s : State) : (sendReply l f r payload s).rsq = s.rsq := rfl
@[simp] theorem sendReply_spd (l : Link) (f : Frame) (r : Result) (payload : List Byte) (s : State) : (sendReply l f r payload s).spd = s.spd := rfl
@[simp] theorem sendReply_ins (l : Link) (f : Frame) (r : Result) (payload : List Byte) (s : State) : (sendReply l f r payload s).ins = s.ins := rfl
@[simp] theorem sendReply_pru (l : Link) (f : Frame) (r : Result) (payload : List Byte) (s : State) : (sendReply l f r payload s).pru = s.pru := rfl
@[simp] theorem sendReply_aut (l : Link) (f : Frame) (r : Result) (payload : List Byte) (s : State) : (sendReply l f r payload s).aut = s.aut := rfl
@[simp] theorem sendReply_ntu (l : Link) (f : Frame) (r : Result) (payload : List Byte) (s : State) : (sendReply l f r payload s).ntu = s.ntu := rfl
@[simp] theorem sendReply_iru (l : Link) (f : Frame) (r : Result) (payload : List Byte) (s : State) : (sendReply l f r payload s).iru = s.iru := rfl
@[simp] theorem sendReply_cfg (l : Link) (f : Frame) (r : Result) (payload : List Byte) (s : State) : (sendReply l f r payload s).cfg = s.cfg := rfl
@[simp] theorem sendReply_pending (l : Link) (f : Frame) (r : Result) (payload : List Byte) (s : State) : (sendReply l f r payload s).pending = s.pending := rfl

/-! ### A conversion and the scan (R57) -/

/-- A conversion out of turn changes nothing. -/
theorem execConversion_out_of_turn {c : Channel} {s : State} (raw : BitVec 12) (h : s.ins.scanNext ≠ c) :
    execConversion c raw s = .next s := by simp [execConversion, h]

/-- A conversion in its turn moves its channel's record, and the scan to the next channel, before it is reported and handed
on. -/
theorem execConversion_in_turn {c : Channel} {s : State} (raw : BitVec 12) (h : s.ins.scanNext = c) :
    execConversion c raw s =
      .next (finish s false
        (handOn c (reportSensorRange (s.mapIns (Ins.converted s.cfg.active c raw.toNat))))) := by
  simp [execConversion, h]

end Sys2Proof.Machine
end

