-- ==== Sys2Proof/Laws/Engine.lean ====
section
/-! SUPPORT. What a change of engine state does to RSQ, AUT and PRU, and what the end of an event does outside
UNLOADING. -/

namespace Sys2Proof.Machine

/-! ### The end of an event (R141, R145, R148) -/

/-- Outside UNLOADING there is no unload-complete report. -/
theorem reportUnload_of_ne {s : State} (h : s.rsq.engine ≠ .unloading) : reportUnload s = s := by
  simp [reportUnload, h]

/-- Outside UNLOADING the end of an event changes only NTU and IRU. -/
theorem settle_of_ne {s0 s : State} {test : Bool} (h : s.rsq.engine ≠ .unloading) :
    (settle s0 test s).rsq = s.rsq ∧ (settle s0 test s).spd = s.spd ∧ (settle s0 test s).pru = s.pru ∧
      (settle s0 test s).aut = s.aut := by
  dsimp only [settle]
  split <;> (rw [reportUnload_of_ne (by simpa using h)]; simp)

theorem finish_of_ne {s0 s : State} {test : Bool} (h : s.rsq.engine ≠ .unloading) :
    (finish s0 test s).rsq = s.rsq ∧ (finish s0 test s).spd = s.spd ∧ (finish s0 test s).pru = s.pru ∧
      (finish s0 test s).aut = s.aut := by
  simpa [finish, rejudgeAttn] using settle_of_ne h

/-- The end of an event leaves every link interface alone but for ATTN. -/
theorem finish_links (s0 s : State) (test : Bool) :
    (finish s0 test s).links = (rejudgeAttn (settle s0 test s)).links := rfl

/-! ### RSQ at a change of engine state (R2) -/

/-- RSQ after a change of engine state: what entering the state makes of it, restart pending perhaps set by IRU. -/
theorem changeEngine_rsq_eq (new : Engine) (s : State) :
    ∃ b : Bool, (changeEngine new s).rsq = { enterState new s.rsq with restartPending := b } := by
  simp only [changeEngine]
  unfold iruEngineChange
  refine ⟨(iruEngineChange s.rsq.engine new (ntuEngineChange s.rsq.engine new (autEngineChange new
    (pruEngineChange s.rsq.engine new s.rsq.lubeArmed
      (spdEngineChange new (s.mapRsq (enterState new))))))).rsq.restartPending, ?_⟩
  unfold iruEngineChange
  (repeat' split) <;> simp [handRestartTrigger, noteRestart] <;> (try split) <;> simp_all

@[simp] theorem changeEngine_startKind (new : Engine) (s : State) :
    (changeEngine new s).rsq.startKind = s.rsq.startKind := by
  obtain ⟨b, h⟩ := changeEngine_rsq_eq new s
  rw [h]; rfl

@[simp] theorem changeEngine_cold (new : Engine) (s : State) :
    (changeEngine new s).rsq.cold = s.rsq.cold := by
  obtain ⟨b, h⟩ := changeEngine_rsq_eq new s
  rw [h]; rfl

@[simp] theorem changeEngine_attempt (new : Engine) (s : State) :
    (changeEngine new s).rsq.attempt = s.rsq.attempt := by
  obtain ⟨b, h⟩ := changeEngine_rsq_eq new s
  rw [h]; rfl

@[simp] theorem changeEngine_startResult (new : Engine) (s : State) :
    (changeEngine new s).rsq.startResult = s.rsq.startResult := by
  obtain ⟨b, h⟩ := changeEngine_rsq_eq new s
  rw [h]; rfl

@[simp] theorem changeEngine_startReason (new : Engine) (s : State) :
    (changeEngine new s).rsq.startReason = s.rsq.startReason := by
  obtain ⟨b, h⟩ := changeEngine_rsq_eq new s
  rw [h]; rfl

@[simp] theorem changeEngine_stopCause (new : Engine) (s : State) :
    (changeEngine new s).rsq.stopCause = s.rsq.stopCause := by
  obtain ⟨b, h⟩ := changeEngine_rsq_eq new s
  rw [h]; rfl

@[simp] theorem changeEngine_crankFuelLatch (new : Engine) (s : State) :
    (changeEngine new s).rsq.crankFuelLatch = s.rsq.crankFuelLatch := by
  obtain ⟨b, h⟩ := changeEngine_rsq_eq new s
  rw [h]; rfl

@[simp] theorem changeEngine_zeroConfirmed (new : Engine) (s : State) :
    (changeEngine new s).rsq.zeroConfirmed = s.rsq.zeroConfirmed := by
  obtain ⟨b, h⟩ := changeEngine_rsq_eq new s
  rw [h]; rfl

@[simp] theorem changeEngine_minute (new : Engine) (s : State) :
    (changeEngine new s).rsq.minute = s.rsq.minute := by
  obtain ⟨b, h⟩ := changeEngine_rsq_eq new s
  rw [h]; rfl

@[simp] theorem changeEngine_history (new : Engine) (s : State) :
    (changeEngine new s).rsq.history = s.rsq.history := by
  obtain ⟨b, h⟩ := changeEngine_rsq_eq new s
  rw [h]; rfl

@[simp] theorem changeEngine_budget (new : Engine) (s : State) :
    (changeEngine new s).rsq.budget = s.rsq.budget := by
  obtain ⟨b, h⟩ := changeEngine_rsq_eq new s
  rw [h]; rfl

@[simp] theorem changeEngine_counters (new : Engine) (s : State) :
    (changeEngine new s).rsq.counters = s.rsq.counters := by
  obtain ⟨b, h⟩ := changeEngine_rsq_eq new s
  rw [h]; rfl

@[simp] theorem changeEngine_engine (new : Engine) (s : State) :
    (changeEngine new s).rsq.engine = new := by
  obtain ⟨b, h⟩ := changeEngine_rsq_eq new s
  rw [h]; rfl

@[simp] theorem changeEngine_prelubePump (new : Engine) (s : State) :
    (changeEngine new s).rsq.prelubePump = prelubePumpIn new := by
  obtain ⟨b, h⟩ := changeEngine_rsq_eq new s
  rw [h]; rfl

@[simp] theorem changeEngine_fuelPump (new : Engine) (s : State) :
    (changeEngine new s).rsq.fuelPump = fuelPumpIn new := by
  obtain ⟨b, h⟩ := changeEngine_rsq_eq new s
  rw [h]; rfl

@[simp] theorem changeEngine_starter (new : Engine) (s : State) :
    (changeEngine new s).rsq.starter = starterIn new := by
  obtain ⟨b, h⟩ := changeEngine_rsq_eq new s
  rw [h]; rfl

@[simp] theorem changeEngine_fuelEnable (new : Engine) (s : State) :
    (changeEngine new s).rsq.fuelEnable = fuelEnableIn new s.rsq.crankFuelLatch := by
  obtain ⟨b, h⟩ := changeEngine_rsq_eq new s
  rw [h]; rfl

@[simp] theorem changeEngine_lubeArmed (new : Engine) (s : State) :
    (changeEngine new s).rsq.lubeArmed = (s.rsq.lubeArmed && fuelEnableIn new s.rsq.crankFuelLatch) := by
  obtain ⟨b, h⟩ := changeEngine_rsq_eq new s
  rw [h]; rfl

@[simp] theorem changeEngine_timers (new : Engine) (s : State) :
    (changeEngine new s).rsq.timers = { stoppedTimers with lubeArming := if fuelEnableIn new s.rsq.crankFuelLatch then s.rsq.timers.lubeArming else none } := by
  obtain ⟨b, h⟩ := changeEngine_rsq_eq new s
  rw [h]; rfl

/-! ### AUT at a change of engine state: only a handover to SERVICE can end (R132) -/

@[simp] theorem endHandover_holder (o : ClaimOutcome) (s : State) : (endHandover o s).aut.holder = s.aut.holder := by
  unfold endHandover
  split <;> simp

@[simp] theorem endHandover_trainline (o : ClaimOutcome) (s : State) : (endHandover o s).aut.trainline = s.aut.trainline := by
  unfold endHandover
  split <;> simp

@[simp] theorem endHandover_nextNumber (o : ClaimOutcome) (s : State) : (endHandover o s).aut.nextNumber = s.aut.nextNumber := by
  unfold endHandover
  split <;> simp

@[simp] theorem autEngineChange_holder (new : Engine) (s : State) : (autEngineChange new s).aut.holder = s.aut.holder := by
  unfold autEngineChange
  (repeat' split) <;> simp

@[simp] theorem autEngineChange_trainline (new : Engine) (s : State) : (autEngineChange new s).aut.trainline = s.aut.trainline := by
  unfold autEngineChange
  (repeat' split) <;> simp

@[simp] theorem autEngineChange_nextNumber (new : Engine) (s : State) : (autEngineChange new s).aut.nextNumber = s.aut.nextNumber := by
  unfold autEngineChange
  (repeat' split) <;> simp

@[simp] theorem changeEngine_holder (new : Engine) (s : State) : (changeEngine new s).aut.holder = s.aut.holder := by
  simp [changeEngine]

@[simp] theorem changeEngine_trainline (new : Engine) (s : State) : (changeEngine new s).aut.trainline = s.aut.trainline := by
  simp [changeEngine]

@[simp] theorem changeEngine_nextNumber (new : Engine) (s : State) : (changeEngine new s).aut.nextNumber = s.aut.nextNumber := by
  simp [changeEngine]

/-- A change of engine state leaves AUT alone where no handover is in flight. -/
theorem changeEngine_aut_of_none (new : Engine) {s : State} (h : s.aut.handover = none) :
    (changeEngine new s).aut = s.aut := by
  simp [changeEngine, autEngineChange, h]

/-! ### PRU at a change of engine state (R80, R81) -/

/-- A condition set or cleared changes no entry but its own. -/
theorem setCondition_other (v : Bool) (p : Pru) {d e : Entry} (h : d ≠ e) :
    (setCondition e v p).entry d = p.entry d := by
  simp [setCondition, Pru.entry_setEntry_other, h]

theorem withdrawCondition_other (p : Pru) {d e : Entry} (h : d ≠ e) :
    (withdrawCondition e p).entry d = p.entry d := by
  simp [withdrawCondition, Pru.entry_setEntry_other, setCondition_other, h]

theorem judge_other (a b : Bool) (t : Option Nat) (p : Pru) {d e : Entry} (h : d ≠ e) :
    (judge e a b t p).entry d = p.entry d := by
  unfold judge
  (repeat' split) <;> simp [setCondition_other, Pru.entry_setEntry_other, h] <;>
    (repeat' split) <;> simp [setCondition_other, Pru.entry_setEntry_other, h]

@[simp] theorem ringBell_entry (p : Pru) (e : Entry) : (ringBell p).entry e = p.entry e := rfl

/-- A change of engine state touches no entry but 4, 8 and 9. -/
theorem changeEngine_entry (new : Engine) (s : State) {e : Entry} (h4 : e ≠ 4) (h8 : e ≠ 8) (h9 : e ≠ 9) :
    (changeEngine new s).pru.entry e = s.pru.entry e := by
  simp only [changeEngine, iruEngineChange_pru, ntuEngineChange_pru, autEngineChange_pru, pruEngineChange,
    State.mapPru_pru, spdEngineChange_pru, State.mapRsq_pru, ringBell_entry]
  split
  · rw [withdrawCondition_other _ h9, withdrawCondition_other _ h8]
    split <;> simp [withdrawCondition_other, h4]
  · split
    · rw [judge_other _ _ _ _ h9, judge_other _ _ _ _ h8]
      split <;> simp [withdrawCondition_other, h4]
    · split <;> simp [withdrawCondition_other, h4]

/-- Withdrawing the condition of a latching entry neither takes it into service nor out of it. -/
theorem withdrawCondition_inService (p : Pru) (e : Entry) (h : latching e = true) :
    ((withdrawCondition e p).entry e).inService = (p.entry e).inService := by
  simp only [withdrawCondition, setCondition, Pru.entry_setEntry_same, EntryRec.withCondition, h]
  cases hs : (p.entry e).state <;> cases hc : (p.entry e).condition <;> simp [EntryRec.inService, hs]

/-- A change of engine state takes no SHUTDOWN entry into service or out of it. -/
theorem changeEngine_inService (new : Engine) (s : State) {e : Entry} (h : classOf e = .shutdown) :
    ((changeEngine new s).pru.entry e).inService = (s.pru.entry e).inService := by
  have h5 : e.val ≤ 5 := by
    by_contra w
    simp only [classOf, w, if_false] at h
    split at h
    · cases h
    · split at h
      · cases h
      · split at h <;> cases h
  have h8 : e ≠ 8 := by rintro rfl; simp at h5
  have h9 : e ≠ 9 := by rintro rfl; simp at h5
  by_cases h4 : e = 4
  · subst h4
    simp only [changeEngine, iruEngineChange_pru, ntuEngineChange_pru, autEngineChange_pru, pruEngineChange,
      State.mapPru_pru, spdEngineChange_pru, State.mapRsq_pru, ringBell_entry]
    have hl : ∀ p : Pru, ((withdrawCondition 4 p).entry 4).inService = (p.entry 4).inService := fun p =>
      withdrawCondition_inService p 4 rfl
    split
    · rw [withdrawCondition_other _ (by decide), withdrawCondition_other _ (by decide)]
      split <;> simp [hl]
    · split
      · rw [judge_other _ _ _ _ (by decide), judge_other _ _ _ _ (by decide)]
        split <;> simp [hl]
      · split <;> simp [hl]
  · rw [changeEngine_entry new s h4 h8 h9]

/-- A change of engine state leaves the answer to "is any SHUTDOWN entry in service" alone. -/
theorem changeEngine_shutdownInService (new : Engine) (s : State) :
    (changeEngine new s).pru.shutdownInService = s.pru.shutdownInService := by
  unfold Pru.shutdownInService
  congr 1
  funext e
  by_cases h : classOf e = .shutdown
  · rw [changeEngine_inService new s h]
  · simp [h]

end Sys2Proof.Machine
end

