-- ==== Sys2Proof/Laws/Line.lean ====
section
/-! SUPPORT. What the receiver of a line does with a whole frame, and with inputs that follow one another (R167). -/

namespace Sys2Proof.Machine

/-- Bytes before the first SYNC are ignored. -/
theorem receiveLine_noise (noise bytes : List Byte) (h : syncByte ∉ noise) :
    receiveLine (noise ++ bytes) = receiveLine bytes := by
  induction noise with
  | nil => rfl
  | cons b noise ih =>
    obtain ⟨hb, hn⟩ := not_or.mp (mt List.mem_cons.mpr h)
    simpa [receiveLine, LineState.receive, LineState.byte, Ne.symm hb] using ih hn

/-- The bytes a frame in progress still waits for bring its judgement. -/
theorem LineState.receive_collecting (n : Byte) (bytes rest received : List Byte)
    (h : received.length + bytes.length = n.toNat + 2) (hb : bytes ≠ []) :
    (LineState.collecting n received).receive (bytes ++ rest) =
      match judgeBody n (received ++ bytes) with
      | .good f => .good f rest
      | _ => .bad := by
  induction bytes generalizing received with
  | nil => exact absurd rfl hb
  | cons b bytes ih =>
    cases bytes with
    | nil =>
      simp only [List.length_cons, List.length_nil] at h
      simp only [List.cons_append, List.nil_append, LineState.receive, LineState.byte, List.length_append,
        List.length_cons, List.length_nil, show ¬received.length + (0 + 1) < n.toNat + 2 by omega, if_false]
      cases judgeBody n (received ++ [b]) <;> rfl
    | cons c bytes =>
      simp only [List.length_cons] at h
      have step : ∀ more, (LineState.collecting n received).receive (b :: more) =
          (LineState.collecting n (received ++ [b])).receive more := fun more => by
        simp [LineState.receive, LineState.byte, show received.length < n.toNat + 1 by omega]
      rw [List.cons_append, step, ih (received ++ [b]) (by simp; omega) (by simp)]
      simp

/-- Inputs one after another: what the first bring, then what the others bring from where the first have left the line. -/
theorem LineState.run_append (l : Link) (x : LineState) (is js : List LineInput) :
    x.run l (is ++ js) = (((x.run l is).1.run l js).1, (x.run l is).2 ++ ((x.run l is).1.run l js).2) := by
  induction is generalizing x with
  | nil => simp [LineState.run]
  | cons i is ih => simp [LineState.run, ih]

end Sys2Proof.Machine
end

