-- ==== Sys2Proof/Laws/PerInstr.lean ====
section
/-! SUPPORT. A law of every command as syntax: a well-formed request stands for a frame whose payload fits (R167), and its
KIND is outside the kind table exactly for UNKNOWN_KIND (R169). -/

namespace Sys2Proof.Laws.Payload

open Sys2Proof Sys2Proof.Machine

/-- The frame of a well-formed request fits the line, and its KIND is unknown exactly for the row of unknown kinds. -/
def Statement (i : Instr) : Prop :=
  i.wf = true → ∀ l f, asRequest i = some (l, f) →
    f.payload.length ≤ 32 ∧ (knownKind f.kind = false ↔ ∃ k q p, i = .unknownKind l k q p)

/-- A command that is no request. -/
theorem of_none {i : Instr} (h : asRequest i = none) : Statement i := by
  intro _ l f hf
  rw [h] at hf
  cases hf

/-- A request of a kind of the table, with a payload that fits. -/
theorem of_known {i : Instr} {l : Link} {f : Frame} (h : asRequest i = some (l, f))
    (hp : i.wf = true → payloadFits f.payload = true) (hk : knownKind f.kind = true)
    (hn : ∀ l k q p, i ≠ .unknownKind l k q p) : Statement i := by
  intro hw l' f' hf
  rw [h] at hf
  cases hf
  refine ⟨by simpa [payloadFits] using hp hw, ?_⟩
  rw [hk]
  exact Iff.intro (fun h => by cases h) (fun h => by obtain ⟨k, q, p, e⟩ := h; exact absurd e (hn _ k q p))

theorem powerOn : Statement .powerOn := of_none rfl

theorem resetLine : Statement .resetLine := of_none rfl

theorem selfCheckEnd : Statement .selfCheckEnd := of_none rfl

theorem linkBreak (link : Link) : Statement (.linkBreak link) := of_none rfl

theorem goodFrame (link : Link) (kind : Byte) (seq : Byte) (payload : List Byte) : Statement (.goodFrame link kind seq payload) :=
  of_none rfl

theorem badFrame (link : Link) : Statement (.badFrame link) := of_none rfl

theorem interByteGap (link : Link) : Statement (.interByteGap link) := of_none rfl

theorem replySent (link : Link) : Statement (.replySent link) := of_none rfl

theorem unknownKind (link : Link) (kind : Byte) (seq : Byte) (payload : List Byte) : Statement (.unknownKind link kind seq payload) := by
  intro hw l f hf
  cases hf
  simp only [Instr.wf, Bool.and_eq_true, Bool.not_eq_true', payloadFits, decide_eq_true_eq] at hw
  exact ⟨hw.2, fun _ => ⟨_, _, _, rfl⟩, fun _ => hw.1⟩

theorem enrol (link : Link) (seq : Byte) (payload : List Byte) : Statement (.enrol link seq payload) :=
  of_known rfl id rfl nofun

theorem status (link : Link) (seq : Byte) (payload : List Byte) : Statement (.status link seq payload) :=
  of_known rfl id rfl nofun

theorem demand (link : Link) (seq : Byte) (payload : List Byte) : Statement (.demand link seq payload) :=
  of_known rfl id rfl nofun

theorem claim (link : Link) (seq : Byte) (payload : List Byte) : Statement (.claim link seq payload) :=
  of_known rfl id rfl nofun

theorem yield (link : Link) (seq : Byte) (payload : List Byte) : Statement (.yield link seq payload) :=
  of_known rfl id rfl nofun

theorem take (link : Link) (seq : Byte) (payload : List Byte) : Statement (.take link seq payload) :=
  of_known rfl id rfl nofun

theorem keep (link : Link) (seq : Byte) (payload : List Byte) : Statement (.keep link seq payload) :=
  of_known rfl id rfl nofun

theorem resetProtection (link : Link) (seq : Byte) (payload : List Byte) : Statement (.resetProtection link seq payload) :=
  of_known rfl id rfl nofun

theorem resetAll (link : Link) (seq : Byte) (payload : List Byte) : Statement (.resetAll link seq payload) :=
  of_known rfl id rfl nofun

theorem acknowledge (link : Link) (seq : Byte) (payload : List Byte) : Statement (.acknowledge link seq payload) :=
  of_known rfl id rfl nofun

theorem latch (link : Link) (seq : Byte) (payload : List Byte) : Statement (.latch link seq payload) :=
  of_known rfl id rfl nofun

theorem readLatched (link : Link) (seq : Byte) (payload : List Byte) : Statement (.readLatched link seq payload) :=
  of_known rfl (fun h => (Bool.and_eq_true _ _ ▸ h).1) rfl nofun

theorem readCrankHistory (link : Link) (seq : Byte) (payload : List Byte) : Statement (.readCrankHistory link seq payload) :=
  of_known rfl (fun h => (Bool.and_eq_true _ _ ▸ h).1) rfl nofun

theorem readProtectionTable (link : Link) (seq : Byte) (payload : List Byte) : Statement (.readProtectionTable link seq payload) :=
  of_known rfl (fun h => (Bool.and_eq_true _ _ ▸ h).1) rfl nofun

theorem readAnalogChannelRecords (link : Link) (seq : Byte) (payload : List Byte) : Statement (.readAnalogChannelRecords link seq payload) :=
  of_known rfl (fun h => (Bool.and_eq_true _ _ ▸ h).1) rfl nofun

theorem readSourceTableSummary (link : Link) (seq : Byte) (payload : List Byte) : Statement (.readSourceTableSummary link seq payload) :=
  of_known rfl (fun h => (Bool.and_eq_true _ _ ▸ h).1) rfl nofun

theorem readConfigurationEntry (link : Link) (seq : Byte) (payload : List Byte) : Statement (.readConfigurationEntry link seq payload) :=
  of_known rfl (fun h => (Bool.and_eq_true _ _ ▸ h).1) rfl nofun

theorem readEngineRunRecord (link : Link) (seq : Byte) (payload : List Byte) : Statement (.readEngineRunRecord link seq payload) :=
  of_known rfl (fun h => (Bool.and_eq_true _ _ ▸ h).1) rfl nofun

theorem force (link : Link) (seq : Byte) (payload : List Byte) : Statement (.force link seq payload) :=
  of_known rfl id rfl nofun

theorem releaseForce (link : Link) (seq : Byte) (payload : List Byte) : Statement (.releaseForce link seq payload) :=
  of_known rfl id rfl nofun

theorem mask (link : Link) (seq : Byte) (payload : List Byte) : Statement (.mask link seq payload) :=
  of_known rfl id rfl nofun

theorem unmask (link : Link) (seq : Byte) (payload : List Byte) : Statement (.unmask link seq payload) :=
  of_known rfl id rfl nofun

theorem writeEntry (link : Link) (seq : Byte) (payload : List Byte) : Statement (.writeEntry link seq payload) :=
  of_known rfl id rfl nofun

theorem applyTable (link : Link) (seq : Byte) (payload : List Byte) : Statement (.applyTable link seq payload) :=
  of_known rfl id rfl nofun

theorem lockGroup (link : Link) (seq : Byte) (payload : List Byte) : Statement (.lockGroup link seq payload) :=
  of_known rfl id rfl nofun

theorem unlockGroup (link : Link) (seq : Byte) (payload : List Byte) : Statement (.unlockGroup link seq payload) :=
  of_known rfl id rfl nofun

theorem fixGroup (link : Link) (seq : Byte) (payload : List Byte) : Statement (.fixGroup link seq payload) :=
  of_known rfl id rfl nofun

theorem clearTripCount (link : Link) (seq : Byte) (payload : List Byte) : Statement (.clearTripCount link seq payload) :=
  of_known rfl id rfl nofun

theorem pickupPulse (pickup : Pickup) : Statement (.pickupPulse pickup) := of_none rfl

theorem windowCompletes : Statement .windowCompletes := of_none rfl

theorem conversion (channel : Channel) (raw : BitVec 12) : Statement (.conversion channel raw) := of_none rfl

theorem holdTimerExpiry (channel : Channel) : Statement (.holdTimerExpiry channel) := of_none rfl

theorem discreteInputLevelChange (input : Discrete) (level : Bool) : Statement (.discreteInputLevelChange input level) :=
  of_none rfl

theorem debouncedChange (input : Discrete) : Statement (.debouncedChange input) := of_none rfl

theorem filterTimerExpiry (entry : Entry) : Statement (.filterTimerExpiry entry) := of_none rfl

theorem prelubeMinimumExpiry : Statement .prelubeMinimumExpiry := of_none rfl

theorem prelubeLimitExpiry : Statement .prelubeLimitExpiry := of_none rfl

theorem primeTimerExpiry : Statement .primeTimerExpiry := of_none rfl

theorem engageTimerExpiry : Statement .engageTimerExpiry := of_none rfl

theorem crankLimitExpiry : Statement .crankLimitExpiry := of_none rfl

theorem batteryDropoutExpiry : Statement .batteryDropoutExpiry := of_none rfl

theorem budgetTimerExpiry : Statement .budgetTimerExpiry := of_none rfl

theorem accelerationTimerExpiry : Statement .accelerationTimerExpiry := of_none rfl

theorem stallTimerExpiry : Statement .stallTimerExpiry := of_none rfl

theorem lubeArmingExpiry : Statement .lubeArmingExpiry := of_none rfl

theorem restTimerExpiry : Statement .restTimerExpiry := of_none rfl

theorem zeroHoldExpiryCrankRest : Statement .zeroHoldExpiryCrankRest := of_none rfl

theorem zeroHoldExpiryRundown : Statement .zeroHoldExpiryRundown := of_none rfl

theorem unloadTimerExpiry : Statement .unloadTimerExpiry := of_none rfl

theorem minuteTick : Statement .minuteTick := of_none rfl

theorem freshnessTimerExpiry (link : Link) : Statement (.freshnessTimerExpiry link) := of_none rfl

theorem trainlineWireLevelChange (wire : Wire) (level : Bool) : Statement (.trainlineWireLevelChange wire level) :=
  of_none rfl

theorem trainlineDebouncedChange (wire : Wire) : Statement (.trainlineDebouncedChange wire) := of_none rfl

theorem settleTimerExpiry : Statement .settleTimerExpiry := of_none rfl

theorem invalidTimerExpiry : Statement .invalidTimerExpiry := of_none rfl

theorem stopHoldExpiry : Statement .stopHoldExpiry := of_none rfl

theorem yieldStageExpiry : Statement .yieldStageExpiry := of_none rfl

theorem takeStageExpiry : Statement .takeStageExpiry := of_none rfl

theorem dwellTimerExpiry : Statement .dwellTimerExpiry := of_none rfl

theorem rampInterval : Statement .rampInterval := of_none rfl

theorem idleDwellExpiry : Statement .idleDwellExpiry := of_none rfl

theorem lowIdleDwellExpiry : Statement .lowIdleDwellExpiry := of_none rfl

theorem autoStopTimerExpiry : Statement .autoStopTimerExpiry := of_none rfl

theorem batteryLowRestartExpiry : Statement .batteryLowRestartExpiry := of_none rfl

theorem storeWriteCompletion : Statement .storeWriteCompletion := of_none rfl

end Sys2Proof.Laws.Payload
end

