-- ==== Sys2Proof/Laws/Requests.lean ====
section
/-! SUPPORT. What the shared treatment of requests and replies does (R169, R170, R172). -/

namespace Sys2Proof.Machine

/-! ### The status word and ATTN -/

/-- The status word of a link does not read what a reply, a queue or ATTN changes: of the link interfaces it reads only the
overflow flag. -/
theorem statusWord_congr {s t : State} (l : Link) (hr : t.rsq = s.rsq) (hs : t.spd = s.spd) (hi : t.ins = s.ins)
    (hp : t.pru = s.pru) (ha : t.aut = s.aut) (hn : t.ntu = s.ntu) (hu : t.iru = s.iru) (hc : t.cfg = s.cfg)
    (ho : (t.links.link l).overflow = (s.links.link l).overflow) : statusWord t l = statusWord s l := by
  simp only [statusWord, statusByte2, statusByte3, forcesActive, hr, hs, hi, hp, ha, hn, hu, hc, ho]

@[simp] theorem rejudgeAttn_link (s : State) (l : Link) :
    (rejudgeAttn s).links.link l = { s.links.link l with attn := attnWanted s l } := by cases l <;> rfl

@[simp] theorem statusWord_rejudgeAttn (s : State) (l : Link) : statusWord (rejudgeAttn s) l = statusWord s l :=
  statusWord_congr l rfl rfl rfl rfl rfl rfl rfl rfl (by simp)

@[simp] theorem attnWanted_rejudgeAttn (s : State) (l : Link) : attnWanted (rejudgeAttn s) l = attnWanted s l := by
  unfold attnWanted
  rw [statusWord_rejudgeAttn, rejudgeAttn_link, rejudgeAttn_aut]

/-- ATTN judged once stands as it should. -/
theorem attnLaw_rejudgeAttn (s : State) : AttnLaw (rejudgeAttn s) := by
  intro l
  rw [attnWanted_rejudgeAttn, rejudgeAttn_link]

/-- Judging ATTN moves nothing but ATTN. -/
theorem sameButAttn_rejudgeAttn (s : State) (l : Link) :
    SameButAttn (s.links.link l) ((rejudgeAttn s).links.link l) := by simp [SameButAttn]

theorem SameButAttn.refl (x : LinkIf) : SameButAttn x x := rfl

theorem SameButAttn.trans {x y z : LinkIf} (h : SameButAttn x y) (k : SameButAttn y z) : SameButAttn x z := by
  simp only [SameButAttn] at *
  rw [← h, ← k]

theorem attnLaw_finish (s0 s : State) (test : Bool) : AttnLaw (finish s0 test s) := attnLaw_rejudgeAttn _

/-! ### A request -/

/-- The state in which the frame in front of a link's queue has been taken out of it. -/
def dequeued (l : Link) (s : State) : State := s.mapLink l fun x => { x with queue := x.queue.tail }

@[simp] theorem dequeued_rsq (l : Link) (s : State) : (dequeued l s).rsq = s.rsq := rfl
@[simp] theorem dequeued_spd (l : Link) (s : State) : (dequeued l s).spd = s.spd := rfl
@[simp] theorem dequeued_ins (l : Link) (s : State) : (dequeued l s).ins = s.ins := rfl
@[simp] theorem dequeued_pru (l : Link) (s : State) : (dequeued l s).pru = s.pru := rfl
@[simp] theorem dequeued_aut (l : Link) (s : State) : (dequeued l s).aut = s.aut := rfl
@[simp] theorem dequeued_ntu (l : Link) (s : State) : (dequeued l s).ntu = s.ntu := rfl
@[simp] theorem dequeued_iru (l : Link) (s : State) : (dequeued l s).iru = s.iru := rfl
@[simp] theorem dequeued_cfg (l : Link) (s : State) : (dequeued l s).cfg = s.cfg := rfl
@[simp] theorem dequeued_pending (l : Link) (s : State) : (dequeued l s).pending = s.pending := rfl

@[simp] theorem dequeued_link_same (l : Link) (s : State) :
    (dequeued l s).links.link l = { s.links.link l with queue := (s.links.link l).queue.tail } := by
  simp [dequeued]

theorem dequeued_link_other {k l : Link} (s : State) (h : k ≠ l) :
    (dequeued l s).links.link k = s.links.link k := by
  simp [dequeued, Links.link_setLink_other, h]

theorem front_takes {l : Link} {f : Frame} {s : State} (h : Front l f s) : takesRequest l f s = true := by
  simp [takesRequest, h.1, h.2]

/-- A request that no earlier test answers is answered by its owner. -/
theorem request_of_screen {l : Link} {f : Frame} {s : State} (owner : State → Answer) (h : Front l f s)
    (hi : (s.aut.source l).linkState ≠ .inert) (hs : screenRequest l f (dequeued l s) = none) :
    request l f owner s = conclude l f (owner (dequeued l s)) := by
  simp only [request, front_takes h, hi, if_true, if_false]
  change (match screenRequest l f (dequeued l s) with
    | some a => conclude l f a
    | none => conclude l f (owner (dequeued l s))) = _
  rw [hs]

/-- A request that an earlier test answers gets that answer. -/
theorem request_of_screened {l : Link} {f : Frame} {s : State} {a : Answer} (owner : State → Answer)
    (h : Front l f s) (hi : (s.aut.source l).linkState ≠ .inert)
    (hs : screenRequest l f (dequeued l s) = some a) : request l f owner s = conclude l f a := by
  simp only [request, front_takes h, hi, if_true, if_false]
  change (match screenRequest l f (dequeued l s) with
    | some a => conclude l f a
    | none => conclude l f (owner (dequeued l s))) = _
  rw [hs]

/-- The tests of R169 let a request of a known kind, on a link that may carry it, through to its owner. -/
theorem screen_of_ready {l : Link} {f : Frame} {s : State} (h : Ready l f s) (hk : knownKind f.kind = true)
    (hl : serviceKind f.kind = true → l = .service) : screenRequest l f (dequeued l s) = none := by
  obtain ⟨⟨-, hc, ha⟩, hd⟩ := h
  have hd' : deviates l f (dequeued l s) = false := hd
  simp only [screenRequest, dequeued_cfg, dequeued_aut, hc, hd', hk, ha]
  by_cases w : serviceKind f.kind = true
  · simp [hl w]
  · simp [w]

theorem request_of_ready {l : Link} {f : Frame} {s : State} (owner : State → Answer) (h : Ready l f s)
    (hk : knownKind f.kind = true) (hl : serviceKind f.kind = true → l = .service) :
    request l f owner s = conclude l f (owner (dequeued l s)) :=
  request_of_screen owner h.1.1 (by rw [h.1.2.2]; decide) (screen_of_ready h hk hl)

/-- STATUS, READ, LATCH and ACKNOWLEDGE are never deviations (R129). -/
theorem Heard.ready {l : Link} {f : Frame} {s : State} (h : Heard l f s)
    (hk : f.kind = kindStatus ∨ f.kind = kindRead ∨ f.kind = kindLatch ∨ f.kind = kindAcknowledge) :
    Ready l f s := by
  refine ⟨h, ?_⟩
  unfold deviates
  split
  · rcases hk with hk | hk | hk | hk <;> simp [hk]
  · rfl

/-! ### A reply -/

@[simp] theorem conclude_answer (l : Link) (f : Frame) (r : Result) (payload : List Byte) (s : State) :
    conclude l f (answer r payload s) = rejudgeAttn (sendReply l f r payload s) := rfl

@[simp] theorem sendReply_link_same (l : Link) (f : Frame) (r : Result) (payload : List Byte) (s : State) :
    (sendReply l f r payload s).links.link l =
      { s.links.link l with
        sending := some ⟨f.kind ||| 0x80, f.seq, r, statusWord s l, payload⟩
        lastReturned := some (statusWord s l) } := by simp [sendReply]

theorem sendReply_link_other {k l : Link} (f : Frame) (r : Result) (payload : List Byte) (s : State) (h : k ≠ l) :
    (sendReply l f r payload s).links.link k = s.links.link k := by
  simp [sendReply, Links.link_setLink_other, h]

@[simp] theorem statusWord_sendReply (k l : Link) (f : Frame) (r : Result) (payload : List Byte) (s : State) :
    statusWord (sendReply l f r payload s) k = statusWord s k := by
  refine statusWord_congr k rfl rfl rfl rfl rfl rfl rfl rfl ?_
  by_cases h : k = l
  · subst h; simp
  · rw [sendReply_link_other _ _ _ _ h]

/-- What the reply to a request leaves: the blocks as the owner left them, the reply being sent, every link else alone. -/
theorem repliedFrom_conclude {x : LinkIf} {l : Link} {f : Frame} {r : Result} {payload : List Byte} {s u : State}
    (hl : SameButAttn { x with queue := (s.links.link l).queue.tail } (u.links.link l))
    (ho : ∀ k : Link, k ≠ l → SameButAttn (s.links.link k) (u.links.link k)) :
    RepliedFrom x l f r payload s (conclude l f (answer r payload u)) := by
  refine ⟨?_, ?_, attnLaw_rejudgeAttn _⟩
  · simp only [conclude_answer, statusWord_rejudgeAttn, statusWord_sendReply, rejudgeAttn_link, sendReply_link_same,
      SameButAttn] at *
    rw [LinkIf.mk.injEq] at hl ⊢
    simp only at hl ⊢
    simp_all
  · intro k hk
    simp only [conclude_answer]
    rw [rejudgeAttn_link, sendReply_link_other _ _ _ _ hk]
    have := ho k hk
    simp only [SameButAttn] at *
    exact this

/-- The same where the owner has not touched the link interfaces. -/
theorem replied_conclude {l : Link} {f : Frame} {r : Result} {payload : List Byte} {s u : State}
    (hu : u.links = (dequeued l s).links) : Replied l f r payload s (conclude l f (answer r payload u)) := by
  refine repliedFrom_conclude ?_ ?_
  · rw [hu]; simp [SameButAttn]
  · intro k hk
    rw [hu, dequeued_link_other s hk]
    exact SameButAttn.refl _

/-! ### The scan of the analog channels -/

/-- The tests before the owner's leave the scan where it is. -/
theorem screenRequest_scanNext {l : Link} {f : Frame} {s : State} {a : Answer} (h : screenRequest l f s = some a) :
    a.state.ins.scanNext = s.ins.scanNext := by
  revert h
  unfold screenRequest answer
  (repeat' split) <;> intro h <;> cases h <;> simp

/-- A request moves the scan only where its owner does. -/
theorem request_scanNext (l : Link) (f : Frame) {owner : State → Answer}
    (h : ∀ u, (owner u).state.ins.scanNext = u.ins.scanNext) (s : State) :
    (request l f owner s).ins.scanNext = s.ins.scanNext := by
  unfold request
  dsimp only
  split
  · split
    · rfl
    · split
      · rename_i a ha
        unfold conclude
        split <;> simp [screenRequest_scanNext ha]
      · unfold conclude
        split <;> simp [h]
  · rfl

end Sys2Proof.Machine
end

