-- ==== Sys2Proof/Laws/Settle.lean ====
section
/-! SUPPORT. How NTU, IRU and ATTN stand at the end of an event (R141, R150, R153, R160, R172). -/

namespace Sys2Proof.Machine

/-- What E reads. -/
theorem effectiveNotch_congr {s t : State} (hr : t.rsq.engine = s.rsq.engine) (ha : t.aut = s.aut) (hp : t.pru = s.pru)
    (hn : t.ntu.applied = s.ntu.applied) : effectiveNotch t = effectiveNotch s := by
  simp only [effectiveNotch, hr, ha, hp, hn]

/-- What LOAD PERMIT reads. -/
theorem loadPermitWanted_congr {s t : State} (hr : t.rsq.engine = s.rsq.engine) (hp : t.pru = s.pru)
    (hn : t.ntu.applied = s.ntu.applied) : loadPermitWanted t = loadPermitWanted s := by
  simp only [loadPermitWanted, hr, hp, hn]

/-- What the idle reduction conditions read. -/
theorem idleConditions_congr {s t : State} (hr : t.rsq.engine = s.rsq.engine) (hs : t.spd.force = s.spd.force)
    (hi : t.ins = s.ins) (hp : t.pru = s.pru) (ha : t.aut = s.aut) (hn : t.ntu.applied = s.ntu.applied)
    (he : t.ntu.e = s.ntu.e) (hl : t.ntu.loadPermit = s.ntu.loadPermit) (hc : t.cfg = s.cfg) :
    idleConditions t = idleConditions s := by
  simp only [idleConditions, autoStopPermitted, forcesActive, hr, hs, hi, hp, ha, hn, he, hl, hc]

@[simp] theorem refreshE_applied (s : State) : (refreshE s).ntu.applied = s.ntu.applied := rfl
@[simp] theorem refreshE_e (s : State) : (refreshE s).ntu.e = effectiveNotch s := rfl
@[simp] theorem refreshE_loadPermit (s : State) : (refreshE s).ntu.loadPermit = s.ntu.loadPermit := rfl

@[simp] theorem refreshPermit_applied (s : State) : (refreshPermit s).ntu.applied = s.ntu.applied := by
  unfold refreshPermit; (repeat' split) <;> rfl

@[simp] theorem refreshPermit_e (s : State) : (refreshPermit s).ntu.e = s.ntu.e := by
  unfold refreshPermit; (repeat' split) <;> rfl

@[simp] theorem refreshPermit_lowIdle (s : State) : (refreshPermit s).ntu.lowIdle = s.ntu.lowIdle := by
  unfold refreshPermit; (repeat' split) <;> rfl

@[simp] theorem refreshPermit_dwell (s : State) : (refreshPermit s).ntu.dwell = s.ntu.dwell := by
  unfold refreshPermit; (repeat' split) <;> rfl

theorem refreshPermit_loadPermit (s : State) : (refreshPermit s).ntu.loadPermit = loadPermitWanted s := by
  unfold refreshPermit
  by_cases h : loadPermitWanted s = true <;> simp only [h]
  · cases hl : s.ntu.loadPermit <;> simp [hl]
  · cases hl : s.ntu.loadPermit <;> simp [hl, dropLoad]

@[simp] theorem refreshLowIdle_applied (s : State) : (refreshLowIdle s).ntu.applied = s.ntu.applied := by
  unfold refreshLowIdle; (repeat' split) <;> rfl

@[simp] theorem refreshLowIdle_e (s : State) : (refreshLowIdle s).ntu.e = s.ntu.e := by
  unfold refreshLowIdle; (repeat' split) <;> rfl

@[simp] theorem refreshLowIdle_loadPermit (s : State) : (refreshLowIdle s).ntu.loadPermit = s.ntu.loadPermit := by
  unfold refreshLowIdle; (repeat' split) <;> rfl

@[simp] theorem refreshLowIdle_dwell (s : State) : (refreshLowIdle s).ntu.dwell = s.ntu.dwell := by
  unfold refreshLowIdle; (repeat' split) <;> rfl

@[simp] theorem refreshGovernor_applied (s : State) : (refreshGovernor s).ntu.applied = s.ntu.applied := by
  dsimp only [refreshGovernor]; split <;> rfl

@[simp] theorem refreshGovernor_e (s : State) : (refreshGovernor s).ntu.e = s.ntu.e := by
  dsimp only [refreshGovernor]; split <;> rfl

@[simp] theorem refreshGovernor_loadPermit (s : State) : (refreshGovernor s).ntu.loadPermit = s.ntu.loadPermit := by
  dsimp only [refreshGovernor]; split <;> rfl

@[simp] theorem refreshGovernor_lowIdle (s : State) : (refreshGovernor s).ntu.lowIdle = s.ntu.lowIdle := by
  dsimp only [refreshGovernor]; split <;> rfl

@[simp] theorem refreshGovernor_dwell (s : State) : (refreshGovernor s).ntu.dwell = s.ntu.dwell := by
  dsimp only [refreshGovernor]; split <;> rfl

@[simp] theorem refreshGovernor_loadRef (s : State) : (refreshGovernor s).ntu.loadRef = s.ntu.loadRef := by
  dsimp only [refreshGovernor]; split <;> rfl

@[simp] theorem refreshGovernor_loadTarget (s : State) : (refreshGovernor s).ntu.loadTarget = s.ntu.loadTarget := by
  dsimp only [refreshGovernor]; split <;> rfl

@[simp] theorem refreshGovernor_excitationRef (s : State) : (refreshGovernor s).ntu.excitationRef = s.ntu.excitationRef := by
  dsimp only [refreshGovernor]; split <;> rfl

@[simp] theorem refreshGovernor_unloadReported (s : State) : (refreshGovernor s).ntu.unloadReported = s.ntu.unloadReported := by
  dsimp only [refreshGovernor]; split <;> rfl

/-- What the governor setpoint reads. -/
theorem setpointOf_congr {t : Table} {e : Engine} {m n : Ntu} (ha : m.applied = n.applied)
    (hl : m.lowIdle = n.lowIdle) : setpointOf t e m = setpointOf t e n := by
  simp only [setpointOf, ha, hl]

theorem refreshGovernor_setpoint (s : State) :
    (refreshGovernor s).ntu.setpoint = setpointOf s.cfg.active s.rsq.engine s.ntu := by
  dsimp only [refreshGovernor]
  split
  · assumption
  · rfl

@[simp] theorem settleInputs_applied (s : State) : (settleInputs s).ntu.applied = s.ntu.applied := by
  simp [settleInputs]

@[simp] theorem settleInputs_e (s : State) : (settleInputs s).ntu.e = effectiveNotch s := by
  simp [settleInputs]

@[simp] theorem settleInputs_dwell (s : State) : (settleInputs s).ntu.dwell = s.ntu.dwell := by
  simp [settleInputs, refreshE]

theorem settleInputs_loadPermit (s : State) : (settleInputs s).ntu.loadPermit = loadPermitWanted s := by
  simp only [settleInputs, refreshLowIdle_loadPermit, judgeIdle_ntu, refreshPermit_loadPermit]
  exact loadPermitWanted_congr (by simp) (by simp) (by simp)

/-- After its judgement IRU stands in a dwell only with the conditions true. -/
theorem judgeIdle_state (s : State)
    (h : (judgeIdle s).iru.state = .idleDwell ∨ (judgeIdle s).iru.state = .lowIdleDwell) :
    idleConditions s = true := by
  unfold judgeIdle at h
  by_cases hc : idleConditions s = true
  · exact hc
  · exfalso
    cases hs : s.iru.state <;> simp [hs, hc, iruOff] at h

theorem settleInputs_idle (s : State)
    (h : (settleInputs s).iru.state = .idleDwell ∨ (settleInputs s).iru.state = .lowIdleDwell) :
    idleConditions (settleInputs s) = true := by
  have h' : idleConditions (refreshPermit (refreshE s)) = true :=
    judgeIdle_state _ (by simpa [settleInputs] using h)
  rw [← h']
  refine idleConditions_congr ?_ ?_ ?_ ?_ ?_ ?_ ?_ ?_ ?_ <;> simp [settleInputs]

/-- The end of an event is some settling of the inputs, the governor, and NTU's report. -/
theorem settle_form (s0 : State) (test : Bool) (s : State) :
    ∃ x, settle s0 test s = reportUnload (refreshGovernor (settleInputs x)) ∧
      (x = s ∨ x = stepChannel (settleInputs s)) := by
  dsimp only [settle]
  split
  · exact ⟨_, rfl, .inr rfl⟩
  · exact ⟨_, rfl, .inl rfl⟩

/-- A change of engine state leaves the load off and E alone, and sets the governor, where the engine leaves RUNNING and
UNLOADING. -/
theorem changeEngine_ntu_of_leave {new : Engine} {s : State} (ho : s.rsq.engine.runningFamily = true)
    (hn : new.runningFamily = false) :
    (changeEngine new s).ntu.applied = 0 ∧ (changeEngine new s).ntu.e = s.ntu.e ∧
      (changeEngine new s).ntu.loadPermit = false ∧ (changeEngine new s).ntu.loadRef = 0 ∧
      (changeEngine new s).ntu.lowIdle = false ∧ (changeEngine new s).ntu.dwell = none ∧
      (changeEngine new s).ntu.setpoint = setpointOf s.cfg.active new (changeEngine new s).ntu := by
  simp only [changeEngine, iruEngineChange_ntu, ntuEngineChange, ho, hn, Bool.not_false, Bool.and_self, if_true,
    refreshGovernor_setpoint, refreshGovernor_applied, refreshGovernor_e, refreshGovernor_loadPermit,
    refreshGovernor_lowIdle, refreshGovernor_dwell, refreshGovernor_loadRef, State.mapNtu_ntu, autEngineChange_ntu, pruEngineChange_ntu,
    spdEngineChange_ntu, State.mapRsq_ntu, State.mapNtu_cfg, autEngineChange_cfg, pruEngineChange_cfg,
    spdEngineChange_cfg, State.mapRsq_cfg, State.mapNtu_rsq, autEngineChange_rsq, pruEngineChange_rsq,
    spdEngineChange_rsq, State.mapRsq_rsq, true_and, dropLoad]
  exact (setpointOf_congr (by simp) (by simp)).symm

/-- NTU, IRU and ATTN stand as they should at the end of every event. -/
theorem settled_finish (s0 : State) (test : Bool) (s : State) : Settled (finish s0 test s) := by
  obtain ⟨x, hx, -⟩ := settle_form s0 test s
  have key : ∀ y : State, y = refreshGovernor (settleInputs x) →
      (reportUnload y).ntu.e = effectiveNotch (reportUnload y) ∧
        (reportUnload y).ntu.loadPermit = loadPermitWanted (reportUnload y) ∧
        (reportUnload y).ntu.setpoint =
          setpointOf (reportUnload y).cfg.active (reportUnload y).rsq.engine (reportUnload y).ntu ∧
        ((reportUnload y).iru.state = .idleDwell ∨ (reportUnload y).iru.state = .lowIdleDwell →
          idleConditions (reportUnload y) = true) := by
    intro y hy
    have he : y.ntu.e = effectiveNotch y := by
      subst hy
      rw [refreshGovernor_e, settleInputs_e]
      exact (effectiveNotch_congr (by simp) (by simp) (by simp) (by simp)).symm
    have hp : y.ntu.loadPermit = loadPermitWanted y := by
      subst hy
      rw [refreshGovernor_loadPermit, settleInputs_loadPermit]
      exact (loadPermitWanted_congr (by simp) (by simp) (by simp)).symm
    have hg : y.ntu.setpoint = setpointOf y.cfg.active y.rsq.engine y.ntu := by
      subst hy
      rw [refreshGovernor_setpoint]
      simp only [refreshGovernor_cfg, refreshGovernor_rsq]
      exact (setpointOf_congr (by simp) (by simp)).symm
    have hi : y.iru.state = .idleDwell ∨ y.iru.state = .lowIdleDwell → idleConditions y = true := by
      subst hy
      intro h
      rw [← settleInputs_idle x (by simpa using h)]
      refine idleConditions_congr ?_ ?_ ?_ ?_ ?_ ?_ ?_ ?_ ?_ <;> simp
    clear hy
    unfold reportUnload
    split
    · next h =>
      obtain ⟨hu, -⟩ := h
      have e0 : y.ntu.e = 0 := by rw [he]; simp [effectiveNotch, hu]
      have hd : ¬(y.iru.state = .idleDwell ∨ y.iru.state = .lowIdleDwell) := by
        intro w
        have := hi w
        simp [idleConditions, hu] at this
      have hrun : ∀ z : State, z.rsq.engine = .unloading → z.ntu.e = 0 →
          ¬(z.iru.state = .idleDwell ∨ z.iru.state = .lowIdleDwell) →
          (enterRundown z).ntu.e = effectiveNotch (enterRundown z) ∧
            (enterRundown z).ntu.loadPermit = loadPermitWanted (enterRundown z) ∧
            (enterRundown z).ntu.setpoint =
              setpointOf (enterRundown z).cfg.active (enterRundown z).rsq.engine (enterRundown z).ntu ∧
            ((enterRundown z).iru.state = .idleDwell ∨ (enterRundown z).iru.state = .lowIdleDwell →
              idleConditions (enterRundown z) = true) := by
        intro z hz hz0 hzi
        have L := changeEngine_ntu_of_leave (new := .rundown) (s := z) (by rw [hz]; rfl) rfl
        have hen : (enterRundown z).rsq.engine = .rundown := by simp [enterRundown]
        have hnt : (enterRundown z).ntu = (changeEngine .rundown z).ntu := by simp [enterRundown]
        refine ⟨?_, ?_, ?_, ?_⟩
        · rw [hnt, L.2.1, hz0]; simp [effectiveNotch, hen]
        · rw [hnt, L.2.2.1]; simp [loadPermitWanted, hen, Engine.runningFamily]
        · rw [hnt, L.2.2.2.2.2.2, hen]; simp [enterRundown]
        · intro w
          exfalso
          have hiru : (enterRundown z).iru = (iruEngineChange .unloading .rundown
              (ntuEngineChange .unloading .rundown (autEngineChange .rundown (pruEngineChange .unloading .rundown
                z.rsq.lubeArmed (spdEngineChange .rundown (z.mapRsq (enterState .rundown))))))).iru := by
            simp [enterRundown, changeEngine, hz]
          rw [hiru] at w
          cases hs : z.iru.state
          all_goals first
            | exact hzi (.inl hs)
            | exact hzi (.inr hs)
            | skip
          all_goals
            unfold iruEngineChange at w
            simp only [ntuEngineChange_iru, autEngineChange_iru, pruEngineChange_iru, spdEngineChange_iru,
              State.mapRsq_iru, hs] at w
            first
              | (split at w <;> simp [handRestartTrigger, hs, iruOff] at w)
              | (simp at w)
      unfold fuelOff
      dsimp only
      split
      · exact hrun _ (by simpa using hu) (by simpa using e0) (by simpa using hd)
      · exact hrun _ (by simpa using hu) (by simpa using e0) (by simpa using hd)
    · exact ⟨he, hp, hg, hi⟩
  obtain ⟨k1, k2, k3, k4⟩ := key _ rfl
  rw [← hx] at k1 k2 k3 k4
  refine ⟨?_, ?_, ?_, ?_, attnLaw_finish _ _ _⟩
  · exact k1.trans (effectiveNotch_congr rfl rfl rfl rfl).symm
  · exact k2.trans (loadPermitWanted_congr rfl rfl rfl).symm
  · exact k3
  · intro h
    exact (idleConditions_congr rfl rfl rfl rfl rfl rfl rfl rfl rfl).trans (k4 h)

/-- The same behind a reply, which moves only the link interfaces. -/
theorem settled_conclude (l : Link) (f : Frame) (r : Result) (payload : List Byte) (s0 : State) (test : Bool)
    (s : State) : Settled (conclude l f (answer r payload (settle s0 test s))) := by
  obtain ⟨h1, h2, h3, h4, -⟩ := settled_finish s0 test s
  refine ⟨?_, ?_, ?_, ?_, attnLaw_rejudgeAttn _⟩
  · exact h1.trans (effectiveNotch_congr rfl rfl rfl rfl)
  · exact h2.trans (loadPermitWanted_congr rfl rfl rfl)
  · exact h3
  · intro h
    exact (idleConditions_congr rfl rfl rfl rfl rfl rfl rfl rfl rfl).trans (h4 h)

/-- A reply moves no block but the link interfaces. -/
@[simp] theorem conclude_answer_rsq (l : Link) (f : Frame) (r : Result) (p : List Byte) (s : State) :
    (conclude l f (answer r p s)).rsq = s.rsq := rfl
@[simp] theorem conclude_answer_spd (l : Link) (f : Frame) (r : Result) (p : List Byte) (s : State) :
    (conclude l f (answer r p s)).spd = s.spd := rfl
@[simp] theorem conclude_answer_ins (l : Link) (f : Frame) (r : Result) (p : List Byte) (s : State) :
    (conclude l f (answer r p s)).ins = s.ins := rfl
@[simp] theorem conclude_answer_pru (l : Link) (f : Frame) (r : Result) (p : List Byte) (s : State) :
    (conclude l f (answer r p s)).pru = s.pru := rfl
@[simp] theorem conclude_answer_aut (l : Link) (f : Frame) (r : Result) (p : List Byte) (s : State) :
    (conclude l f (answer r p s)).aut = s.aut := rfl
@[simp] theorem conclude_answer_ntu (l : Link) (f : Frame) (r : Result) (p : List Byte) (s : State) :
    (conclude l f (answer r p s)).ntu = s.ntu := rfl
@[simp] theorem conclude_answer_iru (l : Link) (f : Frame) (r : Result) (p : List Byte) (s : State) :
    (conclude l f (answer r p s)).iru = s.iru := rfl
@[simp] theorem conclude_answer_cfg (l : Link) (f : Frame) (r : Result) (p : List Byte) (s : State) :
    (conclude l f (answer r p s)).cfg = s.cfg := rfl
@[simp] theorem conclude_answer_pending (l : Link) (f : Frame) (r : Result) (p : List Byte) (s : State) :
    (conclude l f (answer r p s)).pending = s.pending := rfl

/-! ### Frames, block by block -/

theorem unchanged_nil {s t : State} (h : t.pending = s.pending) : Unchanged [] s t := ⟨h, by simp⟩

theorem unchanged_cons {b : Block} {bs : List Block} {s t : State} (h : AgreesOn s t b) (k : Unchanged bs s t) :
    Unchanged (b :: bs) s t := ⟨k.1, by simpa using ⟨h, k.2⟩⟩

/-- An event leaves the link interfaces alone but for ATTN where its work does. -/
theorem agreesOn_links_finish {s u : State} (s0 : State) (test : Bool) (h : u.links = s.links) :
    AgreesOn s (finish s0 test u) .links := by
  intro l
  have : (settle s0 test u).links = s.links := by simp [h]
  have w := sameButAttn_rejudgeAttn (settle s0 test u) l
  rw [this] at w
  exact w

end Sys2Proof.Machine
end

