-- ==== Sys2Proof/Tests/Slice0.lean ====
section
/-! SUPPORT. Small tests: ill-formed commands that the well-formedness check refuses, single steps whose results the spec
works out, and for every statement with hypotheses a state and operands that meet them. -/

set_option Elab.async false

namespace Sys2Proof.Tests

open Sys2Proof Sys2Proof.Machine

/-! ### Well-formedness: one ill-formed term for each check -/

/-- A payload one byte longer than a frame can hold (R167). -/
def tooLong : List Byte := List.replicate 33 0

theorem test_wf_good_frame_too_long : (Instr.goodFrame .stand 1 0 tooLong).wf = false := by decide

theorem test_wf_requests_too_long :
    [Instr.enrol .stand 0 tooLong, .status .stand 0 tooLong, .demand .stand 0 tooLong, .claim .stand 0 tooLong,
      .yield .stand 0 tooLong, .take .stand 0 tooLong, .keep .stand 0 tooLong, .resetProtection .stand 0 tooLong,
      .resetAll .stand 0 tooLong, .acknowledge .stand 0 tooLong, .latch .stand 0 tooLong, .force .service 0 tooLong,
      .releaseForce .service 0 tooLong, .mask .service 0 tooLong, .unmask .service 0 tooLong,
      .writeEntry .service 0 tooLong, .applyTable .service 0 tooLong, .lockGroup .service 0 tooLong,
      .unlockGroup .service 0 tooLong, .fixGroup .service 0 tooLong, .clearTripCount .service 0 tooLong,
      .unknownKind .stand 0x40 0 tooLong].all (fun c => !c.wf) = true := by decide

theorem test_wf_known_kind_is_not_unknown : (Instr.unknownKind .stand 0x01 0 []).wf = false := by decide

theorem test_wf_read_of_another_target :
    [Instr.readLatched .stand 0 [2], .readCrankHistory .stand 0 [3, 0], .readProtectionTable .stand 0 [0],
      .readAnalogChannelRecords .stand 0 [1, 0], .readSourceTableSummary .stand 0 [5, 0, 0],
      .readConfigurationEntry .stand 0 [4], .readEngineRunRecord .stand 0 [2]].all (fun c => !c.wf) = true := by
  decide

theorem test_wf_filter_of_an_entry_without_one : (Instr.filterTimerExpiry 0).wf = false := by decide

theorem test_wf_accepts :
    [Instr.goodFrame .stand 1 0 (List.replicate 32 0), .unknownKind .remote 0x40 0 [], .readLatched .stand 0 [0],
      .filterTimerExpiry 12, .minuteTick].all (fun c => c.wf) = true := by decide

/-- No row of the table has bits, so no word spells a command (log 19). -/
theorem test_no_word_spells_a_command : decodeTableWord 16 0x0102 = none := rfl

/-! ### States to test on -/

/-- After the self-check. -/
def calm : State := { State.reset with cfg := { State.reset.cfg with checking := false } }

/-- The entry of an ACTIVE source: notch 8, every flag, 500 ms. -/
def activeSource : FramedSource := ⟨.active, some ⟨8, true, true, true, 50⟩, 0, .none, false, false, some 1500, .none⟩

/-- A source is ACTIVE. -/
def withActive (l : Link) (s : State) : State := { s with aut := s.aut.setSource l activeSource }

/-- A frame is the one next taken on a link. -/
def withFrame (l : Link) (kind : Byte) (payload : List Byte) (s : State) : State :=
  { s with links := s.links.setLink l { s.links.link l with queue := [⟨kind, 7, payload⟩] } }

/-- A link with an ACTIVE source whose next frame is a request of this kind. -/
def asking (l : Link) (kind : Byte) (payload : List Byte) (s : State) : State :=
  withFrame l kind payload (withActive l s)

/-- A source holds authority. -/
def heldBy (h : Source) (s : State) : State := { s with aut := { s.aut with holder := some h } }

/-- A handover stands. -/
def handing (h : Handover) (s : State) : State := { s with aut := { s.aut with handover := some h } }

/-- The Stand holds authority. -/
def held : State := heldBy .stand (withActive .stand calm)

/-- The engine is in a state, with the outputs of that state. -/
def engineIn (e : Engine) (s : State) : State := { s with rsq := enterState e s.rsq }

/-- Sequence timers are set. -/
def timed (f : SeqTimers → SeqTimers) (s : State) : State := { s with rsq := { s.rsq with timers := f s.rsq.timers } }

/-- The state a command leads to. -/
def after (c : Instr) (s : State) : State :=
  match exec c s with
  | .next t => t
  | _ => s

/-- The scan has come to a channel. -/
def due (c : Channel) (s : State) : State := { s with ins := { s.ins with scanNext := c } }

/-! ### Single steps the spec works out -/

/-- The worked values of section 4.4 (R59). -/
theorem test_conversions_scale :
    (after (.conversion .coolant 2560) (due .coolant calm)).ins.coolant.given = 750 ∧
      (after (.conversion .lube 1434) (due .lube calm)).ins.lube.given = 350 ∧
      (after (.conversion .battery 2796) (due .battery calm)).ins.battery.given = 682 ∧
      (after (.conversion .crankcase 2048) (due .crankcase calm)).ins.crankcase.given = 0 := by decide +kernel

/-- R57: after a reset LUBE PRESSURE is converted first, then COOLANT TEMP; CRANKCASE PRESSURE ends the pass. -/
theorem test_scan_order :
    State.reset.ins.scanNext = .lube ∧ after (.conversion .coolant 2560) State.reset = State.reset ∧
      (after (.conversion .lube 1434) State.reset).ins.scanNext = .coolant ∧
      (after (.conversion .crankcase 2048) (due .crankcase calm)).ins.scanNext = .lube ∧
      (after .resetLine (due .battery calm)).ins.scanNext = .lube := by decide +kernel

/-- Pulses counted by two pickups in one window. -/
def counted (a b : Nat) (s : State) : State :=
  { s with spd := { s.spd with a := { s.spd.a with count := a }, b := { s.spd.b with count := b } } }

/-- Section 3.10.1: 262 and 259 pulses are 1048 and 1036 rpm, measured 1042, overspeed 1048; 410 and 405 saturate at 1600
and trip OVERSPEED. -/
theorem test_worked_windows :
    (let t := after .windowCompletes (counted 262 259 calm);
      t.spd.a.rpm = 1048 ∧ t.spd.b.rpm = 1036 ∧ t.spd.measured = 1042 ∧ t.spd.overspeed = 1048 ∧
        (t.pru.entry 1).state = .idle) ∧
      (let t := after .windowCompletes (counted 410 405 calm);
      t.spd.measured = 1600 ∧ t.spd.a.aboveRange = true ∧ t.spd.b.aboveRange = true ∧
        (t.pru.entry 1).state = .held) := by decide +kernel

/-- The worked values of R81 and R87. -/
theorem test_thresholds_and_derates :
    lubeThreshold defaultTable 660 = 181 ∧ lubeThreshold defaultTable 742 = 202 ∧
      deratePercent 980 1060 50 1013 = 80 ∧ deratePercent 550 700 70 600 = 90 := by decide +kernel

/-- The worked outputs of section 8.11. -/
theorem test_duty_outputs :
    governorRefOf defaultTable 485 = 285 ∧ governorRefOf defaultTable 750 = 550 ∧
      excitationRefOf defaultTable 1725 = 507 ∧ excitationRefOf defaultTable 1880 = 552 ∧
      excitationRefOf defaultTable 3400 = 1000 := by decide +kernel

/-- POWER_ON leaves the self-check running and the engine STOPPED (R28, R184). -/
theorem test_power_on :
    (after .powerOn held).cfg.checking = true ∧ (after .powerOn held).aut.holder = none ∧
      (after .powerOn held).rsq.engine = .stopped := by decide +kernel

/-- A claim that nobody contests is granted at once, and the reply shows it (R119, R120). -/
theorem test_claim_granted :
    let t := after (.claim .stand 7 [0]) (asking .stand kindClaim [0] calm)
    t.aut.holder = some .stand ∧ (t.links.stand.sending.map (·.result)) = some .done ∧ t.links.stand.queue = [] := by
  decide +kernel

/-- The CRC of the nine ASCII digits 1 to 9 under CRC-16/CCITT with initial value FFFF (R167). -/
theorem test_crc : crc16 [0x31, 0x32, 0x33, 0x34, 0x35, 0x36, 0x37, 0x38, 0x39] = 0x29B1 := by decide +kernel

/-- The bytes of a line, one after another. -/
def bytes (bs : List Byte) : List LineInput := bs.map .byte

/-- After a bad check and after a LENGTH of 35 the search for SYNC goes on, and the next frame is received (R167). -/
theorem test_line_resumes :
    (LineState.searching.run .stand
        (bytes ([syncByte, 2, 2, 9, 0, 0] ++ [syncByte, 35] ++ requestWire ⟨kindStatus, 7, []⟩))).2 =
      [.badFrame .stand, .badFrame .stand, .goodFrame .stand kindStatus 7 []] := by decide +kernel

/-- A gap ends the frame in progress, and the byte that ends the gap begins a new one; a gap between frames is nothing; a
break discards a frame uncounted (R167, R107). -/
theorem test_line_gap_and_break :
    (LineState.searching.run .remote
        ([.gap] ++ bytes [syncByte, 4, 3] ++ [.gap] ++ bytes (requestWire ⟨kindDemand, 1, [8, 0]⟩))).2 =
      [.interByteGap .remote, .goodFrame .remote kindDemand 1 [8, 0]] ∧
      LineState.searching.run .remote (bytes [0, syncByte, 4, 3] ++ [.break100ms]) =
        (.searching, [.linkBreak .remote]) := by decide +kernel

/-- The step takes the front command and leaves the rest. -/
theorem test_step_takes_the_front :
    step { calm with pending := [.minuteTick, .replySent .stand] } =
      exec .minuteTick { calm with pending := [.replySent .stand] } := rfl

/-! ### Witnesses: a state and operands that meet the hypotheses of each statement, and of each of its clauses -/

theorem sound_of {s : State} (h : s.aut.handover = none) (laws : OutputsLaw s ∧ TimerLaw s ∧ BellLaw s) : Sound s :=
  ⟨laws.1, laws.2.1, laws.2.2, fun _ some => by simp [h] at some⟩

theorem attn_of {s : State}
    (h : s.links.stand.attn = attnWanted s .stand ∧ s.links.remote.attn = attnWanted s .remote ∧
      s.links.service.attn = attnWanted s .service) : AttnLaw s := by
  intro l
  cases l
  · exact h.1
  · exact h.2.1
  · exact h.2.2

/-- The state a command's settling leaves. -/
def settled (s : State) : State := finish s false s

/-- The Remote claims what the Stand holds. -/
def handover (stage : Stage) (override : Bool) : Handover := ⟨.remote, .stand, 1, stage, some 5000, override⟩

/-- The Stand holds authority, and the Remote has claimed it. -/
def claimed (stage : Stage) (override : Bool) : State := handing (handover stage override) (withActive .remote held)

theorem witness_StepTakesTheFrontCommand :
    { calm with pending := [.minuteTick] }.pending = .minuteTick :: [] ∧ calm.pending = [] := by decide +kernel

/-- A part with a line ACTIVE, a store write in progress and a turning engine. -/
def busyPart : State :=
  { calm with
    ins := { calm.ins with emergencyStop := ⟨true, true, none, none⟩ }
    spd := { calm.spd with measured := 1 }
    cfg := { calm.cfg with writing := true } }

theorem witness_PowerOnAndResetLineResetThePart :
    (Instr.powerOn = .powerOn ∧ (after .powerOn busyPart).cfg.storeGood = false ∧
        (busyPart.ins.discrete .emergencyStop).level = true) ∧
      (Instr.resetLine = .resetLine ∧ (after .resetLine calm).cfg.storeGood = true ∧
        (calm.ins.discrete .emergencyStop).level = false) := by decide +kernel

/-- Checking, with the engine as it was last seen. -/
def checking (s : State) : State := { s with cfg := { s.cfg with checking := true } }

/-- Entry 0 is ACTIVE. -/
def tripped (s : State) : State :=
  { s with pru := { s.pru.setEntry 0 ⟨.active, true, false, false, 1, none⟩ with bell := true } }

/-- The debounced level of RUN is on. -/
def runOn (s : State) : State :=
  { s with aut := { s.aut with trainline := { s.aut.trainline with wires :=
      { s.aut.trainline.wires with run := ⟨true, true, none⟩ } } } }

theorem witness_SelfCheckEndChoosesTheFirstState :
    (let ok (s : State) : Prop := s.cfg.checking = true ∧ s.rsq.engine = .stopped ∧ s.aut.holder = none ∧
        s.aut.trainline.state = .absent ∧ s.aut.handover = none ∧ s.iru.state = .off;
      ok State.reset ∧ ok (checking { calm with spd := { calm.spd with measured := 1 } }) ∧
        ok (checking (tripped calm)) ∧ ok (checking (runOn calm)) ∧
        (tripped calm).pru.shutdownInService = true ∧ (runOn calm).aut.trainline.used.run = true) := by decide +kernel

/-! #### The laws -/

/-- Whether every field of a table lies in its range, field by field. -/
def inRangeByField (t : Table) : Bool :=
  (List.finRange 33).all fun f => (List.finRange 5).all fun g =>
    match fieldSpec g f with
    | some spec => decide (spec.lo ≤ t.field g f) && decide (t.field g f ≤ spec.hi)
    | none => true

theorem in_range_of {t : Table} (all : inRangeByField t = true) : t.InRange := by
  intro g f spec h
  have hg : g < 5 := by
    by_contra k
    match g, k with
    | n + 5, _ => simp [fieldSpec, groupFields] at h
  have hf : f < 33 := by
    obtain ⟨k, -⟩ := List.getElem?_eq_some_iff.mp h
    have := (by decide : ∀ g : Fin 5, (groupFields g).length ≤ 33) ⟨g, hg⟩
    simp only at this
    omega
  have one := List.all_eq_true.mp (List.all_eq_true.mp all ⟨f, hf⟩ (List.mem_finRange _)) ⟨g, hg⟩ (List.mem_finRange _)
  simp only [h, Bool.and_eq_true, decide_eq_true_eq] at one
  exact one

theorem default_in_range : defaultTable.InRange := in_range_of (by decide +kernel)

/-- A command waiting. -/
def waiting (s : State) : State := { s with pending := [.minuteTick] }

/-- RUNNING at notch 0, the Stand holding authority with the Remote's claim in AWAIT TAKE. -/
def running : State := waiting (settled (engineIn .running (claimed .awaitTake false)))

/-- CRANKING with the one record open. -/
def cranking : State :=
  let s := engineIn .cranking calm;
  waiting { s with
    rsq := { s.rsq with budget := some 900, history := [⟨0, 1, 0, .inProgress, false, some 620, 0, true⟩] } }

/-- LOCKED OUT by entry 0. -/
def lockedOut : State := waiting (tripped (engineIn .lockedOut calm))

theorem witness_OutputsAndTimersFollowTheEngineState :
    (OutputsLaw cranking ∧ TimerLaw cranking) ∧ ∃ t, step cranking = .next t := by
  refine ⟨?_, _, rfl⟩
  unfold OutputsLaw TimerLaw
  decide +kernel

theorem witness_LockedOutExactlyWithAShutdownInService :
    LockoutLaw lockedOut ∧ lockedOut.rsq.engine.atRest = true ∧ ∃ t, step lockedOut = .next t := by
  refine ⟨?_, rfl, _, rfl⟩
  unfold LockoutLaw
  decide +kernel

theorem cranking_history : HistoryLaw cranking := by
  refine ⟨by decide +kernel, by decide +kernel, by decide +kernel, by decide +kernel, fun _ => ⟨_, rfl, rfl, rfl⟩,
    fun h => ?_, fun h => absurd rfl h, by decide +kernel, fun headroom h => ?_⟩
  · cases h
  · cases h
    decide +kernel

theorem default_rises : defaultTable.LoadsRise := by
  unfold Table.LoadsRise
  decide +kernel

theorem witness_CrankHistoryStaysWithinItsBudget :
    HistoryLaw cranking ∧ DurationLaw cranking ∧ ∃ t, step cranking = .next t :=
  ⟨cranking_history,
    ⟨⟨default_in_range, default_in_range, default_in_range, default_rises, default_rises⟩, by decide +kernel,
      fun _ h => (by cases h), fun _ h => (by cases h)⟩,
    _, rfl⟩

theorem witness_ProtectionTableStaysLawful :
    (ProtectionLaw lockedOut ∧ BellLaw lockedOut) ∧ lockedOut.pru.bell = true ∧ ∃ t, step lockedOut = .next t := by
  refine ⟨?_, rfl, _, rfl⟩
  unfold ProtectionLaw BellLaw EntryRec.Lawful EntryRec.EventLawful
  decide +kernel

theorem witness_TheNotchStepsByOneAndRestsOutsideRunning :
    NotchLaw cranking ∧ LoadLaw cranking ∧ cranking.rsq.engine.runningFamily = false ∧
      (after .minuteTick cranking).rsq.engine.runningFamily = false ∧ cranking.iru.state = .off := by
  unfold NotchLaw LoadLaw
  decide +kernel

theorem witness_IdleLaw_cranking : IdleLaw cranking := by
  unfold IdleLaw
  decide +kernel

theorem witness_LoadReferenceStaysWithinTheNotch : LoadReferenceLaw running ∧ ∃ t, step running = .next t := by
  refine ⟨⟨?_, ?_, ⟨default_in_range, default_in_range, default_in_range, default_rises, default_rises⟩, ?_⟩, _, rfl⟩
  · unfold NotchLaw
    decide +kernel
  · unfold LoadLaw
    decide +kernel
  · decide +kernel

theorem running_authority : AuthorityLaw running := by
  refine ⟨fun l => ?_, fun h e => ?_, by decide +kernel⟩
  · cases l <;> decide +kernel
  · cases e
    decide +kernel

theorem witness_EffectiveNotchAndAuthorityAreCurrent :
    (AuthorityLaw running ∧ EffectiveLaw running) ∧ ClaimLaw running ∧ running.aut.handover.isSome = true ∧
      ∃ t, step running = .next t := by
  refine ⟨⟨running_authority, by unfold EffectiveLaw; decide +kernel⟩, fun h e k => ?_, rfl, _, rfl⟩
  cases e
  cases k

/-- The Service holds authority, with a speed force and a masked entry. -/
def servicing : State :=
  let s := heldBy .service (withActive .service calm);
  waiting { s with
    spd := { s.spd with force := some 100 }
    pru := s.pru.setEntry 6 { s.pru.entry 6 with masked := true } }

theorem witness_SourcesForcesAndMasksStayLawful :
    (SourceLaw servicing ∧ ServiceLaw servicing) ∧ forcesActive servicing = true ∧
      (servicing.pru.entry 6).masked = true ∧ ∃ t, step servicing = .next t := by
  refine ⟨⟨fun l => ?_, ?_⟩, by decide +kernel, by decide +kernel, _, rfl⟩
  · unfold FramedSource.Lawful
    cases l <;> decide +kernel
  · unfold ServiceLaw
    decide +kernel

/-- A full queue and a full latch buffer. -/
def queued : State :=
  let s := settled (withActive .stand calm);
  waiting (settled { s with
    links := s.links.setLink .stand
      { s.links.stand with queue := List.replicate 4 ⟨2, 0, List.replicate 32 0⟩, latch := some (List.replicate 8 0) } })

theorem witness_LinkInterfacesStayLawful :
    (QueueLaw queued ∧ AttnLaw queued) ∧ queued.links.stand.queue.length = 4 ∧ ∃ t, step queued = .next t := by
  refine ⟨⟨fun l => ?_, attn_of (by decide +kernel)⟩, by decide +kernel, _, rfl⟩
  cases l <;> refine ⟨by decide +kernel, by decide +kernel, fun bytes h => ?_⟩ <;> cases h
  decide +kernel

/-- RUNNING at idle, warm, the batteries charged, the Stand holding authority, its demand 0 heard. -/
def idling : State :=
  let s := engineIn .running held;
  waiting (settled { s with
    ins := { s.ins with
      coolant := { s.ins.coolant with given := 750 }, battery := { s.ins.battery with given := 700 } }
    iru := { s.iru with state := .idleDwell, idleDwell := some 600000 } })

theorem witness_IdleReductionStaysLawful :
    IdleLaw idling ∧ idling.iru.state = .idleDwell ∧ (∃ t, step idling = .next t) ∧ AuthorityLaw idling := by
  refine ⟨?_, by decide +kernel, ⟨_, rfl⟩, fun l => ?_, fun h e => ?_, by decide +kernel⟩
  · unfold IdleLaw
    decide +kernel
  · cases l <;> decide +kernel
  · cases e

/-! #### Frames and screening -/

theorem witness_RequestFramesRoundTrip :
    (List.replicate 32 (0 : Byte)).length ≤ 32 ∧ syncByte ∉ ([0x00, 0xFF] : List Byte) ∧
      (0 : BitVec 16) ≠ crc16 [34, 1, 7] := by decide +kernel

/-- A link state. -/
def linkIn (k : LinkState) (l : Link) (s : State) : State :=
  { s with aut := s.aut.setSource l { resetSource with linkState := k } }

theorem witness_FramesGoByTheLinkState :
    (List.replicate 32 (0 : Byte)).length ≤ 32 ∧ ((linkIn .inert .remote calm).aut.source .remote).linkState = .inert ∧
      (queued.links.link .stand).queue.length = 4 ∧ (queued.aut.source .stand).envelope.isSome = true ∧
      (calm.aut.source .service).linkState = .down := by decide +kernel

theorem witness_ASilentOrBrokenSourceIsDropped :
    (Instr.linkBreak .stand = .linkBreak .stand ∧ held.aut.holds .stand = true ∧
        held.aut.trainline.state ≠ .live ∧ held.rsq.engine ≠ .unloading) ∧
      ((running.aut.source .remote).linkState = .active ∧ (running.aut.source .remote).freshness.isSome = true ∧
        running.aut.holds .remote = false ∧ running.aut.claimedBy .remote = true) ∧
      servicing.aut.holds .service = true ∧ (calm.aut.source .remote).freshness = none := by decide +kernel

theorem witness_RequestsAreScreenedInOrder :
    (let s := withFrame .stand 0x40 [] (linkIn .inert .stand calm);
      Front .stand ⟨0x40, 7, []⟩ s ∧ (Instr.unknownKind .stand 0x40 7 []).wf = true ∧
        (s.aut.source .stand).linkState = .inert) ∧
      (let s := checking (withFrame .stand kindEnrol [] calm);
      Front .stand ⟨kindEnrol, 7, []⟩ s ∧ (s.aut.source .stand).linkState ≠ .inert ∧ s.cfg.checking = true) ∧
      (let s := withFrame .stand 0x40 [] calm;
      Front .stand ⟨0x40, 7, []⟩ s ∧ s.cfg.checking = false ∧ deviates .stand ⟨0x40, 7, []⟩ s = false ∧
        knownKind 0x40 = false) ∧
      (let s := withFrame .stand kindDemand [0, 0] calm;
      Front .stand ⟨kindDemand, 7, [0, 0]⟩ s ∧ deviates .stand ⟨kindDemand, 7, [0, 0]⟩ s = false ∧
        (s.aut.source .stand).linkState = .down) ∧
      (let s := withFrame .stand kindStatus [] calm;
      Front .stand ⟨kindStatus, 7, []⟩ s ∧ deviates .stand ⟨kindStatus, 7, []⟩ s = false) ∧
      (let s := asking .stand kindForce [] calm;
      Front .stand ⟨kindForce, 7, []⟩ s ∧ deviates .stand ⟨kindForce, 7, []⟩ s = false ∧
        serviceKind kindForce = true ∧ (s.aut.source .stand).linkState = .active) := by
  unfold Front
  decide +kernel

/-- A reply is being sent after a request on a DOWN link, and after one that finds entry 0 in service and authority held. -/
theorem witness_RequestsAreScreenedInOrder_status :
    (let t := after (.status .stand 7 []) (withFrame .stand kindStatus [] calm);
      (t.links.link .stand).sending.isSome = true ∧ t.ntu.e ≤ 8 ∧ ∀ e : Entry, (t.pru.entry e).inService = false) ∧
      (let t := after (.claim .stand 7 [0]) (asking .stand kindClaim [0] (tripped calm));
      (t.links.link .stand).sending.isSome = true ∧ (t.pru.entry 0).inService = true ∧ t.aut.holds .stand = true) := by
  decide +kernel

theorem witness_DeviationsBreakTheHandover :
    (let s := withFrame .stand kindKeep [] (claimed .awaitTake false);
      asRequest (.keep .stand 7 []) = some (.stand, ⟨kindKeep, 7, []⟩) ∧ (Instr.keep .stand 7 []).wf = true ∧
        Front .stand ⟨kindKeep, 7, []⟩ s ∧ s.cfg.checking = false ∧ (s.aut.source .stand).linkState ≠ .inert ∧
        s.aut.handover = some (handover .awaitTake false) ∧ s.aut.holder = some (linkSource .stand) ∧
        s.rsq.engine ≠ .unloading) ∧
      (let s := withFrame .remote kindTake [2] (claimed .awaitTake false);
      Front .remote ⟨kindTake, 7, [2]⟩ s ∧ (handover .awaitTake false).claimant = .remote ∧
        ¬(([2] : List Byte).map (·.toNat) = [(handover .awaitTake false).number])) := by
  unfold Front
  decide +kernel

/-- The request is heard from an ACTIVE source. -/
theorem witness_LatchCopiesAGroup :
    Heard .stand ⟨kindLatch, 7, [2, 0]⟩ (asking .stand kindLatch [2, 0] calm) ∧
      Heard .stand ⟨kindLatch, 7, [1, 1]⟩ (asking .stand kindLatch [1, 1] calm) ∧
      Heard .remote ⟨kindLatch, 7, [0, 1]⟩ (asking .remote kindLatch [0, 1] calm) ∧
      Heard .service ⟨kindLatch, 7, [3, 0]⟩ (asking .service kindLatch [3, 0] calm) ∧
      Heard .stand ⟨kindLatch, 7, []⟩ (asking .stand kindLatch [] calm) ∧
      Heard .stand ⟨kindLatch, 7, [0, 0]⟩ (asking .stand kindLatch [0, 0] queued) ∧
      (queued.links.link .stand).latch.isSome = true := by
  unfold Heard Front
  decide +kernel

theorem witness_ReadLatchedEmptiesTheBuffer :
    Heard .stand ⟨kindRead, 7, [0]⟩ (asking .stand kindRead [0] queued) ∧
      Heard .stand ⟨kindRead, 7, [0]⟩ (asking .stand kindRead [0] calm) ∧
      (queued.links.link .stand).latch.isSome = true ∧ (calm.links.link .stand).latch = none := by
  unfold Heard Front
  decide +kernel

theorem witness_FixedReadsShowTheState :
    Heard .stand ⟨kindRead, 7, [2]⟩ (asking .stand kindRead [2] calm) ∧
      Heard .stand ⟨kindRead, 7, [4]⟩ (asking .stand kindRead [4] calm) ∧
      (fieldSpec 4 29).isSome = true ∧
      Heard .stand ⟨kindRead, 7, [5, 4, 29]⟩ (asking .stand kindRead [5, 4, 29] calm) ∧
      Heard .stand ⟨kindRead, 7, [6]⟩ (asking .stand kindRead [6] calm) ∧
      (asRequest (.readEngineRunRecord .stand 7 [7]) = some (.stand, ⟨kindRead, 7, [7]⟩) ∧
        (Instr.readEngineRunRecord .stand 7 [7]).wf = true ∧
        Heard .stand ⟨kindRead, 7, [7]⟩ (asking .stand kindRead [7] calm)) ∧
      ((Instr.readConfigurationEntry .stand 7 [5, 4, 30]).wf = true ∧ fieldSpec 4 30 = none ∧
        Heard .stand ⟨kindRead, 7, [5, 4, 30]⟩ (asking .stand kindRead [5, 4, 30] calm)) := by
  unfold Heard Front
  decide +kernel

/-- An envelope present and absent, a handover and none, a decoded notch within 8. -/
theorem witness_FixedReadsShowTheState_sources :
    (let s := asking .stand kindRead [4] (claimed .awaitTake true);
      Heard .stand ⟨kindRead, 7, [4]⟩ s ∧ s.aut.handover = some (handover .awaitTake true) ∧
        (s.aut.source .service).envelope = none ∧
        (s.aut.source .stand).envelope = some ⟨8, true, true, true, 50⟩ ∧ s.aut.trainline.decoded ≤ 8) ∧
      calm.aut.handover = none := by
  unfold Heard Front
  decide +kernel

theorem witness_RecordReadsCarryWholeRecords :
    Heard .stand ⟨kindRead, 7, [1, 5]⟩ (asking .stand kindRead [1, 5] cranking) ∧
      Heard .stand ⟨kindRead, 7, [1, 6]⟩ (asking .stand kindRead [1, 6] cranking) ∧
      Heard .stand ⟨kindRead, 7, [3, 6]⟩ (asking .stand kindRead [3, 6] calm) ∧
      Heard .stand ⟨kindRead, 7, [3, 7]⟩ (asking .stand kindRead [3, 7] calm) := by
  unfold Heard Front
  decide +kernel

/-! #### Sources and authority -/

theorem witness_EnrolAnswers :
    (let s := withFrame .stand kindEnrol [1, 8, 7, 200] held;
      Front .stand ⟨kindEnrol, 7, [1, 8, 7, 200]⟩ s ∧ s.cfg.checking = false ∧
        (s.aut.source .stand).linkState = .active ∧ deviates .stand ⟨kindEnrol, 7, [1, 8, 7, 200]⟩ s = false ∧
        s.aut.holds .stand = true) ∧
      (let s := withFrame .remote kindEnrol [3, 0, 0, 10] calm;
      Front .remote ⟨kindEnrol, 7, [3, 0, 0, 10]⟩ s ∧ (s.aut.source .remote).linkState ≠ .inert ∧
        deviates .remote ⟨kindEnrol, 7, [3, 0, 0, 10]⟩ s = false ∧
        enrolOperand s.cfg.active .remote [3, 0, 0, 10] = some ⟨0, false, false, false, 10⟩) ∧
      (let s := withFrame .remote kindEnrol [3, 9, 0, 10] calm;
      Front .remote ⟨kindEnrol, 7, [3, 9, 0, 10]⟩ s ∧ deviates .remote ⟨kindEnrol, 7, [3, 9, 0, 10]⟩ s = false ∧
        enrolOperand s.cfg.active .remote [3, 9, 0, 10] = none ∧ s.aut.holds .remote = false ∧
        s.rsq.engine ≠ .unloading) := by
  unfold Front
  decide +kernel

theorem witness_DemandOfANonHolderIsOnlyRecorded :
    (Ready .stand ⟨kindDemand, 7, [8, 2]⟩ (asking .stand kindDemand [8, 2] calm) ∧ calm.aut.holds .stand = false) ∧
      Ready .stand ⟨kindDemand, 7, [9, 0]⟩ (asking .stand kindDemand [9, 0] held) ∧
      Ready .stand ⟨kindDemand, 7, [0, 3]⟩ (asking .stand kindDemand [0, 3] calm) := by
  unfold Ready Heard Front
  decide +kernel

/-- The Stand's envelope replaced. -/
def enveloped (e : Envelope) (s : State) : State :=
  { s with aut := s.aut.setSource .stand { s.aut.source .stand with envelope := some e } }

theorem witness_DemandOfTheHolder :
    (let ok (run : Byte) (e : Envelope) : Prop :=
        Ready .stand ⟨kindDemand, 7, [8, run]⟩ (enveloped e (asking .stand kindDemand [8, run] held));
      ok 0 ⟨8, true, true, true, 50⟩ ∧ ok 0 ⟨7, true, true, true, 50⟩ ∧ ok 1 ⟨8, false, true, true, 50⟩ ∧
        ok 2 ⟨8, true, false, true, 50⟩) ∧
      held.aut.holds .stand = true ∧ held.iru.state ≠ .stopping ∧ held.iru.state ≠ .watch ∧
      held.rsq.engine ≠ .unloading := by
  unfold Ready Heard Front
  decide +kernel

/-- The batteries at a tenth-volt value. -/
def charged (v : Int) (s : State) : State :=
  { s with ins := { s.ins with battery := { s.ins.battery with given := v } } }

/-- `n` closed crank records of one duration. -/
def cranked (n tenths : Nat) (s : State) : State :=
  { s with rsq := { s.rsq with history := List.replicate n ⟨0, 1, tenths, .noFire, false, some 600, 0, false⟩ } }

/-- A discrete input is ACTIVE. -/
def inputOn (d : Discrete) (s : State) : State := { s with ins := s.ins.setDiscrete d ⟨true, true, none, none⟩ }

/-- A speed force stands. -/
def forcedSpeed (s : State) : State := { s with spd := { s.spd with force := some 100 } }

/-- CONFIG DEFAULTED is set. -/
def defaulted (s : State) : State := { s with cfg := { s.cfg with defaulted := true } }

theorem permitted_boundary : Permitted (charged 620 (cranked 5 170 held)) := by
  unfold Permitted
  decide +kernel

/-- At rest: accepted, then refused for each reason in the order of R5; and in UNLOADING and RUNNING. -/
theorem witness_AHolderStartIsAcceptedOrRefused :
    ∀ s ∈ [charged 620 (cranked 5 170 held), inputOn .turningGear (charged 620 held), charged 619 held,
        charged 620 (cranked 6 0 held), charged 620 (cranked 5 171 held), forcedSpeed (charged 620 held),
        defaulted (charged 620 held), engineIn .autoStopped (charged 620 held), engineIn .unloading held,
        engineIn .running held],
      Ready .stand ⟨kindDemand, 7, [8, 1]⟩ (asking .stand kindDemand [8, 1] s) ∧ s.aut.holds .stand = true ∧
        (s.aut.source .stand).envelope = some ⟨8, true, true, true, 50⟩ ∧ s.iru.state ≠ .stopping ∧
        (s.aut.handover = none ∧ OutputsLaw s ∧ TimerLaw s ∧ BellLaw s) := by
  unfold Ready Heard Front OutputsLaw TimerLaw BellLaw
  decide +kernel

/-- Applied notch 2. -/
def atNotch (n : Nat) (s : State) : State := { s with ntu := { s.ntu with applied := n } }

/-- One crank record, open and cranking, or FIRED. -/
def recorded (o : CrankOutcome) (s : State) : State :=
  { s with rsq := { s.rsq with history := [⟨0, 1, 10, o, false, some 620, 0, true⟩] } }

theorem witness_AHolderStopIsObeyedByTheEngineState :
    (∀ s ∈ [engineIn .prelube held, engineIn .priming held, engineIn .crankRest held,
        recorded .inProgress (engineIn .cranking held), recorded .fired (engineIn .accelerating held),
        atNotch 2 (engineIn .running held), atNotch 2 (engineIn .unloading held), engineIn .rundown held,
        engineIn .autoStopped held, held, engineIn .lockedOut held],
      Ready .stand ⟨kindDemand, 7, [8, 2]⟩ (asking .stand kindDemand [8, 2] s) ∧ s.aut.holds .stand = true ∧
        (s.aut.source .stand).envelope = some ⟨8, true, true, true, 50⟩ ∧
        (s.aut.handover = none ∧ OutputsLaw s ∧ TimerLaw s ∧ BellLaw s)) ∧
      (recorded .inProgress held).rsq.history = [] ++ [⟨0, 1, 10, .inProgress, false, some 620, 0, true⟩] := by
  unfold Ready Heard Front OutputsLaw TimerLaw BellLaw
  decide +kernel

theorem witness_ClaimIsTestedInOrder :
    Ready .stand ⟨kindClaim, 7, []⟩ (asking .stand kindClaim [] calm) ∧
      (Ready .stand ⟨kindClaim, 7, [0]⟩ (asking .stand kindClaim [0] held) ∧ held.aut.holds .stand = true) ∧
      (Ready .remote ⟨kindClaim, 7, [0]⟩ (asking .remote kindClaim [0] (claimed .awaitYield false)) ∧
        (claimed .awaitYield false).aut.handover.isSome = true) ∧
      Ready .remote ⟨kindClaim, 7, [1]⟩ (asking .remote kindClaim [1] held) ∧
      Ready .service ⟨kindClaim, 7, [0]⟩ (asking .service kindClaim [0] (engineIn .running held)) ∧
      (Ready .stand ⟨kindClaim, 7, [0]⟩ (asking .stand kindClaim [0] calm) ∧ calm.aut.holder = none) ∧
      (Ready .remote ⟨kindClaim, 7, [0]⟩ (asking .remote kindClaim [0] held) ∧ held.aut.holder = some .stand) ∧
      (let s := heldBy .trainline calm;
      Ready .stand ⟨kindClaim, 7, [1]⟩ (asking .stand kindClaim [1] s) ∧ s.aut.trainline.effective = 0) := by
  unfold Ready Heard Front
  decide +kernel

/-- The trainline is LIVE, its RUN wire on. -/
def live (s : State) : State :=
  { s with aut := { s.aut with trainline := { (runOn s).aut.trainline with state := .live } } }

theorem witness_YieldMovesAuthority :
    (∀ x ∈ [((5 : Byte), held), (4, withActive .stand calm), (0, claimed .awaitYield false), (0, held),
        (0, live held), (2, held), (2, live held), (3, claimed .awaitYield false), (4, claimed .awaitYield false),
        (1, held)],
      Ready .stand ⟨kindYield, 7, [x.1]⟩ (withFrame .stand kindYield [x.1] x.2)) ∧
      Ready .stand ⟨kindYield, 7, []⟩ (asking .stand kindYield [] held) ∧
      Ready .service ⟨kindYield, 7, [0]⟩ (asking .service kindYield [0] servicing) ∧
      Ready .service ⟨kindYield, 7, [2]⟩ (asking .service kindYield [2] (runOn servicing)) ∧
      servicing.aut.holds .service = true ∧ held.aut.holds .stand = true ∧
      (claimed .awaitYield false).aut.inStage .awaitYield = true ∧ calm.aut.holds .stand = false := by
  unfold Ready Heard Front
  decide +kernel

theorem witness_TakeAndKeepEndTheHandover :
    (let ok (l : Link) (kind : Byte) (payload : List Byte) (s : State) : Prop :=
        Ready l ⟨kind, 7, payload⟩ (withFrame l kind payload s);
      ok .remote kindTake [] (withActive .remote held) ∧ ok .remote kindTake [1] (claimed .awaitYield false) ∧
        ok .remote kindTake [1] (claimed .awaitTake false) ∧ ok .remote kindKeep [] (claimed .awaitYield false) ∧
        ok .stand kindKeep [] held ∧ ok .stand kindKeep [] (claimed .awaitYield false) ∧
        ok .stand kindKeep [] (claimed .awaitYield true)) ∧
      (claimed .awaitTake false).aut.handover = some (handover .awaitTake false) ∧
      (claimed .awaitYield true).aut.handover = some (handover .awaitYield true) ∧
      (claimed .awaitYield true).aut.holds .stand = true := by
  unfold Ready Heard Front
  decide +kernel

theorem witness_AHandoverStageExpires :
    (∀ s ∈ [claimed .awaitYield false, claimed .awaitYield true, claimed .awaitTake false],
      s.aut.handover.isSome = true ∧ s.rsq.engine ≠ .unloading) ∧
      (handover .awaitYield true).timer.isSome = true ∧ (handover .awaitYield true).stage = .awaitYield ∧
      (handover .awaitTake false).stage = .awaitTake := by decide +kernel

/-- A wire whose level differs from its debounced one. -/
def wireMoved (w : Wire) (s : State) : State :=
  { s with aut := { s.aut with trainline := { s.aut.trainline with
      wires := s.aut.trainline.wires.setWire w ⟨true, false, some 60⟩ } } }

theorem witness_TrainlineWiresAreDebounced :
    (∀ w ∈ [Wire.w1, .w4, .run, .stop],
      ((wireMoved w calm).aut.trainline.wires.wire w).timer.isSome = true ∧
        (wireMoved w calm).aut.trainline.forced = none) ∧
      held.aut.holder ≠ some .trainline ∧ calm.aut.holder = none ∧ codeNotch true false false false = none := by decide +kernel

/-- Every timer of the trainline runs. -/
def trainlineTimed (s : State) : State :=
  { s with aut := { s.aut with trainline := { (live s).aut.trainline with
      settle := some 60, invalidTimer := some 500, stopHold := some 1000, effective := 3 } } }

theorem witness_TrainlineTimersDecodeAndStop :
    (let s := trainlineTimed held;
      s.aut.trainline.settle.isSome = true ∧ s.aut.trainline.invalidTimer.isSome = true ∧
        s.aut.trainline.stopHold.isSome = true ∧ s.aut.holder ≠ some .trainline ∧ s.rsq.engine ≠ .unloading) ∧
      (let s := trainlineTimed (handing ⟨.remote, .trainline, 1, .awaitYield, some 5000, false⟩ (heldBy .trainline held));
      s.aut.holder = some .trainline ∧ s.aut.inStage .awaitYield = true ∧ s.aut.trainline.effective ≠ 0 ∧
        s.iru.state ≠ .stopping ∧ s.iru.state ≠ .watch) ∧
      (let s := trainlineTimed (atNotch 2 (engineIn .running (heldBy .trainline held)));
      s.aut.holder = some .trainline ∧ s.rsq.engine = .running ∧ 2 ≤ s.ntu.applied) := by decide +kernel

/-! #### Starting, cranking, coming to rest -/

theorem witness_PrelubeAndPrimeLimitsFailTheStart :
    ∀ s ∈ [timed (fun t => { t with prelubeLimit := some 120000 }) (engineIn .prelube calm),
        timed (fun t => { t with prime := some 30000 }) (engineIn .priming calm)],
      (s.aut.handover = none ∧ OutputsLaw s ∧ TimerLaw s ∧ BellLaw s) ∧ s.cfg.checking = false ∧
        (s.pru.entry 5).state = .idle ∧
        (s.rsq.engine = .prelube ∧ s.rsq.timers.prelubeLimit.isSome = true ∨
          s.rsq.engine = .priming ∧ s.rsq.timers.prime.isSome = true) := by
  unfold OutputsLaw TimerLaw BellLaw
  decide +kernel

/-- Lube and fuel pressures. -/
def pressures (lube fuel : Int) (s : State) : State :=
  { s with ins := { s.ins with lube := { s.ins.lube with given := lube }, fuel := { s.ins.fuel with given := fuel } } }

/-- The minimum prelube running, at a pressure below and at PRELUBE PRESSURE, below and at PRIME PRESSURE, permitted or
not. -/
theorem witness_PrelubeAdvancesOnPressure :
    (∀ s ∈ [pressures 39 0 calm, pressures 40 149 calm, pressures 40 150 (charged 620 calm), pressures 40 150 calm],
      (let u := timed (fun t => { t with prelubeMinimum := some 45000 }) (engineIn .prelube s);
      (u.aut.handover = none ∧ OutputsLaw u ∧ TimerLaw u ∧ BellLaw u) ∧ u.rsq.engine = .prelube ∧
        u.rsq.timers.prelubeMinimum.isSome = true ∧ u.rsq.stopCause = .none)) ∧
      Permitted (pressures 40 150 (charged 620 calm)) ∧ ¬Permitted (pressures 40 150 calm) ∧
      failingPermissive (pressures 40 150 calm) = some .battery := by
  unfold OutputsLaw TimerLaw BellLaw Permitted
  decide +kernel

/-- CRANKING or ACCELERATING with one record and the timers that could end the attempt. -/
def attempting (e : Engine) (o : CrankOutcome) : State :=
  let s := timed
    (fun t =>
      if e = .cranking then
        { t with engage := some 3500, crankLimit := some 15000, batteryDropout := some 1000 }
      else { t with acceleration := some 30000, stall := some 1000 })
    (recorded o (engineIn e calm));
  { s with rsq := { s.rsq with budget := if e = .cranking then some 900 else none } }

theorem witness_FailedAttemptsGoToCrankRest :
    (∀ s ∈ [attempting .cranking .inProgress, attempting .accelerating .fired],
      (s.aut.handover = none ∧ OutputsLaw s ∧ TimerLaw s ∧ BellLaw s) ∧ s.rsq.history.length = 1 ∧
        s.rsq.lubeArmed = false) ∧
      (let x := (attempting .cranking .inProgress).rsq;
      x.timers.engage = some 3500 ∧ x.timers.crankLimit = some 15000 ∧ x.timers.batteryDropout.isSome = true ∧
        x.budget = some 900 ∧ 15000 / 100 ≤ 900) ∧
      (let x := (attempting .accelerating .fired).rsq;
      x.timers.acceleration.isSome = true ∧ x.timers.stall.isSome = true) := by
  unfold OutputsLaw TimerLaw BellLaw
  decide +kernel

theorem witness_AFilledBudgetAbandonsTheStart :
    (let s := attempting .cranking .inProgress;
      (s.aut.handover = none ∧ OutputsLaw s ∧ TimerLaw s ∧ BellLaw s) ∧ s.rsq.engine = .cranking ∧
        s.rsq.budget = some 900 ∧ s.rsq.history = [] ++ [⟨0, 1, 10, .inProgress, false, some 620, 0, true⟩] ∧
        s.rsq.stopCause = .none ∧ s.rsq.lubeArmed = false) := by
  unfold OutputsLaw TimerLaw BellLaw
  decide +kernel

/-- A headroom of 150 tenths, as long as the crank limit timer, the starter engaged. -/
theorem witness_AFilledBudgetAbandonsTheStart_headroom :
    (let u := timed (fun t => { t with engage := none }) (attempting .cranking .inProgress);
      let s := { u with rsq := { u.rsq with budget := some 150 } };
      (s.aut.handover = none ∧ OutputsLaw s ∧ TimerLaw s ∧ BellLaw s) ∧ s.rsq.engine = .cranking ∧
        s.rsq.budget = some 150 ∧ s.rsq.timers.crankLimit = some 15000 ∧ 150 ≤ 15000 / 100 ∧
        s.rsq.timers.engage = none ∧ s.rsq.stopCause = .none ∧ s.rsq.lubeArmed = false ∧
        s.rsq.history = [] ++ [⟨0, 1, 10, .inProgress, false, some 620, 0, true⟩]) := by
  unfold OutputsLaw TimerLaw BellLaw
  decide +kernel

theorem witness_LubeArmingAndMinuteTick :
    (timed (fun t => { t with lubeArming := some 10000 }) (engineIn .running calm)).rsq.timers.lubeArming.isSome = true := by
  decide +kernel

/-- CRANK REST on attempt `n`, one of its two conditions met. -/
def resting (n : Nat) (confirmed : Bool) (s : State) : State :=
  let u := timed
    (fun t => { t with rest := if confirmed then some 60000 else none, zeroHold := if confirmed then none else some 1000 })
    (engineIn .crankRest s);
  { u with rsq := { u.rsq with attempt := n, zeroConfirmed := confirmed } }

theorem witness_CrankRestEnds :
    (∀ s ∈ [resting 2 true (charged 620 calm), resting 2 false (charged 620 calm), resting 2 true calm,
        resting 3 true calm],
      (s.aut.handover = none ∧ OutputsLaw s ∧ TimerLaw s ∧ BellLaw s) ∧ s.cfg.checking = false ∧
        s.rsq.engine = .crankRest ∧ s.rsq.stopCause = .none ∧ (s.pru.entry 5).state = .idle ∧
        (s.rsq.timers.rest.isSome = true ∨ s.rsq.timers.zeroHold.isSome = true)) ∧
      Permitted (charged 620 calm) ∧ ¬Permitted calm ∧ (resting 2 true calm).cfg.active.maxAttempts = 3 ∧
      (let s := timed (fun t => { t with zeroHold := some 1000 }) (resting 2 false calm);
      s.rsq.timers.zeroHold.isSome = true ∧ s.rsq.zeroConfirmed = false) := by
  unfold OutputsLaw TimerLaw BellLaw Permitted
  decide +kernel

/-- RUNDOWN at rest, with a stop cause and restart pending. -/
def runningDown (c : StopCause) (restart : Bool) (s : State) : State :=
  let u := timed (fun t => { t with zeroHold := some 2000 }) (engineIn .rundown s);
  { u with rsq := { u.rsq with stopCause := c, restartPending := restart } }

theorem witness_RundownAndUnloadEnd :
    (∀ s ∈ [runningDown .command false calm, runningDown .autoStop true (charged 620 calm),
        runningDown .autoStop true calm, timed (fun t => { t with unload := some 30000 }) (engineIn .unloading calm)],
      (s.aut.handover = none ∧ OutputsLaw s ∧ TimerLaw s ∧ BellLaw s) ∧ s.iru.state ≠ .stopping ∧
        (s.rsq.engine = .rundown ∧ s.rsq.timers.zeroHold.isSome = true ∨
          s.rsq.engine = .unloading ∧ s.rsq.timers.unload.isSome = true)) := by
  unfold OutputsLaw TimerLaw BellLaw
  decide +kernel

/-! #### Speed -/

theorem witness_WindowsMeasureTheSpeed :
    (calm.aut.handover = none ∧ OutputsLaw calm ∧ TimerLaw calm ∧ BellLaw calm) ∧ calm.spd.force = none ∧
      (forcedSpeed calm).spd.force = some 100 := by
  unfold OutputsLaw TimerLaw BellLaw
  decide +kernel

/-- Pickup A with a health and counts of windows. -/
def pickupA (failed : Bool) (fails recoveries : Nat) (s : State) : State :=
  { s with spd := { s.spd with a := { s.spd.a with failed := failed, failCount := fails, recoveryCount := recoveries } } }

/-- A silent window at 60 rpm on B is failing, an equal one agrees: at the last count before each change and at the one
before that; and the windows between. -/
theorem witness_WindowsJudgeThePickups :
    (∀ s ∈ [counted 1 15 (pickupA false 4 0 calm), counted 1 15 (pickupA false 3 0 calm),
        counted 1 14 (pickupA false 4 0 calm), counted 15 15 (pickupA true 0 19 calm),
        counted 15 15 (pickupA true 0 18 calm), counted 15 22 (pickupA true 0 19 calm)],
      s.spd.force = none ∧ PickupLaw s) ∧
      (after .windowCompletes (counted 1 15 (pickupA false 4 0 calm))).spd.a.failed = true ∧
      (after .windowCompletes (counted 15 15 (pickupA true 0 19 calm))).spd.a.failed = false ∧
      PickupLaw (pickupA true 0 0 (waiting calm)) ∧ (calm.pru.entry 1).state = .idle ∧
      calm.cfg.active.overspeedLimit ≤ (after .windowCompletes (counted 288 288 calm)).spd.overspeed := by
  unfold PickupLaw
  decide +kernel

/-- SPEED DISAGREE as it stands, with its two counts. -/
def disagreeing (set : Bool) (disagree agree : Nat) (s : State) : State :=
  { s with spd := { s.spd with speedDisagree := set, disagreeCount := disagree, agreeCount := agree } }

/-- Windows 15 rpm apart and 20 apart, at TOL 16, at the last count before each change and at the one before that. -/
theorem witness_WindowsJudgeThePickups_disagree :
    (∀ s ∈ [counted 90 82 (disagreeing false 9 0 calm), counted 90 82 (disagreeing false 8 0 calm),
        counted 90 90 (disagreeing false 9 0 calm), counted 90 90 (disagreeing true 0 9 calm),
        counted 90 90 (disagreeing true 0 8 calm), counted 90 82 (disagreeing true 0 9 calm),
        counted 90 90 (disagreeing true 3 3 (pickupA true 0 0 calm))],
      s.spd.force = none ∧ PickupLaw s) ∧
      (after .windowCompletes (counted 90 82 (disagreeing false 9 0 calm))).spd.speedDisagree = true ∧
      (after .windowCompletes (counted 90 90 (disagreeing true 0 9 calm))).spd.speedDisagree = false ∧
      (after .windowCompletes (counted 90 90 (disagreeing true 3 3 (pickupA true 0 0 calm)))).spd.a.failed = true := by
  unfold PickupLaw
  decide +kernel

/-- Blind windows counted in RUNNING, with the last counts of one pickup. -/
def blinded (lost count : Nat) : State :=
  let s := counted count count (engineIn .running calm);
  { s with spd := { s.spd with lostCount := lost } }

/-- The fourth and the fifth blind window, with measured speed 4 and 0 at the fifth; and one that is not blind. -/
theorem witness_WindowsJudgeThePickups_lost :
    (∀ s ∈ [blinded 3 0, blinded 4 0, blinded 4 1, blinded 4 90],
      s.spd.force = none ∧ PickupLaw s ∧ s.rsq.fuelEnable = true ∧ s.cfg.checking = false ∧
        (s.pru.entry 2).state = .idle) ∧
      (after .windowCompletes (blinded 3 0)).spd.lostCount = 4 ∧
      (let t := after .windowCompletes (blinded 4 1);
      t.spd.senseLost = true ∧ 0 < t.spd.measured ∧ t.rsq.engine = .rundown) ∧
      (let t := after .windowCompletes (blinded 4 0);
      t.spd.senseLost = false ∧ t.rsq.engine = .lockedOut) := by
  unfold PickupLaw
  decide +kernel

theorem witness_WindowsMoveTheRunSequencer :
    (∀ s ∈ [counted 50 50 cranking, counted 49 49 cranking, counted 79 79 (attempting .accelerating .fired),
        counted 78 78 (attempting .accelerating .fired), engineIn .crankRest calm, engineIn .rundown calm, calm,
        engineIn .prelube calm, engineIn .priming calm, engineIn .running calm],
      (s.aut.handover = none ∧ OutputsLaw s ∧ TimerLaw s ∧ BellLaw s) ∧ s.cfg.checking = false ∧
        (after .windowCompletes s).pru.entry 1 = s.pru.entry 1 ∧
        (after .windowCompletes s).pru.entry 2 = s.pru.entry 2) ∧
      cranking.rsq.history = [] ++ [⟨0, 1, 0, .inProgress, false, some 620, 0, true⟩] ∧
      (after .windowCompletes (counted 50 50 cranking)).rsq.engine = .accelerating ∧
      (after .windowCompletes (counted 79 79 (attempting .accelerating .fired))).rsq.engine = .running := by
  unfold OutputsLaw TimerLaw BellLaw
  decide +kernel

/-! #### The engine inputs -/

/-- The coolant channel in a state, about to be converted. -/
def coolantIn (k : ChannelState) (seen : Bool) (good : Nat) : State :=
  { calm with ins := { calm.ins with scanNext := .coolant, coolant :=
    { calm.ins.coolant with
      state := k, goodSeen := seen, goodCount := good, holdTimer := if k = .held then some 5000 else none } } }

theorem witness_ConversionsMoveTheChannel :
    (∀ s ∈ [coolantIn .valid true 0, coolantIn .valid false 0, coolantIn .held true 2, coolantIn .substituted true 1],
      s.ins.scanNext = .coolant ∧ s.ins.scanNext ≠ .fuel ∧ s.rsq.engine ≠ .prelube ∧ s.rsq.engine ≠ .unloading ∧ s.iru.state ≠ .stopping ∧ s.iru.state ≠ .watch) ∧
      ((40#12).toNat = 40 ∧ (39#12).toNat = 39 ∧ (4055#12).toNat = 4055 ∧ (4056#12).toNat = 4056) ∧
      (coolantIn .held true 0).ins.coolant.holdTimer.isSome = true := by decide +kernel

theorem witness_ConversionsMoveTheChannel_battery :
    (let s := due .battery (attempting .cranking .inProgress);
      (s.aut.handover = none ∧ OutputsLaw s ∧ TimerLaw s ∧ BellLaw s) ∧ s.cfg.checking = false ∧
        s.ins.scanNext = .battery ∧ s.rsq.engine = .cranking) := by
  unfold OutputsLaw TimerLaw BellLaw
  decide +kernel

theorem witness_ConversionsMoveTheChannel_lube :
    (let s := due .lube (pressures 0 149 (engineIn .prelube calm));
      (s.aut.handover = none ∧ OutputsLaw s ∧ TimerLaw s ∧ BellLaw s) ∧ s.rsq.timers.prelubeMinimum = none ∧
        s.cfg.active.prelubePressure ≤ (after (.conversion .lube 400) s).ins.lube.given ∧
        (after (.conversion .lube 400) s).rsq.engine = .priming) := by
  unfold OutputsLaw TimerLaw BellLaw
  decide +kernel

theorem witness_ConversionsMoveTheChannel_fuel :
    (let s := due .fuel (charged 620 (engineIn .priming calm));
      (s.aut.handover = none ∧ OutputsLaw s ∧ TimerLaw s ∧ BellLaw s) ∧ Permitted s ∧
        s.cfg.active.primePressure ≤ (after (.conversion .fuel 1000) s).ins.fuel.given ∧
        (after (.conversion .fuel 1000) s).rsq.engine = .cranking) := by
  unfold OutputsLaw TimerLaw BellLaw Permitted
  decide +kernel

/-- RUNNING with the lube arming over, the scan at COOLANT TEMP. -/
def armed : State :=
  let s := due .coolant (engineIn .running calm);
  { s with rsq := { s.rsq with lubeArmed := true } }

theorem witness_ConversionsAreJudged :
    (armed.rsq.engine = .running ∧ armed.rsq.lubeArmed = true ∧ armed.ins.scanNext = .coolant ∧ (armed.pru.entry 6).condition = false) ∧
      (let t := after (.conversion .coolant 3277) armed;
      t.ins.coolant.given = 1100 ∧ t.cfg.active.hotSet = 1100) ∧
      (let t := after (.conversion .coolant 3154) { armed with pru := armed.pru.setEntry 6 ⟨.active, true, false, false, 1, none⟩ };
      t.ins.coolant.given = 1040 ∧ t.cfg.active.hotClear = 1040) ∧
      (let t := after (.conversion .coolant 2048) armed;
      t.cfg.active.coldSet = 400 ∧ t.ins.coolant.given = 500) := by decide +kernel

/-- UNLOADING at notch 2 and ACCELERATING, lube armed; a coolant at and beyond its derate points. -/
theorem witness_ConversionsAreJudged_elsewhere :
    (∀ e ∈ [Engine.accelerating, .unloading],
      (let s := due .lube (atNotch 2 { engineIn e calm with rsq := { enterState e calm.rsq with lubeArmed := true } });
      s.ins.scanNext = .lube ∧ s.rsq.engine = e ∧ s.rsq.lubeArmed = true ∧ 2 ≤ s.ntu.applied)) ∧
      (after (.conversion .coolant 3031) armed).pru.coolantPct = 100 ∧
      (after (.conversion .coolant 3200) armed).pru.coolantPct = 50 ∧ armed.cfg.active.coolantStart = 980 := by
  decide +kernel

/-- A discrete input whose level has changed. -/
def inputMoved (d : Discrete) (level : Bool) (s : State) : State :=
  { s with ins := s.ins.setDiscrete d ⟨level, !level, some 20, none⟩ }

theorem witness_DiscreteInputsAreDebounced :
    (∀ d ∈ [Discrete.emergencyStop, .turningGear, .groundRelay, .starterEngaged], ∀ level ∈ [true, false],
      ((inputMoved d level calm).ins.discrete d).timer.isSome = true ∧
        ((inputMoved d level calm).ins.discrete d).forced = none) ∧
      (tripped calm).rsq.engine ≠ .unloading ∧ (engineIn .cranking calm).rsq.engine = .cranking ∧
      (EntryRec.Lawful true ((tripped calm).pru.entry 0) ∧ ((tripped calm).pru.entry 0).masked = false ∧
        ((tripped calm).pru.entry 0).state = .active) := by
  unfold EntryRec.Lawful
  decide +kernel

/-! #### Protection -/

/-- An entry with a record. -/
def entryIs (e : Entry) (r : EntryRec) (s : State) : State := { s with pru := s.pru.setEntry e r }

theorem witness_AFilterExpiryMakesTheConditionTrue :
    (∀ e ∈ [(3 : Entry), 4, 6, 7, 8, 12],
      (let s := entryIs e ⟨.idle, false, true, false, 0, some 5000⟩ calm;
      (s.pru.entry e).filter.isSome = true ∧ (s.pru.entry e).condition = false ∧ s.cfg.checking = false ∧
        s.rsq.stopCause ≠ .autoStop ∧ s.rsq.engine ≠ .unloading)) ∧
      classOf 12 ≠ .shutdown ∧ classOf 3 = .shutdown := by decide +kernel

/-- Entry 3 about to enter service in each engine state, its start in progress and its record open. -/
theorem witness_AFilterExpiryMakesTheConditionTrue_shutdown :
    (∀ e ∈ [Engine.prelube, .priming, .cranking, .crankRest, .accelerating, .running, .unloading, .rundown, .stopped,
        .autoStopped, .lockedOut],
      (let s := entryIs 3 ⟨.idle, false, true, false, 0, some 5000⟩ (recorded .inProgress (engineIn e calm));
      (s.pru.entry 3).filter.isSome = true ∧ (s.pru.entry 3).condition = false ∧ (s.pru.entry 3).state = .idle ∧
        (s.pru.entry 3).masked = false ∧ s.cfg.checking = false ∧ s.rsq.engine = e ∧
        s.rsq.history = [] ++ [⟨0, 1, 10, .inProgress, false, some 620, 0, true⟩])) ∧
      classOf 3 = .shutdown := by decide +kernel

/-- Entry 1 is HELD, with a trip count. -/
def heldEntry (trips : Nat) (s : State) : State := entryIs 1 ⟨.held, false, true, false, trips, none⟩ s

theorem witness_ResetsReturnHeldEntries :
    (∀ x ∈ [((1 : Byte), heldEntry 1 (engineIn .lockedOut held)), (1, heldEntry 2 held), (1, held), (16, held),
        (1, heldEntry 1 (withActive .stand calm))],
      Ready .stand ⟨kindResetProtection, 7, [x.1]⟩ (withFrame .stand kindResetProtection [x.1] x.2) ∧
        Ready .stand ⟨kindResetAll, 7, [x.1]⟩ (withFrame .stand kindResetAll [x.1] x.2) ∧
        (x.2.aut.handover = none ∧ OutputsLaw x.2 ∧ TimerLaw x.2 ∧ BellLaw x.2)) ∧
      (heldEntry 2 held).cfg.active.overspeedTripLimit = 2 := by
  unfold Ready Heard Front OutputsLaw TimerLaw BellLaw
  decide +kernel

theorem witness_AcknowledgeSilencesTheBell :
    Heard .stand ⟨kindAcknowledge, 7, []⟩ (asking .stand kindAcknowledge [] (tripped calm)) := by
  unfold Heard Front
  decide +kernel

theorem witness_ClearTripCountLiftsTheLimit :
    Ready .stand ⟨kindClearTripCount, 7, [1]⟩ (asking .stand kindClearTripCount [1] calm) ∧
      Ready .service ⟨kindClearTripCount, 7, [16]⟩ (asking .service kindClearTripCount [16] calm) ∧
      (Ready .service ⟨kindClearTripCount, 7, [1]⟩ (asking .service kindClearTripCount [1] (heldEntry 15 calm)) ∧
        ((heldEntry 15 calm).pru.entry 1).state = .held) ∧
      (let t := after (.clearTripCount .service 7 [1]) (asking .service kindClearTripCount [1] (heldEntry 15 calm));
      let u := { withFrame .stand kindResetProtection [1] held with pru := t.pru, cfg := t.cfg };
      Ready .stand ⟨kindResetProtection, 7, [1]⟩ u ∧ u.aut.holds .stand = true) := by
  unfold Ready Heard Front
  decide +kernel

theorem witness_MasksHoldEntriesBack :
    (∀ kind ∈ [kindMask, kindUnmask],
      (∀ payload ∈ [[(16 : Byte)], [], [5], [6], [15]],
        Ready .service ⟨kind, 7, payload⟩ (withFrame .service kind payload servicing)) ∧
        Ready .service ⟨kind, 7, [6]⟩ (asking .service kind [6] held)) ∧
      servicing.aut.holds .service = true ∧ held.aut.holds .service = false ∧ servicing.rsq.engine ≠ .unloading := by
  unfold Ready Heard Front
  decide +kernel

/-! #### Notch, load and idle reduction -/

/-- RUNNING at N3, loaded with 900 kW, at a measured speed and a demand of the Stand. -/
def loaded (speed demand : Nat) (dwell : Option Dwell) : State :=
  let s := engineIn .running held;
  { s with
    spd := { s.spd with measured := speed }
    aut := s.aut.setSource .stand { s.aut.source .stand with demand := demand, fresh := true }
    ntu :=
      { s.ntu with
        applied := 3, e := demand, loadPermit := true, loadTarget := 900, loadRef := 900, dwell := dwell, setpoint := 485
        governorRef := 285, excitationRef := 264 } }

/-- Its ATTN brought up to date. -/
def steady (s : State) : State := rejudgeAttn s

/-- Up with the dwell over and the notch confirmed, down with the load above and at the notch below, and resting; the
confirmed position is 3 at 465 rpm and 2 at 464 rpm. -/
theorem witness_DwellsAndRampsMoveTheNotch :
    (∀ x ∈ [((3 : Nat), steady (loaded 465 5 (some ⟨.up, 3000⟩))), (3, steady (loaded 465 0 none)),
        (2, steady (loaded 464 5 (some ⟨.up, 3000⟩))), (3, steady (loaded 465 3 none))],
      (x.2.rsq.engine = .running ∧ x.2.ntu.lowIdle = false ∧ x.2.iru.lowIdleRequest = false) ∧ LoadLaw x.2 ∧
        (x.2.ntu.e = effectiveNotch x.2 ∧ x.2.ntu.loadPermit = loadPermitWanted x.2 ∧
          x.2.ntu.setpoint = setpointOf x.2.cfg.active x.2.rsq.engine x.2.ntu ∧
          (x.2.iru.state = .idleDwell ∨ x.2.iru.state = .lowIdleDwell → idleConditions x.2 = true) ∧
          (x.2.links.stand.attn = attnWanted x.2 .stand ∧ x.2.links.remote.attn = attnWanted x.2 .remote ∧
            x.2.links.service.attn = attnWanted x.2 .service)) ∧
        x.1 ≤ x.2.ntu.applied ∧ x.1 = confirmedPosition x.2 x.2.ntu.applied) := by
  unfold LoadLaw
  decide +kernel

/-- UNLOADING at a notch, loaded. -/
def unloading (applied ref : Nat) (dwell : Option Dwell) : State :=
  let s := engineIn .unloading calm;
  settled (settled { s with ntu :=
    { s.ntu with applied := applied, loadPermit := true, loadRef := ref, dwell := dwell, unloadReported := true } })

/-- In UNLOADING at N2 with the load reference above and at the load of N1 after the ramp, and at N1 with the last of it;
an UNLOADING has reported nothing yet. -/
theorem witness_DwellsAndRampsMoveTheNotch_unloading :
    ∀ x ∈ [unloading 2 240 none, unloading 2 241 (some ⟨.down, 3000⟩), unloading 1 60 none],
      (let s := steady { x with ntu := { x.ntu with unloadReported := false } };
      s.rsq.engine = .unloading ∧ LoadLaw s ∧ s.ntu.unloadReported = false ∧ 1 ≤ s.ntu.applied ∧
        (s.ntu.e = effectiveNotch s ∧ s.ntu.loadPermit = loadPermitWanted s ∧
          s.ntu.setpoint = setpointOf s.cfg.active s.rsq.engine s.ntu ∧
          (s.iru.state = .idleDwell ∨ s.iru.state = .lowIdleDwell → idleConditions s = true) ∧
          (s.links.stand.attn = attnWanted s .stand ∧ s.links.remote.attn = attnWanted s .remote ∧
            s.links.service.attn = attnWanted s .service)) ∧
        s.cfg.active.loadAt 1 = 180 ∧ s.cfg.active.rampDown = 60) := by
  unfold LoadLaw
  decide +kernel

/-- An IDLE-DOWN entry about to enter service, in RUNNING and in UNLOADING. -/
theorem witness_DwellsAndRampsMoveTheNotch_idleDown :
    ∀ x ∈ [((6 : Entry), loaded 465 5 none), (7, unloading 2 240 none)],
      (let s := entryIs x.1 ⟨.idle, false, true, false, 0, some 5000⟩ x.2;
      classOf x.1 = .idleDown ∧ (s.pru.entry x.1).filter.isSome = true ∧ (s.pru.entry x.1).condition = false ∧
        (s.pru.entry x.1).state = .idle ∧ (s.pru.entry x.1).masked = false ∧ s.pru.idleDown = false ∧
        s.rsq.engine.runningFamily = true) := by decide +kernel

/-- IRU in a state, its timer running. -/
def iruIn (k : IruState) (s : State) : State :=
  settled { s with
    iru :=
      { s.iru with
        state := k, idleDwell := if k = .idleDwell then some 600000 else none
        lowIdleDwell := if k = .lowIdleDwell then some 300000 else none
        lowIdleRequest := decide (k = .lowIdleDwell)
        autoStop := if k = .watch then some 14400000 else none
        batteryLow := if k = .watch then some 60000 else none } }

/-- In LOW IDLE under IRU's request: a DEMAND of 0 keeps it, one of 1 or more ends it. -/
theorem witness_DwellsAndRampsMoveTheNotch_lowIdle :
    ∀ notch ∈ [(0 : Byte), 8],
      (let s := withFrame .stand kindDemand [notch, 0] (iruIn .lowIdleDwell idling);
      Ready .stand ⟨kindDemand, 7, [notch, 0]⟩ s ∧ s.aut.holds .stand = true ∧ s.rsq.engine = .running ∧
        s.iru.state = .lowIdleDwell ∧ s.iru.lowIdleRequest = true ∧ s.ntu.lowIdle = true ∧ s.ntu.applied = 0 ∧
        s.pru.idleDown = false ∧ s.aut.handover = none ∧
        (after (.demand .stand 7 [notch, 0]) s).ntu.lowIdle = decide (notch = 0)) := by
  unfold Ready Heard Front
  decide +kernel

/-- LOW IDLE DWELL TIME is 0. -/
def noLowIdle (s : State) : State :=
  { s with cfg := { s.cfg with active := s.cfg.active.setField 4 9 0 } }

theorem witness_IdleReductionTimersMoveTheEngine :
    (∀ s ∈ [iruIn .idleDwell idling, iruIn .idleDwell (noLowIdle idling), iruIn .lowIdleDwell idling,
        iruIn .watch (engineIn .autoStopped (charged 620 calm)), iruIn .watch (engineIn .autoStopped calm)],
      (s.aut.handover = none ∧ OutputsLaw s ∧ TimerLaw s ∧ BellLaw s) ∧ LoadLaw s ∧
        (s.ntu.e = effectiveNotch s ∧ s.ntu.loadPermit = loadPermitWanted s ∧
          s.ntu.setpoint = setpointOf s.cfg.active s.rsq.engine s.ntu ∧
          (s.iru.state = .idleDwell ∨ s.iru.state = .lowIdleDwell → idleConditions s = true) ∧
          (s.links.stand.attn = attnWanted s .stand ∧ s.links.remote.attn = attnWanted s .remote ∧
            s.links.service.attn = attnWanted s .service)) ∧
        s.ntu.unloadReported = false) ∧
      ((iruIn .idleDwell idling).iru.state = .idleDwell ∧ (iruIn .idleDwell idling).iru.idleDwell.isSome = true ∧
        (iruIn .idleDwell idling).ntu.lowIdle = false ∧ 0 < idling.cfg.active.lowIdleDwellTime ∧
        (noLowIdle idling).cfg.active.lowIdleDwellTime = 0) ∧
      ((iruIn .lowIdleDwell idling).iru.state = .lowIdleDwell ∧
        (iruIn .lowIdleDwell idling).iru.lowIdleDwell.isSome = true) ∧
      (let s := iruIn .watch (engineIn .autoStopped (charged 620 calm));
      s.iru.state = .watch ∧ s.rsq.engine = .autoStopped ∧ s.iru.autoStop.isSome = true ∧
        s.iru.batteryLow.isSome = true ∧ s.iru.restartSent = false ∧ Permitted s) := by
  unfold OutputsLaw TimerLaw BellLaw LoadLaw Permitted
  refine ⟨fun s h => ?_, by decide +kernel⟩
  revert s
  refine List.forall_mem_cons.mpr ⟨?_, List.forall_mem_cons.mpr ⟨?_, List.forall_mem_cons.mpr ⟨?_,
    List.forall_mem_cons.mpr ⟨?_, List.forall_mem_cons.mpr ⟨?_, List.forall_mem_nil _⟩⟩⟩⟩⟩ <;>
    refine ⟨?_, ?_⟩ <;> decide +kernel

/-- IRU in STOPPING or WATCH, in an auto stop. -/
def stopping (k : IruState) (e : Engine) (s : State) : State :=
  let u := engineIn e s;
  { u with iru := { u.iru with state := k, lowIdleRequest := decide (k = .stopping) }
           rsq := { u.rsq with stopCause := .autoStop } }

/-- OFF with the conditions holding at the end of the window and not holding; a dwell whose conditions fail. -/
theorem witness_IdleReductionTimersMoveTheEngine_conditions :
    (∀ s ∈ [{ idling with iru := { idling.iru with state := .off, idleDwell := none } }, calm, charged 659 idling],
      (s.aut.handover = none ∧ OutputsLaw s ∧ TimerLaw s ∧ BellLaw s)) ∧
      (let s := { idling with iru := { idling.iru with state := .off, idleDwell := none } };
      s.iru.state = .off ∧ idleConditions (after .rampInterval s) = true) ∧
      (calm.iru.state = .off ∧ idleConditions (after .windowCompletes calm) = false) ∧
      ((charged 659 idling).iru.state = .idleDwell ∧
        idleConditions (after .windowCompletes (charged 659 idling)) = false) := by
  unfold OutputsLaw TimerLaw BellLaw
  decide +kernel

/-- A DEMAND of notch 1 in the unloading, in the rundown and in WATCH, permitted or not, and one of notch 0. -/
theorem witness_IdleReductionTimersMoveTheEngine_demand :
    (∀ notch ∈ [(0 : Byte), 1], ∀ s ∈ [stopping .stopping .unloading held, stopping .stopping .rundown held,
        stopping .watch .autoStopped (charged 620 held), stopping .watch .autoStopped held],
      (let u := withFrame .stand kindDemand [notch, 0] s;
      Ready .stand ⟨kindDemand, 7, [notch, 0]⟩ u ∧ u.aut.holds .stand = true ∧ u.rsq.stopCause = .autoStop ∧
        u.iru.restartSent = false ∧ (u.aut.handover = none ∧ OutputsLaw u ∧ TimerLaw u ∧ BellLaw u))) ∧
      (held.aut.source .stand).maxNotch = 8 ∧ Permitted (charged 620 held) ∧ ¬Permitted held := by
  unfold Ready Heard Front OutputsLaw TimerLaw BellLaw Permitted
  decide +kernel

/-- COOLANT TEMP below and at RESTART COOLANT, BATTERY below and at RESTART BATTERY; the ends of the unloading and of the
rundown. -/
theorem witness_IdleReductionTimersMoveTheEngine_values :
    (∀ k ∈ [Channel.coolant, .battery], ∀ u ∈ [stopping .stopping .rundown calm,
        stopping .watch .autoStopped (charged 620 calm), stopping .watch .autoStopped calm,
        stopping .stopping .unloading calm],
      let s := due k u;
      s.ins.scanNext = k ∧ (s.aut.handover = none ∧ OutputsLaw s ∧ TimerLaw s ∧ BellLaw s) ∧ s.rsq.stopCause = .autoStop ∧
        s.rsq.restartPending = false ∧ s.pru.shutdownInService = false ∧
        (k = .coolant → (after (.conversion k 1532) s).ins.coolant.given = 248 ∧
          (after (.conversion k 1536) s).ins.coolant.given = 250 ∧ s.cfg.active.restartCoolant = 250) ∧
        (k = .battery → (after (.conversion k 2579) s).ins.battery.given = 629 ∧
          s.cfg.active.restartBattery = 630)) ∧
      (timed (fun t => { t with unload := some 30000 }) (stopping .stopping .unloading calm)).rsq.timers.unload.isSome = true ∧
      (timed (fun t => { t with zeroHold := some 2000 }) (stopping .stopping .rundown calm)).rsq.timers.zeroHold.isSome = true := by
  unfold OutputsLaw TimerLaw BellLaw
  decide +kernel

/-! #### The configuration store and the service functions -/

/-- The Service holds authority, nothing forced or masked. -/
def serviced : State := heldBy .service (withActive .service calm)

/-- A store write is in progress. -/
def writing (s : State) : State := { s with cfg := { s.cfg with writing := true } }

/-- Group 0 in a state. -/
def groupIs (g : GroupState) (s : State) : State := { s with cfg := { s.cfg with groups := s.cfg.groups.set 0 g } }

theorem witness_WriteEntryChangesThePendingTable :
    (∀ x ∈ [([(0 : Byte), 0, 6, 64], serviced), ([0, 0, 6, 65], serviced), ([0, 33, 0, 0], serviced),
        ([5, 0, 0, 0], serviced), ([0, 0, 6, 64], groupIs .locked serviced), ([0, 0, 6, 64], writing serviced), ([], serviced)],
      Ready .service ⟨kindWriteEntry, 7, x.1⟩ (withFrame .service kindWriteEntry x.1 x.2) ∧
        x.2.aut.holder = some .service) ∧
      (Ready .service ⟨kindWriteEntry, 7, [0, 0, 6, 64]⟩ (asking .service kindWriteEntry [0, 0, 6, 64] held) ∧
        held.aut.holder ≠ some .service) ∧
      Ready .stand ⟨kindWriteEntry, 7, [0, 0, 6, 64]⟩ (asking .stand kindWriteEntry [0, 0, 6, 64] calm) ∧
      State.reset.cfg.checking = true ∧ fieldSpec 0 0 = some ⟨270, 0, 1600⟩ ∧ ((6 : Byte) ++ (64 : Byte) : BitVec 16).toInt = 1600 := by
  unfold Ready Heard Front
  decide +kernel

theorem witness_ApplyAndTheStoreWrite :
    (∀ s ∈ [serviced, writing serviced, engineIn .running serviced, cranked 6 150 serviced, cranked 6 151 serviced],
      Ready .service ⟨kindApply, 7, []⟩ (withFrame .service kindApply [] s) ∧ s.aut.holder = some .service) ∧
      ((cranked 6 150 serviced).rsq.history.map (·.duration)).sum = 900 ∧ defaultTable.field 1 19 = 900 ∧
      (writing serviced).cfg.writing = true := by
  unfold Ready Heard Front
  decide +kernel

/-- The Service has written a value to a field of the pending table. -/
def written (g f : Nat) (v : Int) : State :=
  { serviced with cfg := { serviced.cfg with edited := defaultTable.setField g f v } }

/-- One value for each row of the table of R182 that a pending table can fail, with the field that BAD TABLE names; the
default table passes. -/
theorem witness_ApplyAndTheStoreWrite_refused :
    (∀ x ∈ [((0, 1), (269 : Int)), ((0, 11), 179), ((0, 30), 3399), ((3, 3), 930), ((1, 0), 1200), ((1, 9), 80),
        ((2, 6), 1100), ((2, 9), 170), ((2, 14), 1060), ((2, 17), 980), ((2, 3), 99), ((4, 12), 400), ((4, 13), 660)],
      (let s := withFrame .service kindApply [] (written x.1.1 x.1.2 x.2);
      Ready .service ⟨kindApply, 7, []⟩ s ∧ s.aut.holder = some .service ∧ s.cfg.writing = false ∧
        s.rsq.engine.atRest = true ∧
        ((after (.applyTable .service 7 []) s).links.service.sending.map (·.result)) = some .badTable)) ∧
      (let s := withFrame .service kindApply [] serviced;
      ((after (.applyTable .service 7 []) s).links.service.sending.map (·.result)) = some .done) := by
  unfold Ready Heard Front
  decide +kernel

theorem witness_GroupsAreLockedUnlockedAndFixed :
    (∀ kind ∈ [kindLockGroup, kindUnlockGroup, kindFixGroup],
      (∀ x ∈ [([(0 : Byte)], calm), ([4], calm), ([5], calm), ([], calm), ([0], groupIs .locked calm),
          ([0], groupIs .fixed calm), ([0], writing calm)],
        Ready .service ⟨kind, 7, x.1⟩ (asking .service kind x.1 x.2)) ∧
        Ready .stand ⟨kind, 7, [0]⟩ (asking .stand kind [0] calm)) ∧
      (groupIs .fixed calm).cfg.groups[(0 : Fin 5)] = .fixed := by
  unfold Ready Heard Front
  decide +kernel

theorem group_law_fixed : GroupLaw (waiting (groupIs .fixed calm)) ∧ ∃ t, step (waiting (groupIs .fixed calm)) = .next t :=
  ⟨fun _ _ _ _ => rfl, _, rfl⟩

theorem witness_ForceIsStoredAtItsTarget :
    (∀ payload ∈ [[(0 : Byte), 6, 64], [0, 6, 65], [0, 255, 255], [1, 0, 0], [6, 0, 0], [7, 0, 0], [7, 1], [10, 0],
        [10, 2], [11, 63], [12, 0], [6, 0], [], [255, 0]],
      Ready .service ⟨kindForce, 7, payload⟩ (withFrame .service kindForce payload serviced)) ∧
      (Ready .service ⟨kindForce, 7, [0, 0, 0]⟩ (asking .service kindForce [0, 0, 0] held) ∧
        held.aut.holder ≠ some .service) ∧
      (Ready .service ⟨kindForce, 7, [0, 0, 0]⟩ (withFrame .service kindForce [0, 0, 0] (engineIn .running serviced)) ∧
        (engineIn .running serviced).rsq.engine.atRest = false) ∧
      serviced.aut.holder = some .service ∧ serviced.rsq.engine.atRest = true := by
  unfold Ready Heard Front
  decide +kernel

theorem witness_ReleaseForceClearsTheForce :
    (∀ payload ∈ [[(0 : Byte)], [6], [7], [10], [11], [12], [254], [255], []],
      Ready .service ⟨kindReleaseForce, 7, payload⟩ (withFrame .service kindReleaseForce payload servicing)) ∧
      Ready .service ⟨kindReleaseForce, 7, [0]⟩ (asking .service kindReleaseForce [0] held) ∧
      servicing.aut.holder = some .service ∧ held.aut.holder ≠ some .service ∧ servicing.rsq.engine ≠ .unloading := by
  unfold Ready Heard Front
  decide +kernel

end Sys2Proof.Tests
end

section
/-! SUPPORT. What every command keeps of the engine: RSQ's outputs and timers in step with the engine state (R1, R2), and
LOCKED OUT exactly with a SHUTDOWN entry in service (R26, R28). Each operation is taken once, for both laws. -/

namespace Sys2Proof.Machine

/-! ### Two laws side by side -/

/-- RSQ's outputs and timers are in step with the engine state. -/
def InStep (s : State) : Prop := OutputsLaw s ∧ TimerLaw s

/-- The way from `s` to `t` keeps the laws of RSQ's outputs and timers, and the law of LOCKED OUT. -/
structure KeepsEngine (s t : State) : Prop where
  inStep : InStep s → InStep t
  lockout : LockoutLaw s → LockoutLaw t

theorem KeepsEngine.refl (s : State) : KeepsEngine s s := ⟨id, id⟩

theorem KeepsEngine.trans {s t u : State} (h : KeepsEngine s t) (k : KeepsEngine t u) : KeepsEngine s u :=
  ⟨k.inStep ∘ h.inStep, k.lockout ∘ h.lockout⟩

/-- Two engine run records with the same engine state, outputs and timers. -/
structure SameSequence (x y : Rsq) : Prop where
  engine : y.engine = x.engine
  prelubePump : y.prelubePump = x.prelubePump
  fuelPump : y.fuelPump = x.fuelPump
  starter : y.starter = x.starter
  fuelEnable : y.fuelEnable = x.fuelEnable
  crankFuelLatch : y.crankFuelLatch = x.crankFuelLatch
  lubeArmed : y.lubeArmed = x.lubeArmed
  timers : y.timers = x.timers

theorem SameSequence.refl (x : Rsq) : SameSequence x x := ⟨rfl, rfl, rfl, rfl, rfl, rfl, rfl, rfl⟩

theorem SameSequence.inStep {s t : State} (h : SameSequence s.rsq t.rsq) (k : InStep s) : InStep t := by
  obtain ⟨ho, ht⟩ := k
  simp only [InStep, OutputsLaw, TimerLaw, h.engine, h.prelubePump, h.fuelPump, h.starter, h.fuelEnable,
    h.crankFuelLatch, h.lubeArmed, h.timers] at *
  exact ⟨ho, ht⟩

theorem LockoutLaw.congr {s t : State} (he : t.rsq.engine = s.rsq.engine)
    (hp : t.pru.shutdownInService = s.pru.shutdownInService) (hc : t.cfg.checking = s.cfg.checking)
    (h : LockoutLaw s) : LockoutLaw t := by
  simpa only [LockoutLaw, he, hp, hc] using h

/-- What leaves the sequence, the SHUTDOWN entries and the self-check alone keeps both laws. -/
theorem KeepsEngine.of_same {s t : State} (hr : SameSequence s.rsq t.rsq)
    (hp : t.pru.shutdownInService = s.pru.shutdownInService) (hc : t.cfg.checking = s.cfg.checking) :
    KeepsEngine s t :=
  ⟨hr.inStep, LockoutLaw.congr hr.engine hp hc⟩

/-- What leaves RSQ, PRU and CFG alone keeps both laws. -/
theorem KeepsEngine.of_eq {s t : State} (hr : t.rsq = s.rsq) (hp : t.pru = s.pru) (hc : t.cfg = s.cfg) :
    KeepsEngine s t :=
  .of_same (by rw [hr]; exact .refl _) (by rw [hp]) (by rw [hc])

theorem KeepsEngine.from_same {s t u : State} (h : KeepsEngine t u) (hr : SameSequence s.rsq t.rsq)
    (hp : t.pru.shutdownInService = s.pru.shutdownInService) (hc : t.cfg.checking = s.cfg.checking) :
    KeepsEngine s u :=
  (KeepsEngine.of_same hr hp hc).trans h

theorem KeepsEngine.from_eq {s t u : State} (h : KeepsEngine t u) (hr : t.rsq = s.rsq) (hp : t.pru = s.pru)
    (hc : t.cfg = s.cfg) : KeepsEngine s u :=
  (KeepsEngine.of_eq hr hp hc).trans h

/-- What moves RSQ alone, and there not the sequence, keeps both laws. -/
theorem keepsEngine_mapRsq (f : Rsq → Rsq) (s : State) (h : SameSequence s.rsq (f s.rsq)) :
    KeepsEngine s (s.mapRsq f) :=
  .of_same h rfl rfl

/-- The self-check is over wherever the engine has left STOPPED. -/
def Working (s : State) : Prop := s.rsq.engine = .stopped → s.cfg.checking = false

theorem working_of_ne {s : State} (h : s.rsq.engine ≠ .stopped) : Working s := fun w => absurd w h

theorem LockoutLaw.checked {s : State} (h : LockoutLaw s) (w : Working s) : s.cfg.checking = false := by
  by_contra hc
  rw [Bool.not_eq_false] at hc
  exact absurd (w (h.1 hc)) (by simp [hc])

/-- After the self-check the law of LOCKED OUT speaks of the states at rest alone. -/
theorem lockoutLaw_of_checked {s : State} (hc : s.cfg.checking = false)
    (h : s.rsq.engine.atRest = true → (s.rsq.engine = .lockedOut ↔ s.pru.shutdownInService = true)) :
    LockoutLaw s :=
  ⟨fun w => absurd (hc.symm.trans w) (by decide), fun _ => h⟩

theorem lockoutLaw_of_moving {s : State} (hc : s.cfg.checking = false) (h : s.rsq.engine.atRest = false) :
    LockoutLaw s :=
  lockoutLaw_of_checked hc fun w => absurd (h.symm.trans w) (by decide)

/-! ### A change of engine state -/

/-- RSQ is in step with a state it has just entered. -/
theorem inStep_changeEngine (new : Engine) (s : State) : InStep (changeEngine new s) := by
  refine ⟨?_, ?_⟩
  · simp [OutputsLaw]
  · cases h : fuelEnableIn new s.rsq.crankFuelLatch <;> simp [TimerLaw, stoppedTimers, h]

theorem lockoutLaw_changeEngine {new : Engine} {s : State} (hc : s.cfg.checking = false)
    (h : new.atRest = true → (new = .lockedOut ↔ s.pru.shutdownInService = true)) :
    LockoutLaw (changeEngine new s) :=
  lockoutLaw_of_checked (by simpa using hc) (by simpa [changeEngine_shutdownInService] using h)

/-- A change to a state other than those at rest keeps both laws. -/
theorem keepsEngine_changeEngine {new : Engine} {s : State} (w : Working s) (h : new.atRest = false) :
    KeepsEngine s (changeEngine new s) :=
  ⟨fun _ => inStep_changeEngine new s,
    fun k => lockoutLaw_changeEngine (k.checked w) fun v => absurd (h.symm.trans v) (by decide)⟩

/-- A timer started in a state that starts it. -/
theorem keepsEngine_mapTimers (f : SeqTimers → SeqTimers) (s : State) (h : TimerLaw s → TimerLaw (s.mapTimers f)) :
    KeepsEngine s (s.mapTimers f) :=
  ⟨fun k => ⟨k.1, h k.2⟩, LockoutLaw.congr rfl rfl rfl⟩

theorem keepsEngine_enterPrelube {s : State} (w : Working s) : KeepsEngine s (enterPrelube s) :=
  (keepsEngine_changeEngine w rfl).trans (keepsEngine_mapTimers _ _ (by simp [TimerLaw, stoppedTimers]))

theorem keepsEngine_enterRundown {s : State} (w : Working s) : KeepsEngine s (enterRundown s) :=
  (keepsEngine_changeEngine w rfl).trans (keepsEngine_mapTimers _ _ (by simp [TimerLaw, stoppedTimers]))

theorem keepsEngine_beginCranking {s : State} (w : Working s) : KeepsEngine s (beginCranking s) := by
  refine ⟨fun _ => ?_, fun k => lockoutLaw_of_moving ?_ ?_⟩
  · simp [InStep, OutputsLaw, TimerLaw, beginCranking, openRecord, stoppedTimers, fuelEnableIn]
  · simpa using k.checked w
  · simp [beginCranking, openRecord, Engine.atRest]

/-! ### Starts -/

theorem keepsEngine_acceptStart (k : StartKind) {s : State} (w : Working s) : KeepsEngine s (acceptStart k s) :=
  have h : KeepsEngine s
      ((s.mapRsq fun r =>
        { r with
          startKind := k, cold := decide (s.ins.coolant.given < 0), attempt := 1, startResult := .inProgress
          startReason := none, stopCause := .none, restartPending := false
          counters :=
            { r.counters with
              startsRequested := satInc 65535 r.counters.startsRequested
              autoRestarts :=
                if k = .auto then satInc 65535 r.counters.autoRestarts else r.counters.autoRestarts } }).mapIru
        fun i => { i with restartRefused := false }) :=
    .of_same ⟨rfl, rfl, rfl, rfl, rfl, rfl, rfl, rfl⟩ rfl rfl
  h.trans (keepsEngine_enterPrelube w)

theorem keepsEngine_noteRefusal (why : Reason) (s : State) : KeepsEngine s (noteRefusal why s) :=
  .of_same ⟨rfl, rfl, rfl, rfl, rfl, rfl, rfl, rfl⟩ rfl rfl

theorem keepsEngine_noteRestart (s : State) : KeepsEngine s (noteRestart s) := by
  unfold noteRestart
  split
  · exact keepsEngine_mapRsq _ _ ⟨rfl, rfl, rfl, rfl, rfl, rfl, rfl, rfl⟩
  · exact .refl s

/-- Out of AUTO STOPPED no SHUTDOWN entry stands in the way of STOPPED. -/
theorem keepsEngine_stop {s : State} (h : s.rsq.engine = .autoStopped) : KeepsEngine s (changeEngine .stopped s) := by
  refine ⟨fun _ => inStep_changeEngine _ s, fun k => ?_⟩
  have hc := k.checked (working_of_ne (by simp [h]))
  have hs : ¬s.pru.shutdownInService = true := by
    rw [← k.2 hc (by simp [h, Engine.atRest])]
    simp [h]
  exact lockoutLaw_changeEngine hc fun _ => by simp [hs]

theorem keepsEngine_autoRestart (s : State) : KeepsEngine s (autoRestart s) := by
  unfold autoRestart
  split
  · next h =>
    split
    · exact keepsEngine_acceptStart _ (working_of_ne (by simp [h]))
    · exact ((keepsEngine_noteRefusal _ s).trans (keepsEngine_stop h)).trans (.of_eq rfl rfl rfl)
  · exact keepsEngine_noteRestart s
  · exact .refl s

/-! ### Coming to rest -/

/-- The state at rest of R23 is LOCKED OUT exactly with a SHUTDOWN entry in service. -/
theorem restState_lockedOut_iff (s : State) : restState s = .lockedOut ↔ s.pru.shutdownInService = true := by
  unfold restState
  cases s.pru.shutdownInService <;> simp
  split <;> simp

theorem keepsEngine_comeToRest {s : State} (w : Working s) : KeepsEngine s (comeToRest s) := by
  have hq : KeepsEngine s ((changeEngine (restState s) s).mapRsq fun r => { r with restartPending := false }) :=
    .trans ⟨fun _ => inStep_changeEngine _ s,
      fun k => lockoutLaw_changeEngine (k.checked w) fun _ => restState_lockedOut_iff s⟩
      (keepsEngine_mapRsq _ _ ⟨rfl, rfl, rfl, rfl, rfl, rfl, rfl, rfl⟩)
  unfold comeToRest
  dsimp only
  split
  · exact hq.trans (keepsEngine_autoRestart _)
  · exact hq

theorem keepsEngine_toRest {s : State} (w : Working s) : KeepsEngine s (toRest s) := by
  unfold toRest
  split
  · exact keepsEngine_enterRundown w
  · exact keepsEngine_comeToRest w

theorem setStopCause_rsq (c : StopCause) (s : State) : (setStopCause c s).rsq = { s.rsq with stopCause := c } := by
  unfold setStopCause
  dsimp only
  split <;> rfl

theorem keepsEngine_setStopCause (c : StopCause) (s : State) : KeepsEngine s (setStopCause c s) :=
  .of_same (by rw [setStopCause_rsq]; exact ⟨rfl, rfl, rfl, rfl, rfl, rfl, rfl, rfl⟩) (by simp) (by simp)

theorem keepsEngine_cutAttempt (o : CrankOutcome) (s : State) : KeepsEngine s (cutAttempt o s) := by
  unfold cutAttempt
  split
  · exact keepsEngine_mapRsq _ _ ⟨rfl, rfl, rfl, rfl, rfl, rfl, rfl, rfl⟩
  · exact keepsEngine_mapRsq _ _ ⟨rfl, rfl, rfl, rfl, rfl, rfl, rfl, rfl⟩
  · exact .refl s

@[simp] theorem cutAttempt_engine (o : CrankOutcome) (s : State) : (cutAttempt o s).rsq.engine = s.rsq.engine := by
  unfold cutAttempt
  split <;> rfl

theorem keepsEngine_noteProtection (s : State) : KeepsEngine s (noteProtection s) := by
  unfold noteProtection
  split
  · exact keepsEngine_mapRsq _ _ ⟨rfl, rfl, rfl, rfl, rfl, rfl, rfl, rfl⟩
  · exact .refl s

@[simp] theorem noteProtection_engine (s : State) : (noteProtection s).rsq.engine = s.rsq.engine := by
  unfold noteProtection
  split <;> rfl

theorem keepsEngine_stopByProtection (s : State) : KeepsEngine s (stopByProtection s) := by
  unfold stopByProtection
  split
  · exact .refl s
  · exact keepsEngine_setStopCause _ s

@[simp] theorem stopByProtection_engine (s : State) : (stopByProtection s).rsq.engine = s.rsq.engine := by
  unfold stopByProtection
  split
  · rfl
  · rw [setStopCause_rsq]

/-! ### An event at the protection table -/

/-- Outside rest and RUNDOWN a SHUTDOWN entry that enters service takes the engine to rest (R25). -/
theorem takeShutdown_of_moving {s : State} (hc : s.cfg.checking = false) (hr : s.rsq.engine.atRest = false)
    (hd : s.rsq.engine ≠ .rundown) :
    takeShutdown s = toRest (stopByProtection (noteProtection (cutAttempt .protection s))) := by
  unfold takeShutdown
  rw [if_neg (by simp [hc])]
  split <;> simp_all [Engine.atRest]

theorem inStep_takeShutdown {s : State} (h : InStep s) : InStep (takeShutdown s) := by
  unfold takeShutdown
  split
  · exact h
  · split
    · exact inStep_changeEngine _ s
    · exact inStep_changeEngine _ s
    · exact h
    · exact (keepsEngine_mapRsq _ _ ⟨rfl, rfl, rfl, rfl, rfl, rfl, rfl, rfl⟩).inStep
        ((keepsEngine_stopByProtection s).inStep h)
    · next h1 _ _ _ =>
      exact (keepsEngine_toRest (working_of_ne (by simpa using h1))).inStep
        ((keepsEngine_stopByProtection _).inStep ((keepsEngine_noteProtection _).inStep
          ((keepsEngine_cutAttempt _ s).inStep h)))

/-- With a SHUTDOWN entry in service, taking it leaves the engine LOCKED OUT or moving. -/
theorem lockoutLaw_takeShutdown {s : State} (hc : s.cfg.checking = false) (hs : s.pru.shutdownInService = true) :
    LockoutLaw (takeShutdown s) := by
  by_cases hr : s.rsq.engine.atRest = true
  · cases he : s.rsq.engine <;> simp_all [takeShutdown, Engine.atRest]
    · exact lockoutLaw_changeEngine hc fun _ => by simp [hs]
    · exact lockoutLaw_changeEngine hc fun _ => by simp [hs]
    · exact lockoutLaw_of_checked hc fun _ => by simp [he, hs]
  · rw [Bool.not_eq_true] at hr
    by_cases hd : s.rsq.engine = .rundown
    · have : (takeShutdown s).rsq.engine = .rundown := by simp [takeShutdown, hc, hd]
      exact lockoutLaw_of_moving (by simpa using hc) (by rw [this]; rfl)
    · rw [takeShutdown_of_moving hc hr hd]
      have w : Working (stopByProtection (noteProtection (cutAttempt .protection s))) := fun _ => by simpa using hc
      exact (keepsEngine_toRest w).lockout (lockoutLaw_of_moving (by simpa using hc) (by simpa using hr))

theorem inStep_takeLastLeft {s : State} (h : InStep s) : InStep (takeLastLeft s) := by
  unfold takeLastLeft
  split
  · exact h
  · split
    · exact (keepsEngine_mapRsq _ _ ⟨rfl, rfl, rfl, rfl, rfl, rfl, rfl, rfl⟩).inStep (inStep_changeEngine _ s)
    · exact h

theorem mem_allEntries (e : Entry) : e ∈ allEntries := by
  revert e
  decide

theorem shutdownInService_iff (p : Pru) :
    p.shutdownInService = true ↔ ∃ e : Entry, classOf e = .shutdown ∧ (p.entry e).inService = true := by
  simp only [Pru.shutdownInService, List.any_eq_true, Bool.and_eq_true, decide_eq_true_eq]
  exact ⟨fun ⟨e, _, h⟩ => ⟨e, h⟩, fun ⟨e, h⟩ => ⟨e, mem_allEntries e, h⟩⟩

theorem shutdownEntered_iff (p q : Pru) :
    shutdownEntered p q = true ↔
      ∃ e : Entry, classOf e = .shutdown ∧ (p.entry e).inService = false ∧ (q.entry e).inService = true := by
  simp only [shutdownEntered, List.any_eq_true, Bool.and_eq_true, decide_eq_true_eq, Bool.not_eq_true',
    and_assoc]
  exact ⟨fun ⟨e, _, h⟩ => ⟨e, h⟩, fun ⟨e, h⟩ => ⟨e, mem_allEntries e, h⟩⟩

/-- The first SHUTDOWN entry in service has entered it. -/
theorem shutdownEntered_of_first {p q : Pru} (hp : p.shutdownInService = false) (hq : q.shutdownInService = true) :
    shutdownEntered p q = true := by
  obtain ⟨e, he, hs⟩ := (shutdownInService_iff q).1 hq
  refine (shutdownEntered_iff p q).2 ⟨e, he, ?_, hs⟩
  by_contra w
  rw [Bool.not_eq_false] at w
  exact absurd ((shutdownInService_iff p).2 ⟨e, he, w⟩) (by simp [hp])

theorem shutdownInService_of_entered {p q : Pru} (h : shutdownEntered p q = true) : q.shutdownInService = true := by
  obtain ⟨e, he, -, hs⟩ := (shutdownEntered_iff p q).1 h
  exact (shutdownInService_iff q).2 ⟨e, he, hs⟩

/-- What is handed on of an event at the table: to RSQ a SHUTDOWN entry that has entered service, or else the last one
leaving; to NTU a rise of the idle-down flag. -/
theorem handOff_cases (before : Pru) (s : State) (P : State → Prop) (hj : ∀ u, P u → P (idleDownJump u))
    (he : shutdownEntered before s.pru = true → P (takeShutdown s))
    (hl : before.shutdownInService = true → s.pru.shutdownInService = false → P (takeLastLeft s))
    (hn : before.shutdownInService = s.pru.shutdownInService → P s) : P (handOff before s) := by
  unfold handOff
  dsimp only
  have key : P (if before.shutdownInService && !s.pru.shutdownInService then
      takeLastLeft (if shutdownEntered before s.pru then takeShutdown s else s)
      else if shutdownEntered before s.pru then takeShutdown s else s) := by
    by_cases w : shutdownEntered before s.pru = true
    · simpa [w, shutdownInService_of_entered w] using he w
    · cases hb : before.shutdownInService <;> cases ha : s.pru.shutdownInService
      · simpa [w] using hn (hb.trans ha.symm)
      · exact absurd (shutdownEntered_of_first hb ha) w
      · simpa [w] using hl hb ha
      · simpa [w] using hn (hb.trans ha.symm)
  split
  · exact hj _ key
  · exact key

theorem keepsEngine_idleDownJump (s : State) : KeepsEngine s (idleDownJump s) := .of_eq (by simp) (by simp) (by simp)

theorem takeShutdown_of_checking {s : State} (h : s.cfg.checking = true) : takeShutdown s = s := by
  simp [takeShutdown, h]

theorem takeLastLeft_of_checking {s : State} (h : s.cfg.checking = true) : takeLastLeft s = s := by
  simp [takeLastLeft, h]

theorem takeLastLeft_of_lockedOut {s : State} (hc : s.cfg.checking = false) (h : s.rsq.engine = .lockedOut) :
    takeLastLeft s = (changeEngine .stopped s).mapRsq fun r => { r with stopCause := .none } := by
  simp [takeLastLeft, hc, h]

theorem takeLastLeft_of_ne {s : State} (h : s.rsq.engine ≠ .lockedOut) : takeLastLeft s = s := by
  unfold takeLastLeft
  split
  · rfl
  · split
    · next he => exact absurd he h
    · rfl

/-- An event at the protection table keeps the law of LOCKED OUT: what it does to the SHUTDOWN entries reaches RSQ. -/
theorem lockoutLaw_handOff {before : Pru} {s : State} (h : LockoutLaw { s with pru := before }) :
    LockoutLaw (handOff before s) := by
  cases hc : s.cfg.checking
  · refine handOff_cases _ _ LockoutLaw (fun u k => (keepsEngine_idleDownJump u).lockout k) (fun he => ?_)
      (fun hb ha => ?_) fun hn => LockoutLaw.congr (s := { s with pru := before }) rfl hn.symm rfl h
    · exact lockoutLaw_takeShutdown hc (shutdownInService_of_entered he)
    · by_cases hl : s.rsq.engine = .lockedOut
      · rw [takeLastLeft_of_lockedOut hc hl]
        exact LockoutLaw.congr rfl rfl rfl (lockoutLaw_changeEngine hc fun _ => by simp [ha])
      · rw [takeLastLeft_of_ne hl]
        exact lockoutLaw_of_checked hc fun hr => absurd ((h.2 hc hr).2 hb) hl
  · have hs : LockoutLaw s := ⟨fun _ => h.1 hc, fun w => absurd (hc.symm.trans w) (by decide)⟩
    exact handOff_cases _ _ LockoutLaw (fun u k => (keepsEngine_idleDownJump u).lockout k)
      (fun _ => by rwa [takeShutdown_of_checking hc]) (fun _ _ => by rwa [takeLastLeft_of_checking hc]) fun _ => hs

/-- An event at the protection table keeps both laws, however its entries move. -/
theorem keepsEngine_pruEvent (f : Pru → Pru) (s : State) : KeepsEngine s (pruEvent f s) where
  inStep h :=
    have h' : InStep (s.mapPru fun p => ringBell (f p)) := h
    handOff_cases _ _ InStep (fun u k => (keepsEngine_idleDownJump u).inStep k) (fun _ => inStep_takeShutdown h')
      (fun _ _ => inStep_takeLastLeft h') fun _ => h'
  lockout h := lockoutLaw_handOff h

/-! ### The ways a start goes on and ends -/

theorem keepsEngine_abandonStart (why : Reason) {s : State} (w : Working s) : KeepsEngine s (abandonStart why s) :=
  (keepsEngine_mapRsq (fun r => { r with startResult := .abandoned, startReason := some why }) s
    ⟨rfl, rfl, rfl, rfl, rfl, rfl, rfl, rfl⟩).trans (keepsEngine_toRest w)

theorem keepsEngine_failStart (result : StartResult) (s : State) : KeepsEngine s (failStart result s) :=
  .trans (keepsEngine_mapRsq _ s ⟨rfl, rfl, rfl, rfl, rfl, rfl, rfl, rfl⟩) (keepsEngine_pruEvent _ _)

theorem keepsEngine_enterCranking {s : State} (w : Working s) : KeepsEngine s (enterCranking s) := by
  unfold enterCranking
  split
  · exact keepsEngine_abandonStart _ w
  · exact keepsEngine_beginCranking w

theorem keepsEngine_enterPriming {s : State} (w : Working s) : KeepsEngine s (enterPriming s) := by
  have h : KeepsEngine s
      ((changeEngine .priming s).mapTimers fun x => { x with prime := some (tenthsMs s.cfg.active.primeLimit) }) :=
    (keepsEngine_changeEngine w rfl).trans (keepsEngine_mapTimers _ _ (by simp [TimerLaw, stoppedTimers]))
  unfold enterPriming
  dsimp only
  split
  · exact h.trans (keepsEngine_enterCranking (working_of_ne (by simp)))
  · exact h

theorem keepsEngine_failAttempt {s : State} (w : Working s) : KeepsEngine s (failAttempt s) := by
  refine ⟨fun _ => ?_, fun k => lockoutLaw_of_moving ?_ ?_⟩
  · simp [InStep, OutputsLaw, TimerLaw, failAttempt, stoppedTimers, fuelEnableIn]
  · simpa using k.checked w
  · simp [failAttempt, Engine.atRest]

theorem keepsEngine_endAttempt (o : CrankOutcome) (tenths : Nat) {s : State} (w : Working s) :
    KeepsEngine s (endAttempt o tenths s) :=
  .trans (keepsEngine_mapRsq _ s ⟨rfl, rfl, rfl, rfl, rfl, rfl, rfl, rfl⟩) (keepsEngine_failAttempt w)

theorem keepsEngine_endRest {s : State} (w : Working s) : KeepsEngine s (endRest s) := by
  unfold endRest
  split
  · exact .trans (keepsEngine_mapRsq _ s ⟨rfl, rfl, rfl, rfl, rfl, rfl, rfl, rfl⟩) (keepsEngine_enterCranking w)
  · exact keepsEngine_failStart _ s

/-! ### Stop and start requests at RSQ -/

theorem keepsEngine_beginUnloading (c : StopCause) {s : State} (w : Working s) :
    KeepsEngine s (beginUnloading c s) := by
  have w' : Working (setStopCause c s) := by simpa [Working, setStopCause_rsq] using w
  exact ((keepsEngine_setStopCause c s).trans (keepsEngine_changeEngine w' rfl)).trans
    (keepsEngine_mapTimers _ _ (by simp [TimerLaw, stoppedTimers]))

theorem keepsEngine_cancelStop {s : State} (w : Working s) : KeepsEngine s (cancelStop s) :=
  (keepsEngine_changeEngine w rfl).trans (keepsEngine_mapRsq _ _ ⟨rfl, rfl, rfl, rfl, rfl, rfl, rfl, rfl⟩)

/-- A start in progress stopped by the holder goes to rest (R19). -/
theorem keepsEngine_stopStart {s : State} (h : s.rsq.engine ≠ .stopped) :
    KeepsEngine s (toRest ((setStopCause .command (cutAttempt .command s)).mapRsq fun r =>
      { r with startResult := .stoppedByCommand })) :=
  (((keepsEngine_cutAttempt _ s).trans (keepsEngine_setStopCause _ _)).trans
    (keepsEngine_mapRsq _ _ ⟨rfl, rfl, rfl, rfl, rfl, rfl, rfl, rfl⟩)).trans
    (keepsEngine_toRest (working_of_ne (by simpa [setStopCause_rsq] using h)))

theorem keepsEngine_holderStop (s : State) : KeepsEngine s (holderStop s) := by
  unfold holderStop
  cases h : s.rsq.engine <;> dsimp only
  case prelube | priming | cranking | crankRest | accelerating => exact keepsEngine_stopStart (by simp [h])
  case running => exact keepsEngine_beginUnloading _ (working_of_ne (by simp [h]))
  case unloading => exact keepsEngine_setStopCause _ s
  case rundown =>
    have h1 : KeepsEngine s (s.mapRsq fun r => { r with restartPending := false }) :=
      keepsEngine_mapRsq _ s ⟨rfl, rfl, rfl, rfl, rfl, rfl, rfl, rfl⟩
    split
    · exact h1.trans (keepsEngine_setStopCause _ _)
    · exact h1
  case autoStopped =>
    exact (keepsEngine_stop h).trans (keepsEngine_mapRsq _ _ ⟨rfl, rfl, rfl, rfl, rfl, rfl, rfl, rfl⟩)
  case stopped | lockedOut => exact .refl s

theorem keepsEngine_holderStart {s : State} (hc : s.cfg.checking = false) : KeepsEngine s (holderStart s).1 := by
  unfold holderStart
  split
  any_goals
    split
    · exact keepsEngine_acceptStart _ fun _ => hc
    · exact keepsEngine_noteRefusal _ s
  · exact keepsEngine_cancelStop fun _ => hc
  · exact .refl s

theorem keepsEngine_autoStop (s : State) : KeepsEngine s (autoStop s) := by
  unfold autoStop
  split
  · next h => exact keepsEngine_beginUnloading _ (working_of_ne (by simp [h]))
  · exact .refl s

theorem keepsEngine_autoStopCancel (s : State) : KeepsEngine s (autoStopCancel s) := by
  unfold autoStopCancel
  split
  · next h => exact keepsEngine_cancelStop (working_of_ne (by simp [h.1]))
  · exact .refl s

theorem keepsEngine_fuelOff {s : State} (h : s.rsq.engine ≠ .stopped) : KeepsEngine s (fuelOff s) := by
  unfold fuelOff
  dsimp only
  split
  · exact (keepsEngine_enterRundown (working_of_ne (by simpa using h))).from_same
      ⟨rfl, rfl, rfl, rfl, rfl, rfl, rfl, rfl⟩ rfl rfl
  · exact keepsEngine_enterRundown (working_of_ne h)

/-! ### IRU's arrivals, and the end of an event -/

theorem keepsEngine_mapIru (f : Iru → Iru) (s : State) : KeepsEngine s (s.mapIru f) := .of_eq rfl rfl rfl

theorem keepsEngine_mapAut (f : Aut → Aut) (s : State) : KeepsEngine s (s.mapAut f) := .of_eq rfl rfl rfl

theorem keepsEngine_mapNtu (f : Ntu → Ntu) (s : State) : KeepsEngine s (s.mapNtu f) := .of_eq rfl rfl rfl

theorem keepsEngine_watchTrigger (s : State) : KeepsEngine s (watchTrigger s) := by
  unfold watchTrigger
  split
  · exact (keepsEngine_mapIru _ s).trans (keepsEngine_autoRestart _)
  · exact .refl s

theorem keepsEngine_handRestartTrigger (s : State) : KeepsEngine s (handRestartTrigger s) :=
  (keepsEngine_mapIru _ s).trans (keepsEngine_noteRestart _)

theorem keepsEngine_demandArrival (notch : Nat) (run : RunRequest) (s : State) :
    KeepsEngine s (demandArrival notch run s) := by
  unfold demandArrival
  split
  · split
    · split
      · exact (keepsEngine_mapIru _ s).trans (keepsEngine_autoStopCancel _)
      · split
        · exact keepsEngine_handRestartTrigger s
        · exact .refl s
    · exact .refl s
  · split
    · exact keepsEngine_watchTrigger s
    · exact .refl s
  all_goals exact .refl s

theorem keepsEngine_reportUnload (s : State) : KeepsEngine s (reportUnload s) := by
  unfold reportUnload
  split
  · next h =>
    obtain ⟨he, -⟩ := h
    have hf : (s.mapNtu fun n => { n with unloadReported := true }).rsq.engine ≠ .stopped := by simp [he]
    exact (keepsEngine_fuelOff hf).from_eq rfl rfl rfl
  · exact .refl s

theorem keepsEngine_settle (s0 : State) (test : Bool) (s : State) : KeepsEngine s (settle s0 test s) := by
  obtain ⟨x, hx, h⟩ := settle_form s0 test s
  rw [hx]
  have hr : KeepsEngine s (refreshGovernor (settleInputs x)) := by
    rcases h with rfl | rfl <;> exact .of_eq (by simp) (by simp) (by simp)
  exact hr.trans (keepsEngine_reportUnload _)

theorem keepsEngine_finish (s0 : State) (test : Bool) (s : State) : KeepsEngine s (finish s0 test s) :=
  (keepsEngine_settle s0 test s).trans (.of_eq rfl rfl rfl)

/-- An operation that keeps both laws keeps them to the end of its event. -/
theorem KeepsEngine.finish {s t : State} (h : KeepsEngine s t) (s0 : State) (test : Bool) :
    KeepsEngine s (finish s0 test t) :=
  h.trans (keepsEngine_finish s0 test t)

/-! ### The trainline, forces and masks, a change of holder -/

theorem keepsEngine_trainlineChange (f : Trainline → Trainline) (s : State) :
    KeepsEngine s (trainlineChange f s) :=
  .trans (keepsEngine_mapAut _ s) (keepsEngine_pruEvent _ _)

theorem keepsEngine_discreteChanged (d : Discrete) (v : Bool) (s : State) : KeepsEngine s (discreteChanged d v s) := by
  unfold discreteChanged
  split
  · exact keepsEngine_pruEvent _ s
  · exact keepsEngine_pruEvent _ s
  · split
    · exact keepsEngine_mapTimers _ s (by simp +contextual [TimerLaw])
    · exact .refl s
  · exact .refl s

theorem keepsEngine_forceDiscrete (d : Discrete) (v : Option Bool) (s : State) :
    KeepsEngine s (forceDiscrete d v s) := by
  have h : KeepsEngine s (s.mapDiscrete d fun r => { r with forced := v }) := .of_eq rfl rfl rfl
  unfold forceDiscrete
  dsimp only
  split
  · exact h
  · exact h.trans (keepsEngine_discreteChanged _ _ _)

theorem keepsEngine_releaseInputs (s : State) : KeepsEngine s (releaseInputs s) := by
  unfold releaseInputs
  refine .trans ?_ (keepsEngine_forceDiscrete _ _ _)
  refine .trans ?_ (keepsEngine_forceDiscrete _ _ _)
  refine .trans ?_ (keepsEngine_forceDiscrete _ _ _)
  exact (keepsEngine_forceDiscrete _ _ _).from_eq rfl rfl rfl

theorem keepsEngine_clearForcesAndMasks (s : State) : KeepsEngine s (clearForcesAndMasks s) :=
  ((keepsEngine_releaseInputs s).trans (keepsEngine_trainlineChange _ _)).trans (keepsEngine_pruEvent _ _)

theorem keepsEngine_afterHolderChange (old : Option Source) (s : State) :
    KeepsEngine s (afterHolderChange old s) := by
  have h1 : KeepsEngine s
      (if old = some .service ∧ s.aut.holder ≠ some .service then clearForcesAndMasks s else s) := by
    split
    · exact keepsEngine_clearForcesAndMasks s
    · exact .refl s
  have h2 := h1.trans (keepsEngine_mapAut autoTake _)
  unfold afterHolderChange
  extract_lets s1 s2
  change KeepsEngine s s2 at h2
  split
  · exact h2.trans (keepsEngine_demandArrival _ _ _)
  · exact h2

theorem keepsEngine_trainlineYield (s : State) : KeepsEngine s (trainlineYield s) :=
  .of_eq (by simp) (by simp) (by simp)

theorem keepsEngine_trainlineEvent (f : Trainline → Trainline) (s : State) : KeepsEngine s (trainlineEvent f s) := by
  have h := keepsEngine_trainlineChange f s
  unfold trainlineEvent
  dsimp only
  split
  · split
    · exact h
    · exact (h.trans (keepsEngine_trainlineYield _)).trans (keepsEngine_demandArrival _ _ _)
  · split
    · exact h.trans (keepsEngine_afterHolderChange _ _)
    · exact h

theorem keepsEngine_grantLink (l : Link) (s : State) : KeepsEngine s (grantLink l s) :=
  (keepsEngine_afterHolderChange _ _).from_eq rfl rfl rfl

theorem keepsEngine_releaseHolder (s : State) : KeepsEngine s (releaseHolder s) :=
  .trans (keepsEngine_mapAut _ s) (keepsEngine_afterHolderChange _ _)

theorem keepsEngine_endHandover (o : ClaimOutcome) (s : State) : KeepsEngine s (endHandover o s) :=
  .of_eq (by simp) (by simp) (by simp)

theorem keepsEngine_lapse (l : Link) (s : State) : KeepsEngine s (lapse l s) :=
  ((keepsEngine_endHandover .lapsed (s.mapSource l fun f => { f with outcome := .lapsed })).trans
    (keepsEngine_releaseHolder _)).from_eq rfl rfl rfl

theorem keepsEngine_leaveActive (l : Link) (st : LinkState) (s : State) : KeepsEngine s (leaveActive l st s) := by
  have h : KeepsEngine s (s.mapSource l (FramedSource.dropped st)) := .of_eq rfl rfl rfl
  unfold leaveActive
  dsimp only
  split
  · exact h.trans (keepsEngine_lapse l _)
  · split
    · split
      · exact h.trans (keepsEngine_endHandover _ _)
      · exact h
    · exact h

/-! ### Requests -/

theorem keepsEngine_conclude (l : Link) (f : Frame) (a : Answer) : KeepsEngine a.state (conclude l f a) := by
  unfold conclude
  split <;> exact .of_eq rfl rfl rfl

/-- The tests before the owner's leave the engine alone; an owner hears no request during the self-check. -/
theorem keepsEngine_request (l : Link) (f : Frame) {owner : State → Answer}
    (h : ∀ u, u.cfg.checking = false → KeepsEngine u (owner u).state) (s : State) :
    KeepsEngine s (request l f owner s) := by
  have hd : KeepsEngine s (dequeued l s) := .of_eq rfl rfl rfl
  unfold request
  split
  · change KeepsEngine s (if (s.aut.source l).linkState = .inert then _ else
      match screenRequest l f (dequeued l s) with
      | some a => conclude l f a
      | none => conclude l f (owner (dequeued l s)))
    split
    · exact .of_eq rfl rfl rfl
    · split
      · next a ha =>
        have hs : KeepsEngine (dequeued l s) a.state := by
          revert ha
          unfold screenRequest answer
          (repeat' split) <;> intro w <;> cases w
          any_goals exact .refl _
          exact (keepsEngine_endHandover _ _).trans (keepsEngine_settle _ _ _)
        exact (hd.trans hs).trans (keepsEngine_conclude l f a)
      · next hs =>
        have hc : (dequeued l s).cfg.checking = false := by
          by_contra hc
          rw [Bool.not_eq_false] at hc
          rw [screenRequest, if_pos hc] at hs
          cases hs
        exact (hd.trans (h _ hc)).trans (keepsEngine_conclude l f _)
  · exact .refl s

/-- An event that is one operation, and then the settling. -/
theorem keepsEngine_event {s u : State} {p : Prop} [Decidable p] (test : Bool) (h : p → KeepsEngine s u) :
    KeepsEngine s (if p then finish s test u else s) := by
  split
  · next hp => exact (h hp).finish s test
  · exact .refl s

/-! ### The owners of the requests -/

theorem keepsEngine_ownerEnrol (l : Link) (payload : List Byte) (s : State) :
    KeepsEngine s (ownerEnrol l payload s).state := by
  unfold ownerEnrol
  split
  · exact .refl s
  · split
    · exact .of_eq rfl rfl rfl
    · have h1 := keepsEngine_leaveActive l .inert s
      have h2 : KeepsEngine (leaveActive l .inert s) ((leaveActive l .inert s).mapLink l LinkIf.discardQueue) :=
        .of_eq rfl rfl rfl
      exact (h1.trans h2).trans (keepsEngine_settle _ _ _)

theorem keepsEngine_runRequest (l : Link) (run : RunRequest) {s : State} (hc : s.cfg.checking = false) :
    KeepsEngine s (runRequest l run s).1 := by
  have hs := keepsEngine_holderStart hc
  unfold runRequest
  split
  · exact .refl s
  · split
    · split
      · next w => rwa [w] at hs
      · next w => rwa [w] at hs
    · exact .refl s
  · split
    · exact keepsEngine_holderStop s
    · exact .refl s

theorem keepsEngine_holderDemandEvent (l : Link) (run : RunRequest) {s : State} (hc : s.cfg.checking = false) :
    KeepsEngine s (holderDemandEvent l run s).state := by
  unfold holderDemandEvent
  extract_lets s1 f r s2
  have h1 : KeepsEngine s1 r.1 := keepsEngine_runRequest l run hc
  have h : KeepsEngine s s2 :=
    ((h1.trans (keepsEngine_demandArrival _ _ _)).trans (keepsEngine_settle _ _ _)).from_eq rfl rfl rfl
  split <;> exact h

theorem keepsEngine_ownerDemand (l : Link) (payload : List Byte) {s : State} (hc : s.cfg.checking = false) :
    KeepsEngine s (ownerDemand l payload s).state := by
  unfold ownerDemand
  split
  · exact .refl s
  · next notch run _ =>
    have h1 : KeepsEngine s (s.mapSource l (FramedSource.recorded notch run)) := .of_eq rfl rfl rfl
    dsimp only
    split
    · exact h1.trans (keepsEngine_holderDemandEvent l run hc)
    · exact h1

theorem keepsEngine_beginHandover (l : Link) (holder : Source) (override : Bool) (s : State) :
    KeepsEngine s (beginHandover l holder override s) :=
  (keepsEngine_trainlineYield _).from_eq rfl rfl rfl

theorem keepsEngine_ownerClaim (l : Link) (payload : List Byte) (s : State) :
    KeepsEngine s (ownerClaim l payload s).state := by
  unfold ownerClaim
  dsimp only
  (repeat' split) <;> try exact .refl s
  · exact (keepsEngine_grantLink l s).trans (keepsEngine_settle _ _ _)
  · exact (keepsEngine_beginHandover l _ _ s).trans (keepsEngine_settle _ _ _)

theorem keepsEngine_advanceHandover (s : State) : KeepsEngine s (advanceHandover s) := .of_eq rfl rfl rfl

theorem keepsEngine_ownerYield (l : Link) (payload : List Byte) (s : State) :
    KeepsEngine s (ownerYield l payload s).state := by
  unfold ownerYield
  (repeat' split) <;> try exact .refl s
  · exact (keepsEngine_releaseHolder s).trans (keepsEngine_settle _ _ _)
  · have h : KeepsEngine s (yieldToTrainline s) := (keepsEngine_afterHolderChange _ _).from_eq rfl rfl rfl
    exact h.trans (keepsEngine_settle _ _ _)
  · exact (keepsEngine_advanceHandover s).trans (keepsEngine_settle _ _ _)

theorem keepsEngine_ownerTake (l : Link) (payload : List Byte) (s : State) :
    KeepsEngine s (ownerTake l payload s).state := by
  unfold ownerTake
  (repeat' split) <;> try exact .refl s
  exact (keepsEngine_grantLink l s).trans (keepsEngine_settle _ _ _)

theorem keepsEngine_ownerKeep (l : Link) (s : State) : KeepsEngine s (ownerKeep l s).state := by
  unfold ownerKeep
  (repeat' split) <;> try exact .refl s
  exact (keepsEngine_endHandover _ s).trans (keepsEngine_settle _ _ _)

theorem keepsEngine_ownerResetProtection (l : Link) (payload : List Byte) (s : State) :
    KeepsEngine s (ownerResetProtection l payload s).state := by
  unfold ownerResetProtection
  (repeat' split) <;> try exact .refl s
  exact (keepsEngine_pruEvent _ s).trans (keepsEngine_settle _ _ _)

theorem keepsEngine_ownerResetAll (l : Link) (s : State) : KeepsEngine s (ownerResetAll l s).state := by
  unfold ownerResetAll
  dsimp only
  (repeat' split) <;> try exact .refl s
  exact (keepsEngine_pruEvent _ s).trans (keepsEngine_settle _ _ _)

/-- What takes no entry into service or out of it leaves the SHUTDOWN entries in service alone. -/
theorem shutdownInService_congr {p q : Pru} (h : ∀ e, (q.entry e).inService = (p.entry e).inService) :
    q.shutdownInService = p.shutdownInService := by
  simp only [Pru.shutdownInService, h]

/-- A change of the table that takes no entry into service or out of it keeps both laws. -/
theorem keepsEngine_mapPru {f : Pru → Pru} {s : State}
    (h : ∀ e, ((f s.pru).entry e).inService = (s.pru.entry e).inService) : KeepsEngine s (s.mapPru f) :=
  .of_same (.refl _) (shutdownInService_congr h) rfl

theorem inService_setEntry {p : Pru} {e : Entry} {r : EntryRec} (h : r.state = (p.entry e).state) (k : Entry) :
    ((p.setEntry e r).entry k).inService = (p.entry k).inService := by
  rw [Pru.entry_setEntry]
  split
  · next hk => rw [hk]; simp only [EntryRec.inService, h]
  · rfl

theorem keepsEngine_ownerAcknowledge (s : State) : KeepsEngine s (ownerAcknowledge s).state := by
  refine keepsEngine_mapPru (f := fun p => ringBell (p.mapEntries EntryRec.acknowledge)) (s := s) fun e => ?_
  rw [ringBell_entry, Pru.entry_mapEntries]
  unfold EntryRec.acknowledge
  split <;> rfl

theorem keepsEngine_ownerMask (payload : List Byte) (s : State) : KeepsEngine s (ownerMask payload s).state := by
  unfold ownerMask
  split
  · exact .refl s
  · next e _ =>
    refine keepsEngine_mapPru fun k => ?_
    exact inService_setEntry (r := { s.pru.entry e with masked := true }) rfl k

theorem keepsEngine_ownerUnmask (payload : List Byte) (s : State) : KeepsEngine s (ownerUnmask payload s).state := by
  unfold ownerUnmask
  split
  · exact .refl s
  · exact (keepsEngine_pruEvent _ s).trans (keepsEngine_settle _ _ _)

theorem keepsEngine_ownerClearTripCount (payload : List Byte) (s : State) :
    KeepsEngine s (ownerClearTripCount payload s).state := by
  unfold ownerClearTripCount
  split
  · exact .refl s
  · next e _ =>
    refine keepsEngine_mapPru fun k => ?_
    exact inService_setEntry (r := { s.pru.entry e with tripCount := 0 }) rfl k

/-- What changes CFG but not the self-check keeps both laws. -/
theorem keepsEngine_mapCfg {f : Cfg → Cfg} {s : State} (h : (f s.cfg).checking = s.cfg.checking) :
    KeepsEngine s (s.mapCfg f) :=
  .of_same (.refl _) rfl h

theorem keepsEngine_ownerWriteEntry (payload : List Byte) (s : State) :
    KeepsEngine s (ownerWriteEntry payload s).state := by
  unfold ownerWriteEntry
  (repeat' split) <;> try exact .refl s
  · next g f v _ _ _ _ =>
    exact keepsEngine_mapCfg (f := fun c => { c with edited := c.edited.setField g.val f v }) rfl

theorem keepsEngine_ownerApply (s : State) : KeepsEngine s (ownerApply s).state := by
  unfold ownerApply
  (repeat' split) <;> try exact .refl s
  have h : KeepsEngine s (s.mapCfg fun c => { c with active := c.edited, writing := true }) := keepsEngine_mapCfg rfl
  exact (h.trans (keepsEngine_trainlineEvent _ _)).trans (keepsEngine_settle _ _ _)

theorem keepsEngine_groupRequest {allowed : GroupState → Bool} {act : Fin 5 → Cfg → Cfg} (payload : List Byte)
    (h : ∀ g c, (act g c).checking = c.checking) (s : State) :
    KeepsEngine s (groupRequest allowed act payload s).state := by
  unfold groupRequest
  (repeat' split) <;> try exact .refl s
  exact keepsEngine_mapCfg (h _ _)

theorem keepsEngine_ownerLockGroup (payload : List Byte) (s : State) :
    KeepsEngine s (ownerLockGroup payload s).state :=
  keepsEngine_groupRequest (act := fun g c => Cfg.closeGroup g .locked c) payload (fun _ _ => rfl) s

theorem keepsEngine_ownerUnlockGroup (payload : List Byte) (s : State) :
    KeepsEngine s (ownerUnlockGroup payload s).state :=
  keepsEngine_groupRequest (act := fun g c => { c with groups := c.groups.set g .opened }) payload (fun _ _ => rfl) s

theorem keepsEngine_ownerFixGroup (payload : List Byte) (s : State) :
    KeepsEngine s (ownerFixGroup payload s).state :=
  keepsEngine_groupRequest (act := fun g c => Cfg.closeGroup g .fixed c) payload (fun _ _ => rfl) s

theorem keepsEngine_applyForce (v : ForceValue) (s : State) : KeepsEngine s (applyForce v s) := by
  unfold applyForce
  split
  · exact .of_eq rfl rfl rfl
  · exact .of_eq rfl rfl rfl
  · exact keepsEngine_forceDiscrete _ _ s
  · exact keepsEngine_trainlineChange _ s

theorem keepsEngine_ownerForce (payload : List Byte) (s : State) : KeepsEngine s (ownerForce payload s).state := by
  unfold ownerForce
  (repeat' split) <;> try exact .refl s
  exact (keepsEngine_applyForce _ s).trans (keepsEngine_settle _ _ _)

theorem keepsEngine_releaseTarget (n : Nat) (s : State) : KeepsEngine s (releaseTarget n s) := by
  unfold releaseTarget
  split
  · exact .of_eq rfl rfl rfl
  · split
    · exact keepsEngine_trainlineChange _ s
    · split
      · exact .of_eq rfl rfl rfl
      · exact keepsEngine_forceDiscrete _ _ s
      · exact .refl s

theorem keepsEngine_ownerReleaseForce (payload : List Byte) (s : State) :
    KeepsEngine s (ownerReleaseForce payload s).state := by
  unfold ownerReleaseForce
  (repeat' split) <;> try exact .refl s
  · exact ((keepsEngine_releaseInputs s).trans (keepsEngine_trainlineChange _ _)).trans (keepsEngine_settle _ _ _)
  · exact (keepsEngine_releaseTarget _ s).trans (keepsEngine_settle _ _ _)

theorem keepsEngine_ownerLatch (l : Link) (payload : List Byte) (s : State) :
    KeepsEngine s (ownerLatch l payload s).state := by
  unfold ownerLatch
  dsimp only
  (repeat' split) <;> exact .of_eq rfl rfl rfl

theorem keepsEngine_readRequest (t : ReadTarget) (l : Link) (seq : Byte) (payload : List Byte) {owner : State → Answer}
    (h : ∀ u, (owner u).state = u ∨ ∃ f, (owner u).state = u.mapLink l f) (s : State) :
    KeepsEngine s (readRequest t l seq payload owner s) := by
  unfold readRequest
  split
  · refine keepsEngine_request l _ (fun u _ => ?_) s
    rcases h u with h | ⟨f, h⟩
    · rw [h]
      exact .refl u
    · rw [h]
      exact .of_eq rfl rfl rfl
  · exact .refl s

/-! ### Values and windows -/

theorem keepsEngine_rsqValue (c : Channel) (s : State) : KeepsEngine s (rsqValue c s) := by
  unfold rsqValue
  dsimp only
  split
  · exact .refl s
  · next hc =>
    have w : Working s := fun _ => by simpa using hc
    split
    · split
      · exact keepsEngine_enterPriming w
      · exact .refl s
    · split
      · exact keepsEngine_enterCranking w
      · exact .refl s
    · next he =>
      exact ⟨fun h => ⟨h.1, by simpa [TimerLaw, batteryInCranking, he] using h.2⟩, LockoutLaw.congr rfl rfl rfl⟩
    · exact .refl s

theorem keepsEngine_iruValue (c : Channel) (s : State) : KeepsEngine s (iruValue c s) := by
  unfold iruValue
  split
  · unfold coolantTrigger
    split
    · split
      · split
        · exact keepsEngine_handRestartTrigger s
        · exact .refl s
      · exact keepsEngine_watchTrigger s
      all_goals exact .refl s
    · exact .refl s
  · unfold batteryWatch
    split
    · exact keepsEngine_mapIru _ s
    · exact .refl s
  all_goals exact .refl s

theorem keepsEngine_handOn (c : Channel) (s : State) : KeepsEngine s (handOn c s) :=
  ((keepsEngine_rsqValue c s).trans (keepsEngine_pruEvent _ _)).trans (keepsEngine_iruValue c _)

theorem keepsEngine_crankingWindow {s : State} (h : s.rsq.engine = .cranking) :
    KeepsEngine s (crankingWindow s) := by
  have h1 : KeepsEngine s (s.mapRsq tickCranking) :=
    keepsEngine_mapRsq _ _ ⟨rfl, rfl, rfl, rfl, rfl, rfl, rfl, rfl⟩
  refine h1.trans ?_
  unfold crankingWindow crankingThresholds
  split
  · refine ⟨fun _ => ?_, fun k => lockoutLaw_of_moving ?_ ?_⟩
    · simp [InStep, OutputsLaw, TimerLaw, fireAttempt, stoppedTimers, fuelEnableIn]
    · simpa [fireAttempt] using k.checked (working_of_ne (by simp [h, tickCranking]))
    · simp [fireAttempt, Engine.atRest]
  · split
    · refine ⟨fun k => ?_, LockoutLaw.congr rfl rfl rfl⟩
      obtain ⟨⟨ho1, ho2, ho3, -⟩, ht⟩ := k
      simp only [State.mapRsq_rsq, tickCranking, h] at ho1 ho2 ho3
      simp only [InStep, OutputsLaw, TimerLaw, latchCrankFuel, State.mapRsq_rsq, tickCranking, h] at ht ⊢
      obtain ⟨h1, h2, h3, h4, h5, h6, h7, h8, h9, h10, h11, -⟩ := ht
      exact ⟨⟨ho1, ho2, ho3, rfl⟩, h1, h2, h3, h4, h5, h6, h7, h8, h9, h10, h11, fun _ => trivial⟩
    · exact .refl _

theorem keepsEngine_acceleratingWindow {s : State} (h : s.rsq.engine = .accelerating) :
    KeepsEngine s (acceleratingWindow s) := by
  unfold acceleratingWindow
  split
  · exact .trans (keepsEngine_mapRsq _ s ⟨rfl, rfl, rfl, rfl, rfl, rfl, rfl, rfl⟩)
      (keepsEngine_changeEngine (working_of_ne (by simp [h, closeFired])) rfl)
  · exact keepsEngine_mapTimers _ s (by simp [TimerLaw, h])

theorem keepsEngine_rsqWindow (s : State) : KeepsEngine s (rsqWindow s) := by
  unfold rsqWindow
  extract_lets s1
  have h1 : KeepsEngine s s1 := by
    unfold s1
    split
    · exact keepsEngine_mapRsq _ s ⟨rfl, rfl, rfl, rfl, rfl, rfl, rfl, rfl⟩
    · exact .refl s
  have he : s1.rsq.engine = s.rsq.engine := by
    unfold s1
    split <;> rfl
  split
  · exact .refl s
  · cases hs : s.rsq.engine <;> rw [hs] at he <;> dsimp only
    case cranking => exact h1.trans (keepsEngine_crankingWindow he)
    case accelerating => exact h1.trans (keepsEngine_acceleratingWindow he)
    case crankRest =>
      exact h1.trans ⟨fun h => ⟨h.1, by simpa [TimerLaw, crankRestWindow, he] using h.2⟩, LockoutLaw.congr rfl rfl rfl⟩
    case rundown => exact h1.trans (keepsEngine_mapTimers _ s1 (by simp [TimerLaw, he]))
    case stopped | autoStopped | lockedOut | prelube | priming | running | unloading => exact h1

/-! ### Reset and the end of the self-check -/

theorem keepsEngine_resetPart (s : State) : KeepsEngine s (resetPart s) := by
  refine ⟨fun _ => ?_, fun _ => ?_⟩
  · exact ⟨⟨rfl, rfl, rfl, rfl⟩, by simp [TimerLaw, resetPart, resetRsq, stoppedTimers]⟩
  · exact ⟨fun _ => rfl, fun h => absurd h (by simp [resetPart, resetCfg])⟩

/-- The end of the self-check chooses a state that fits the SHUTDOWN entries (R28). -/
theorem keepsEngine_firstEngineState {s : State} (hc : s.cfg.checking = true) :
    KeepsEngine s (firstEngineState (s.mapCfg checkedCfg)) := by
  refine ⟨fun h => ?_, fun h => ?_⟩
  · have h' : InStep (s.mapCfg checkedCfg) := h
    unfold firstEngineState
    split
    · exact (keepsEngine_enterRundown fun _ => rfl).inStep h'
    · split
      · exact inStep_changeEngine _ _
      · exact h'
  · unfold firstEngineState
    split
    · exact lockoutLaw_of_moving (by simp [enterRundown, checkedCfg]) (by simp [enterRundown, Engine.atRest])
    · split
      · next hs => exact lockoutLaw_changeEngine rfl fun _ => by simpa using hs
      · next hs =>
        have he : (s.mapCfg checkedCfg).rsq.engine = .stopped := h.1 hc
        refine lockoutLaw_of_checked rfl fun _ => ?_
        rw [he]
        simpa using hs

/-! ### Every command -/

/-- An outcome whose next state keeps both laws. -/
def KeepsOutcome (s : State) (o : Host.Outcome State Fault Refusal) : Prop := ∀ t, o = .next t → KeepsEngine s t

theorem keepsOutcome_next {s t : State} (h : KeepsEngine s t) : KeepsOutcome s (.next t) := by
  intro u hu
  cases hu
  exact h

theorem keepsEngine_execSelfCheckEnd (s : State) :
    KeepsOutcome s (execSelfCheckEnd s) := by
  refine keepsOutcome_next ?_
  split
  · next h =>
    exact ((keepsEngine_firstEngineState h).trans (keepsEngine_trainlineEvent _ _)).finish s false
  · exact .refl s

theorem keepsEngine_execGoodFrame (l : Link) (k q : Byte) (p : List Byte) (s : State) :
    KeepsOutcome s (execGoodFrame l k q p s) := by
  refine keepsOutcome_next ?_
  split
  · unfold takeGoodFrame
    split <;> exact .of_eq rfl rfl rfl
  · exact .of_eq rfl rfl rfl

theorem keepsEngine_execUnknownKind (l : Link) (k q : Byte) (p : List Byte) (s : State) :
    KeepsOutcome s (execUnknownKind l k q p s) := by
  refine keepsOutcome_next ?_
  split
  · exact .refl s
  · exact keepsEngine_request _ _ (fun u _ => .refl u) s

theorem keepsEngine_execReadLatched (l : Link) (q : Byte) (p : List Byte) (s : State) :
    KeepsOutcome s (execReadLatched l q p s) := by
  refine keepsOutcome_next (keepsEngine_readRequest _ l q p (fun u => ?_) s)
  unfold ownerReadLatched
  (repeat' split) <;> try exact .inl rfl
  exact .inr ⟨fun x => { x with latch := none }, rfl⟩

theorem keepsEngine_execReadCrankHistory (l : Link) (q : Byte) (p : List Byte) (s : State) :
    KeepsOutcome s (execReadCrankHistory l q p s) := by
  refine keepsOutcome_next (keepsEngine_readRequest _ l q p (fun u => .inl ?_) s)
  unfold ownerReadCrankHistory
  (repeat' split) <;> rfl

theorem keepsEngine_execReadProtectionTable (l : Link) (q : Byte) (p : List Byte) (s : State) :
    KeepsOutcome s (execReadProtectionTable l q p s) := by
  refine keepsOutcome_next (keepsEngine_readRequest _ l q p (fun u => .inl ?_) s)
  unfold ownerReadProtectionTable
  (repeat' split) <;> rfl

theorem keepsEngine_execReadAnalogChannelRecords (l : Link) (q : Byte) (p : List Byte) (s : State) :
    KeepsOutcome s (execReadAnalogChannelRecords l q p s) := by
  refine keepsOutcome_next (keepsEngine_readRequest _ l q p (fun u => .inl ?_) s)
  unfold ownerReadAnalogChannelRecords
  (repeat' split) <;> rfl

theorem keepsEngine_execReadSourceTableSummary (l : Link) (q : Byte) (p : List Byte) (s : State) :
    KeepsOutcome s (execReadSourceTableSummary l q p s) := by
  refine keepsOutcome_next (keepsEngine_readRequest _ l q p (fun u => .inl ?_) s)
  unfold ownerReadSourceTableSummary
  (repeat' split) <;> rfl

theorem keepsEngine_execReadConfigurationEntry (l : Link) (q : Byte) (p : List Byte) (s : State) :
    KeepsOutcome s (execReadConfigurationEntry l q p s) := by
  refine keepsOutcome_next (keepsEngine_readRequest _ l q p (fun u => .inl ?_) s)
  unfold ownerReadConfigurationEntry
  (repeat' split) <;> rfl

theorem keepsEngine_execReadEngineRunRecord (l : Link) (q : Byte) (p : List Byte) (s : State) :
    KeepsOutcome s (execReadEngineRunRecord l q p s) := by
  refine keepsOutcome_next (keepsEngine_readRequest _ l q p (fun u => .inl ?_) s)
  unfold ownerReadEngineRunRecord
  (repeat' split) <;> rfl

theorem keepsEngine_execHoldTimerExpiry (c : Channel) (s : State) :
    KeepsOutcome s (execHoldTimerExpiry c s) := by
  refine keepsOutcome_next (keepsEngine_event false fun _ => ?_)
  have h : KeepsEngine s (reportSensorRange (s.mapChannel c (substituted c))) :=
    (keepsEngine_pruEvent _ _).from_eq rfl rfl rfl
  split
  · exact h
  · exact h.trans (keepsEngine_handOn c _)

theorem keepsEngine_execDebouncedChange (d : Discrete) (s : State) :
    KeepsOutcome s (execDebouncedChange d s) := by
  refine keepsOutcome_next (keepsEngine_event false fun _ => ?_)
  split
  · exact .of_eq rfl rfl rfl
  · exact (keepsEngine_discreteChanged _ _ _).from_eq rfl rfl rfl

theorem keepsEngine_execPrelubeMinimumExpiry (s : State) :
    KeepsOutcome s (execPrelubeMinimumExpiry s) := by
  refine keepsOutcome_next (keepsEngine_event false fun hp => ?_)
  have h : KeepsEngine s (s.mapTimers fun x => { x with prelubeMinimum := none }) :=
    keepsEngine_mapTimers _ s (by simp +contextual [TimerLaw])
  split
  · exact h.trans (keepsEngine_enterPriming (working_of_ne (by simp [hp.1])))
  · exact h

theorem keepsEngine_execBudgetTimerExpiry (s : State) :
    KeepsOutcome s (execBudgetTimerExpiry s) := by
  refine keepsOutcome_next (keepsEngine_event false fun hp => ?_)
  exact .trans (keepsEngine_mapRsq _ s ⟨rfl, rfl, rfl, rfl, rfl, rfl, rfl, rfl⟩)
    (keepsEngine_abandonStart _ (working_of_ne (by simp [hp.1, writeAttempt])))

theorem keepsEngine_execLubeArmingExpiry (s : State) :
    KeepsOutcome s (execLubeArmingExpiry s) := by
  refine keepsOutcome_next ?_
  split
  · next ha =>
    refine ⟨fun h => ⟨h.1, ?_⟩, LockoutLaw.congr rfl rfl rfl⟩
    have hf : s.rsq.fuelEnable = true := by
      obtain ⟨-, -, -, -, -, -, -, -, -, -, -, -, hl⟩ := h
      exact hl (.inl ha)
    simpa [TimerLaw, hf] using h.2
  · exact .refl s

theorem keepsEngine_execRestTimerExpiry (s : State) :
    KeepsOutcome s (execRestTimerExpiry s) := by
  refine keepsOutcome_next (keepsEngine_event false fun hp => ?_)
  have h : KeepsEngine s (s.mapTimers fun x => { x with rest := none }) :=
    keepsEngine_mapTimers _ s (by simp +contextual [TimerLaw])
  split
  · exact h.trans (keepsEngine_endRest (working_of_ne (by simp [hp.1])))
  · exact h

theorem keepsEngine_execZeroHoldExpiryCrankRest (s : State) :
    KeepsOutcome s (execZeroHoldExpiryCrankRest s) := by
  refine keepsOutcome_next (keepsEngine_event false fun hp => ?_)
  have h : KeepsEngine s
      (s.mapRsq fun r => { r with zeroConfirmed := true, timers := { r.timers with zeroHold := none } }) :=
    ⟨fun k => ⟨k.1, by simpa [TimerLaw, hp.1] using k.2⟩, LockoutLaw.congr rfl rfl rfl⟩
  split
  · exact h.trans (keepsEngine_endRest (working_of_ne (by simp [hp.1])))
  · exact h

theorem keepsEngine_execStopHoldExpiry (s : State) :
    KeepsOutcome s (execStopHoldExpiry s) := by
  refine keepsOutcome_next (keepsEngine_event false fun _ => ?_)
  split
  · exact (keepsEngine_holderStop _).from_eq rfl rfl rfl
  · exact keepsEngine_mapAut _ s

theorem keepsEngine_execYieldStageExpiry (s : State) :
    KeepsOutcome s (execYieldStageExpiry s) := by
  refine keepsOutcome_next ?_
  split
  · refine keepsEngine_event false fun _ => ?_
    split
    · exact keepsEngine_advanceHandover s
    · exact keepsEngine_endHandover _ s
  · exact .refl s

theorem keepsEngine_execTakeStageExpiry (s : State) :
    KeepsOutcome s (execTakeStageExpiry s) := by
  refine keepsOutcome_next ?_
  split
  · exact keepsEngine_event false fun _ => keepsEngine_endHandover _ s
  · exact .refl s

theorem keepsEngine_execIdleDwellExpiry (s : State) :
    KeepsOutcome s (execIdleDwellExpiry s) := by
  refine keepsOutcome_next (keepsEngine_event false fun _ => ?_)
  unfold endIdleDwell
  dsimp only
  split
  · exact (keepsEngine_autoStop _).from_eq rfl rfl rfl
  · exact keepsEngine_mapIru _ s

theorem keepsEngine_execStoreWriteCompletion (s : State) :
    KeepsOutcome s (execStoreWriteCompletion s) := by
  refine keepsOutcome_next ?_
  split
  · exact .of_same (.refl _) rfl rfl
  · exact .refl s

/-- Every command keeps both laws. -/
theorem keepsEngine_exec (c : Instr) (s : State) : KeepsOutcome s (exec c s) := by
  cases c with
  | powerOn | resetLine => exact keepsOutcome_next (keepsEngine_resetPart s)
  | selfCheckEnd => exact keepsEngine_execSelfCheckEnd s
  | linkBreak l =>
    refine keepsOutcome_next (KeepsEngine.finish ?_ s false)
    exact (keepsEngine_leaveActive l _ _).from_eq rfl rfl rfl
  | goodFrame l k q p => exact keepsEngine_execGoodFrame l k q p s
  | badFrame l | interByteGap l | replySent l => exact keepsOutcome_next (.of_eq rfl rfl rfl)
  | unknownKind l k q p => exact keepsEngine_execUnknownKind l k q p s
  | enrol l q p => exact keepsOutcome_next (keepsEngine_request _ _ (fun u _ => keepsEngine_ownerEnrol l p u) s)
  | status l q p => exact keepsOutcome_next (keepsEngine_request _ _ (fun u _ => .refl u) s)
  | demand l q p => exact keepsOutcome_next (keepsEngine_request _ _ (fun _ hc => keepsEngine_ownerDemand l p hc) s)
  | claim l q p => exact keepsOutcome_next (keepsEngine_request _ _ (fun u _ => keepsEngine_ownerClaim l p u) s)
  | yield l q p => exact keepsOutcome_next (keepsEngine_request _ _ (fun u _ => keepsEngine_ownerYield l p u) s)
  | take l q p => exact keepsOutcome_next (keepsEngine_request _ _ (fun u _ => keepsEngine_ownerTake l p u) s)
  | keep l q p => exact keepsOutcome_next (keepsEngine_request _ _ (fun u _ => keepsEngine_ownerKeep l u) s)
  | resetProtection l q p =>
    exact keepsOutcome_next (keepsEngine_request _ _ (fun u _ => keepsEngine_ownerResetProtection l p u) s)
  | resetAll l q p => exact keepsOutcome_next (keepsEngine_request _ _ (fun u _ => keepsEngine_ownerResetAll l u) s)
  | acknowledge l q p =>
    exact keepsOutcome_next (keepsEngine_request _ _ (fun u _ => keepsEngine_ownerAcknowledge u) s)
  | latch l q p => exact keepsOutcome_next (keepsEngine_request _ _ (fun u _ => keepsEngine_ownerLatch l p u) s)
  | readLatched l q p => exact keepsEngine_execReadLatched l q p s
  | readCrankHistory l q p => exact keepsEngine_execReadCrankHistory l q p s
  | readProtectionTable l q p => exact keepsEngine_execReadProtectionTable l q p s
  | readAnalogChannelRecords l q p => exact keepsEngine_execReadAnalogChannelRecords l q p s
  | readSourceTableSummary l q p => exact keepsEngine_execReadSourceTableSummary l q p s
  | readConfigurationEntry l q p => exact keepsEngine_execReadConfigurationEntry l q p s
  | readEngineRunRecord l q p => exact keepsEngine_execReadEngineRunRecord l q p s
  | force l q p => exact keepsOutcome_next (keepsEngine_request _ _ (fun u _ => keepsEngine_ownerForce p u) s)
  | releaseForce l q p =>
    exact keepsOutcome_next (keepsEngine_request _ _ (fun u _ => keepsEngine_ownerReleaseForce p u) s)
  | mask l q p => exact keepsOutcome_next (keepsEngine_request _ _ (fun u _ => keepsEngine_ownerMask p u) s)
  | unmask l q p => exact keepsOutcome_next (keepsEngine_request _ _ (fun u _ => keepsEngine_ownerUnmask p u) s)
  | writeEntry l q p =>
    exact keepsOutcome_next (keepsEngine_request _ _ (fun u _ => keepsEngine_ownerWriteEntry p u) s)
  | applyTable l q p => exact keepsOutcome_next (keepsEngine_request _ _ (fun u _ => keepsEngine_ownerApply u) s)
  | lockGroup l q p => exact keepsOutcome_next (keepsEngine_request _ _ (fun u _ => keepsEngine_ownerLockGroup p u) s)
  | unlockGroup l q p =>
    exact keepsOutcome_next (keepsEngine_request _ _ (fun u _ => keepsEngine_ownerUnlockGroup p u) s)
  | fixGroup l q p => exact keepsOutcome_next (keepsEngine_request _ _ (fun u _ => keepsEngine_ownerFixGroup p u) s)
  | clearTripCount l q p =>
    exact keepsOutcome_next (keepsEngine_request _ _ (fun u _ => keepsEngine_ownerClearTripCount p u) s)
  | pickupPulse k => exact keepsOutcome_next (.of_eq rfl rfl rfl)
  | windowCompletes =>
    have h : KeepsEngine s { s with spd := (windowWork s.cfg.active (fuelled s) s.spd).1 } := .of_eq rfl rfl rfl
    exact keepsOutcome_next (((h.trans (keepsEngine_rsqWindow _)).trans (keepsEngine_pruEvent _ _)).finish s true)
  | conversion c raw =>
    have h : KeepsEngine s (s.mapIns (Ins.converted s.cfg.active c raw.toNat)) := .of_eq rfl rfl rfl
    exact keepsOutcome_next (keepsEngine_event false fun _ =>
      (h.trans (keepsEngine_pruEvent _ _)).trans (keepsEngine_handOn c _))
  | holdTimerExpiry c => exact keepsEngine_execHoldTimerExpiry c s
  | discreteInputLevelChange d level => exact keepsOutcome_next (.of_eq rfl rfl rfl)
  | debouncedChange d => exact keepsEngine_execDebouncedChange d s
  | filterTimerExpiry e => exact keepsOutcome_next (keepsEngine_event false fun _ => keepsEngine_pruEvent _ s)
  | prelubeMinimumExpiry => exact keepsEngine_execPrelubeMinimumExpiry s
  | prelubeLimitExpiry | primeTimerExpiry =>
    exact keepsOutcome_next (keepsEngine_event false fun _ => keepsEngine_failStart _ s)
  | engageTimerExpiry | crankLimitExpiry | batteryDropoutExpiry =>
    exact keepsOutcome_next (keepsEngine_event false fun hp =>
      keepsEngine_endAttempt _ _ (working_of_ne (by simp [hp.1])))
  | budgetTimerExpiry => exact keepsEngine_execBudgetTimerExpiry s
  | accelerationTimerExpiry | stallTimerExpiry =>
    refine keepsOutcome_next (keepsEngine_event false fun hp => ?_)
    exact .trans (keepsEngine_mapRsq _ s ⟨rfl, rfl, rfl, rfl, rfl, rfl, rfl, rfl⟩)
      (keepsEngine_failAttempt (working_of_ne (by simp [hp.1, closeFired])))
  | lubeArmingExpiry => exact keepsEngine_execLubeArmingExpiry s
  | restTimerExpiry => exact keepsEngine_execRestTimerExpiry s
  | zeroHoldExpiryCrankRest => exact keepsEngine_execZeroHoldExpiryCrankRest s
  | zeroHoldExpiryRundown =>
    exact keepsOutcome_next (keepsEngine_event false fun hp =>
      keepsEngine_comeToRest (working_of_ne (by simp [hp.1])))
  | unloadTimerExpiry =>
    exact keepsOutcome_next (keepsEngine_event false fun hp => keepsEngine_fuelOff (by simp [hp.1]))
  | minuteTick => exact keepsOutcome_next (.of_same ⟨rfl, rfl, rfl, rfl, rfl, rfl, rfl, rfl⟩ rfl rfl)
  | freshnessTimerExpiry l => exact keepsOutcome_next (keepsEngine_event false fun _ => keepsEngine_leaveActive l _ s)
  | trainlineWireLevelChange x level => exact keepsOutcome_next (keepsEngine_mapAut _ s)
  | trainlineDebouncedChange x | settleTimerExpiry | invalidTimerExpiry =>
    exact keepsOutcome_next (keepsEngine_event false fun _ => keepsEngine_trainlineEvent _ s)
  | stopHoldExpiry => exact keepsEngine_execStopHoldExpiry s
  | yieldStageExpiry => exact keepsEngine_execYieldStageExpiry s
  | takeStageExpiry => exact keepsEngine_execTakeStageExpiry s
  | dwellTimerExpiry => exact keepsOutcome_next (keepsEngine_event true fun _ => keepsEngine_mapNtu _ s)
  | rampInterval => exact keepsOutcome_next ((keepsEngine_mapNtu _ s).finish s true)
  | idleDwellExpiry => exact keepsEngine_execIdleDwellExpiry s
  | lowIdleDwellExpiry =>
    exact keepsOutcome_next (keepsEngine_event false fun _ => (keepsEngine_autoStop _).from_eq rfl rfl rfl)
  | autoStopTimerExpiry | batteryLowRestartExpiry =>
    exact keepsOutcome_next (keepsEngine_event false fun _ =>
      (keepsEngine_mapIru _ s).trans (keepsEngine_watchTrigger _))
  | storeWriteCompletion => exact keepsEngine_execStoreWriteCompletion s

/-- A step that carries out a command on the queue's rest keeps what the command keeps. -/
theorem keepsEngine_step {s t : State} (h : step s = .next t) : KeepsEngine s t := by
  unfold step at h
  split at h
  · cases h
    exact .refl s
  · exact (keepsEngine_exec _ _ t h).from_eq rfl rfl rfl

/-- Settles O6: every command keeps RSQ's outputs and timers in step with the engine state. -/
theorem outputsAndTimersFollowTheEngineState : Obligations.OutputsAndTimersFollowTheEngineState :=
  fun _ _ hs h => (keepsEngine_step h).inStep hs

/-- Settles O7: every command keeps the law of LOCKED OUT. -/
theorem lockedOutExactlyWithAShutdownInService : Obligations.LockedOutExactlyWithAShutdownInService :=
  fun _ _ hs h => (keepsEngine_step h).lockout hs

end Sys2Proof.Machine
end

section
/-! SUPPORT. What a change of engine state does, block by block, and what RSQ's own operations leave alone of the other
blocks. -/

namespace Sys2Proof.Machine

/-! ### RSQ at a change of engine state (R2, R161) -/

/-- Whether IRU answers the change to `new` with a restart trigger: a demand was seen in the unloading of its auto stop
(R161). -/
def handsRestart (new : Engine) (s : State) : Bool :=
  decide (s.iru.state = .stopping) && decide (new = .rundown) && decide (s.rsq.engine = .unloading) && s.iru.demandSeen

/-- IRU's answer to a change of engine state reaches RSQ only as that trigger. -/
theorem iruEngineChange_rsq (old new : Engine) (s : State) :
    (iruEngineChange old new s).rsq =
      if s.iru.state = .stopping ∧ new = .rundown ∧ old = .unloading ∧ s.iru.demandSeen = true then
        (handRestartTrigger s).rsq
      else s.rsq := by
  unfold iruEngineChange
  split
  · next hs =>
    split
    · split <;> simp_all
    all_goals simp_all
  · next hs => split <;> simp [hs]
  · next hs => split <;> simp [hs]
  all_goals next hs => simp [hs]

theorem handRestartTrigger_rsq (s : State) :
    (handRestartTrigger s).rsq =
      { s.rsq with
        restartPending :=
          s.rsq.restartPending || (decide (s.rsq.engine = .rundown) && decide (s.rsq.stopCause = .autoStop)) } := by
  unfold handRestartTrigger noteRestart
  split
  · next h => simp_all
  · next h =>
    have hf : (decide (s.rsq.engine = .rundown) && decide (s.rsq.stopCause = .autoStop)) = false := by
      simpa using h
    rw [hf, Bool.or_false]
    rfl

theorem changeEngine_rsq (new : Engine) (s : State) :
    (changeEngine new s).rsq =
      { enterState new s.rsq with
        restartPending :=
          s.rsq.restartPending || (handsRestart new s && decide (s.rsq.stopCause = .autoStop)) } := by
  simp only [changeEngine, iruEngineChange_rsq, handRestartTrigger_rsq, ntuEngineChange_rsq, autEngineChange_rsq,
    pruEngineChange_rsq, spdEngineChange_rsq, State.mapRsq_rsq, ntuEngineChange_iru, autEngineChange_iru,
    pruEngineChange_iru, spdEngineChange_iru, State.mapRsq_iru]
  split
  · next h =>
    obtain ⟨hs, hn, he, hd⟩ := h
    simp [handsRestart, enterState, hs, hn, he, hd]
  · next h =>
    have hf : handsRestart new s = false := by
      rw [← Bool.not_eq_true]
      simpa [handsRestart, and_assoc] using h
    simp [hf, enterState]

/-- Where IRU hands RSQ no trigger, the change of engine state is all that RSQ sees of it. -/
theorem changeEngine_rsq_of_calm {new : Engine} {s : State} (h : handsRestart new s = false) :
    (changeEngine new s).rsq = enterState new s.rsq := by
  rw [changeEngine_rsq, h]
  simp [enterState]

theorem handsRestart_of_engine (new : Engine) {s : State} (h : s.rsq.engine ≠ .unloading) :
    handsRestart new s = false := by
  simp [handsRestart, h]

theorem handsRestart_of_new {new : Engine} (s : State) (h : new ≠ .rundown) : handsRestart new s = false := by
  simp [handsRestart, h]

theorem handsRestart_of_iru (new : Engine) {s : State} (h : s.iru.state ≠ .stopping) : handsRestart new s = false := by
  simp [handsRestart, h]

/-- A change of engine state from any state but UNLOADING. -/
theorem changeEngine_rsq_of_engine (new : Engine) {s : State} (h : s.rsq.engine ≠ .unloading) :
    (changeEngine new s).rsq = enterState new s.rsq :=
  changeEngine_rsq_of_calm (handsRestart_of_engine new h)

/-- A change of engine state to any state but RUNDOWN. -/
theorem changeEngine_rsq_of_new {new : Engine} (s : State) (h : new ≠ .rundown) :
    (changeEngine new s).rsq = enterState new s.rsq :=
  changeEngine_rsq_of_calm (handsRestart_of_new s h)

/-- A change of engine state while the stop is not an auto stop. -/
theorem changeEngine_rsq_of_cause (new : Engine) {s : State} (h : s.rsq.stopCause ≠ .autoStop) :
    (changeEngine new s).rsq = enterState new s.rsq := by
  rw [changeEngine_rsq]
  simp [enterState, h]

/-- Lube arming is neither running nor over. -/
def Rsq.Unarmed (r : Rsq) : Prop := r.lubeArmed = false ∧ r.timers.lubeArming = none

/-- While FUEL ENABLE is off, lube arming is neither running nor over (R13). -/
theorem Sound.unarmed {s : State} (h : Sound s) (hf : fuelEnableIn s.rsq.engine s.rsq.crankFuelLatch = false) :
    s.rsq.Unarmed := by
  obtain ⟨⟨-, -, -, ho⟩, ht, -, -⟩ := h
  obtain ⟨-, -, -, -, -, -, -, -, -, -, -, ha⟩ := ht
  rw [ho, hf] at ha
  constructor
  · by_contra w
    rw [Bool.not_eq_false] at w
    exact absurd (ha (.inr w)) (by decide)
  · by_contra w
    rw [← Option.isNone_iff_eq_none, Bool.not_eq_true, Option.isNone_eq_false_iff] at w
    exact absurd (ha (.inl w)) (by decide)

/-! ### The other blocks at a change of engine state -/

theorem changeEngine_spd (new : Engine) (s : State) :
    (changeEngine new s).spd = if new.atRest = true then { s.spd with senseLost := false } else s.spd := by
  simp only [changeEngine, iruEngineChange_spd, ntuEngineChange_spd, autEngineChange_spd, pruEngineChange_spd,
    spdEngineChange]
  split <;> rfl

/-- AUT at a change of engine state: a handover to SERVICE ends REFUSED when the engine leaves rest (R132). -/
theorem changeEngine_aut (new : Engine) (s : State) :
    (changeEngine new s).aut =
      if s.aut.claimedBy .service = true ∧ new.atRest = false then s.aut.ended .service .refused else s.aut := by
  simp only [changeEngine, iruEngineChange_aut, ntuEngineChange_aut]
  unfold autEngineChange endHandover Aut.claimedBy Aut.ended
  cases h : s.aut.handover with
  | none => simp [h]
  | some x =>
    by_cases hx : x.claimant = .service <;> by_cases hr : new.atRest = false <;> simp [h, hx, hr]

theorem changeEngine_aut_of_unclaimed (new : Engine) {s : State} (h : s.aut.claimedBy .service = false) :
    (changeEngine new s).aut = s.aut := by
  rw [changeEngine_aut]
  simp [h]

theorem changeEngine_aut_of_rest {new : Engine} (s : State) (h : new.atRest = true) :
    (changeEngine new s).aut = s.aut := by
  rw [changeEngine_aut]
  simp [h]

/-- Away from rest no handover to SERVICE is in flight (R119, R132). -/
theorem Sound.unclaimed {s : State} (h : Sound s) (hr : s.rsq.engine.atRest = false) :
    s.aut.claimedBy .service = false := by
  obtain ⟨-, -, -, hc⟩ := h
  unfold Aut.claimedBy
  cases hh : s.aut.handover with
  | none => rfl
  | some x =>
    simp only [Option.map_some, Option.some.injEq, decide_eq_false_iff_not]
    intro hx
    exact absurd (hc x hh hx) (by simp [hr])

theorem ringBell_of_law {s : State} (h : BellLaw s) : ringBell s.pru = s.pru := by
  rw [ringBell, ← show s.pru.bell = s.pru.bellWanted from h]

@[simp] theorem ringBell_bell (p : Pru) : (ringBell p).bell = p.bellWanted := rfl
@[simp] theorem ringBell_coolantPct (p : Pru) : (ringBell p).coolantPct = p.coolantPct := rfl
@[simp] theorem ringBell_intakePct (p : Pru) : (ringBell p).intakePct = p.intakePct := rfl
@[simp] theorem ringBell_shutdownInService (p : Pru) : (ringBell p).shutdownInService = p.shutdownInService := rfl
@[simp] theorem ringBell_idleDown (p : Pru) : (ringBell p).idleDown = p.idleDown := rfl

/-- PRU at a change of engine state (R80, R81): LOW LUBE PRESSURE is withdrawn where lube armed clears, LOW FUEL PRESSURE
and COLD ENGINE are withdrawn on the way out of RUNNING and UNLOADING and judged on the way in. -/
def Pru.engineChanged (old new : Engine) (disarmed : Bool) (t : Table) (fuel coolant : Int) (p : Pru) : Pru :=
  let q := if disarmed then withdrawCondition 4 p else p
  if old.runningFamily && !new.runningFamily then withdrawCondition 9 (withdrawCondition 8 q)
  else if new = .running && !old.runningFamily then
    judge 9 (coolant < t.coldSet) (t.coldClear ≤ coolant) none
      (judge 8 (fuel < t.lowFuelSet) (t.lowFuelClear ≤ fuel) (some (tenthsMs t.lowFuelFilter)) q)
  else q

theorem changeEngine_pru (new : Engine) (s : State) :
    (changeEngine new s).pru =
      ringBell (s.pru.engineChanged s.rsq.engine new
        (s.rsq.lubeArmed && !fuelEnableIn new s.rsq.crankFuelLatch) s.cfg.active s.ins.fuel.given
        s.ins.coolant.given) := by
  simp only [changeEngine, iruEngineChange_pru, ntuEngineChange_pru, autEngineChange_pru, pruEngineChange,
    State.mapPru_pru, spdEngineChange_pru, State.mapRsq_pru, spdEngineChange_rsq, State.mapRsq_rsq, enterState,
    spdEngineChange_cfg, State.mapRsq_cfg, spdEngineChange_ins, State.mapRsq_ins, Pru.engineChanged]
  cases s.rsq.lubeArmed <;> cases fuelEnableIn new s.rsq.crankFuelLatch <;> rfl

theorem bellLaw_changeEngine (new : Engine) (s : State) : BellLaw (changeEngine new s) := by
  simp only [BellLaw, changeEngine_pru]
  rfl

/-- A change of engine state that clears no arming and crosses neither edge of RUNNING and UNLOADING says nothing to PRU. -/
theorem changeEngine_pru_of_quiet {new : Engine} {s : State} (hb : BellLaw s)
    (ha : s.rsq.lubeArmed = false ∨ fuelEnableIn new s.rsq.crankFuelLatch = true)
    (ho : s.rsq.engine.runningFamily = true → new.runningFamily = true)
    (hn : new = .running → s.rsq.engine.runningFamily = true) : (changeEngine new s).pru = s.pru := by
  have hd : (s.rsq.lubeArmed && !fuelEnableIn new s.rsq.crankFuelLatch) = false := by
    rcases ha with ha | ha <;> simp [ha]
  rw [changeEngine_pru, hd]
  have hq : s.pru.engineChanged s.rsq.engine new false s.cfg.active s.ins.fuel.given s.ins.coolant.given = s.pru := by
    simp only [Pru.engineChanged]
    rw [if_neg (by simp : ¬false = true), if_neg (by simpa using ho), if_neg (by simpa using hn)]
  rw [hq, ringBell_of_law hb]

/-- Where the change crosses neither edge of RUNNING and UNLOADING, it touches no entry but 4. -/
theorem changeEngine_entry_of_ne {new : Engine} {s : State} (ho : s.rsq.engine.runningFamily = false)
    (hn : new ≠ .running) {e : Entry} (h : e ≠ 4) : (changeEngine new s).pru.entry e = s.pru.entry e := by
  rw [changeEngine_pru, ringBell_entry]
  simp only [Pru.engineChanged, ho, hn, Bool.false_and, Bool.false_eq_true, if_false, decide_false]
  split <;> simp [withdrawCondition_other, h]

@[simp] theorem setCondition_coolantPct (e : Entry) (v : Bool) (p : Pru) :
    (setCondition e v p).coolantPct = p.coolantPct := rfl
@[simp] theorem setCondition_intakePct (e : Entry) (v : Bool) (p : Pru) :
    (setCondition e v p).intakePct = p.intakePct := rfl
@[simp] theorem withdrawCondition_coolantPct (e : Entry) (p : Pru) :
    (withdrawCondition e p).coolantPct = p.coolantPct := rfl
@[simp] theorem withdrawCondition_intakePct (e : Entry) (p : Pru) :
    (withdrawCondition e p).intakePct = p.intakePct := rfl
@[simp] theorem judge_coolantPct (e : Entry) (a b : Bool) (t : Option Nat) (p : Pru) :
    (judge e a b t p).coolantPct = p.coolantPct := by
  unfold judge
  dsimp only
  (repeat' split) <;> simp
@[simp] theorem judge_intakePct (e : Entry) (a b : Bool) (t : Option Nat) (p : Pru) :
    (judge e a b t p).intakePct = p.intakePct := by
  unfold judge
  dsimp only
  (repeat' split) <;> simp

@[simp] theorem changeEngine_coolantPct (new : Engine) (s : State) :
    (changeEngine new s).pru.coolantPct = s.pru.coolantPct := by
  rw [changeEngine_pru, ringBell_coolantPct, Pru.engineChanged]
  (repeat' split) <;> simp

@[simp] theorem changeEngine_intakePct (new : Engine) (s : State) :
    (changeEngine new s).pru.intakePct = s.pru.intakePct := by
  rw [changeEngine_pru, ringBell_intakePct, Pru.engineChanged]
  (repeat' split) <;> simp

/-- IRU at a change of engine state (R161 to R164), `stopMs` being AUTO STOP MAX. -/
def Iru.engineChanged (stopMs : Nat) (old new : Engine) (i : Iru) : Iru :=
  match i.state with
  | .stopping =>
    if new = .rundown then
      (if old = .unloading ∧ i.demandSeen = true then { i with state := .restartPending, lowIdleRequest := false } else i)
    else if new = .unloading then i
    else if new = .autoStopped then { iruOff i with state := .watch, restartSent := false, autoStop := some stopMs }
    else iruOff i
  | .restartPending => if new = .rundown ∨ new = .autoStopped then i else iruOff i
  | .watch => if new = .autoStopped then i else iruOff i
  | .off | .idleDwell | .lowIdleDwell => i

theorem handRestartTrigger_iru (s : State) :
    (handRestartTrigger s).iru = { s.iru with state := .restartPending, lowIdleRequest := false } := by
  unfold handRestartTrigger noteRestart
  split <;> rfl

theorem iruEngineChange_iru (old new : Engine) (s : State) :
    (iruEngineChange old new s).iru = s.iru.engineChanged (minutesMs s.cfg.active.autoStopMax) old new := by
  unfold iruEngineChange Iru.engineChanged
  split
  · next hs =>
    split
    · split <;> simp_all [handRestartTrigger_iru]
    all_goals simp_all
  · next hs => split <;> simp_all
  · next hs => split <;> simp_all
  all_goals next hs => simp [hs]

theorem changeEngine_iru (new : Engine) (s : State) :
    (changeEngine new s).iru = s.iru.engineChanged (minutesMs s.cfg.active.autoStopMax) s.rsq.engine new := by
  simp only [changeEngine, iruEngineChange_iru, ntuEngineChange_iru, autEngineChange_iru, pruEngineChange_iru,
    spdEngineChange_iru, State.mapRsq_iru, ntuEngineChange_cfg, autEngineChange_cfg, pruEngineChange_cfg,
    spdEngineChange_cfg, State.mapRsq_cfg]

/-- IRU outside STOPPING, WATCH and RESTART PENDING takes no notice of the engine. -/
theorem changeEngine_iru_of_calm (new : Engine) {s : State}
    (h : s.iru.state = .off ∨ s.iru.state = .idleDwell ∨ s.iru.state = .lowIdleDwell) :
    (changeEngine new s).iru = s.iru := by
  rw [changeEngine_iru]
  rcases h with h | h | h <;> simp [Iru.engineChanged, h]

@[simp] theorem changeEngine_fuelOff (new : Engine) (s : State) :
    (changeEngine new s).iru.fuelOff = s.iru.fuelOff := by
  rw [changeEngine_iru]
  unfold Iru.engineChanged
  (repeat' split) <;> rfl

@[simp] theorem changeEngine_restartRefused (new : Engine) (s : State) :
    (changeEngine new s).iru.restartRefused = s.iru.restartRefused := by
  rw [changeEngine_iru]
  unfold Iru.engineChanged
  (repeat' split) <;> rfl

/-- NTU at a change of engine state, but for the governor (R147). -/
def Ntu.engineChanged (old new : Engine) (upMs : Nat) (n : Ntu) : Ntu :=
  if old.runningFamily && !new.runningFamily then
    { dropLoad n with applied := 0, lowIdle := false, dwell := none, unloadReported := false }
  else if old = .unloading && new = .running then { n with unloadReported := false }
  else if old = .accelerating && new = .running then { n with dwell := some ⟨.up, upMs⟩ }
  else n

theorem refreshGovernor_ntu (s : State) :
    (refreshGovernor s).ntu =
      { s.ntu with
        setpoint := (refreshGovernor s).ntu.setpoint, governorRef := (refreshGovernor s).ntu.governorRef } := by
  unfold refreshGovernor
  dsimp only
  split <;> rfl

theorem changeEngine_ntu (new : Engine) (s : State) :
    (changeEngine new s).ntu =
      { s.ntu.engineChanged s.rsq.engine new (s.cfg.active.upDwell 0) with
        setpoint := (changeEngine new s).ntu.setpoint, governorRef := (changeEngine new s).ntu.governorRef } := by
  simp only [changeEngine, iruEngineChange_ntu, ntuEngineChange, Ntu.engineChanged]
  rw [refreshGovernor_ntu]
  (repeat' split) <;> simp_all

/-! ### What RSQ's operations leave alone -/

/-- What RSQ's own operations, and the answers of the other blocks to them, leave alone: SPD but for the sense-lost latch,
INS, the percentages and every entry but 4, 8 and 9, AUT unless a handover to SERVICE is in flight, the link interfaces,
CFG and the queue. -/
structure MovesEngine (s t : State) : Prop where
  spd : t.spd = { s.spd with senseLost := t.spd.senseLost }
  ins : t.ins = s.ins
  entry : ∀ e : Entry, e ≠ 4 → e ≠ 8 → e ≠ 9 → t.pru.entry e = s.pru.entry e
  coolantPct : t.pru.coolantPct = s.pru.coolantPct
  intakePct : t.pru.intakePct = s.pru.intakePct
  shutdown : t.pru.shutdownInService = s.pru.shutdownInService
  holder : t.aut.holder = s.aut.holder
  trainline : t.aut.trainline = s.aut.trainline
  aut : s.aut.claimedBy .service = false → t.aut = s.aut
  links : t.links = s.links
  cfg : t.cfg = s.cfg
  pending : t.pending = s.pending

theorem MovesEngine.refl (s : State) : MovesEngine s s :=
  ⟨rfl, rfl, fun _ _ _ _ => rfl, rfl, rfl, rfl, rfl, rfl, fun _ => rfl, rfl, rfl, rfl⟩

theorem MovesEngine.trans {s t u : State} (h : MovesEngine s t) (k : MovesEngine t u) : MovesEngine s u where
  spd := by rw [k.spd, h.spd]
  ins := k.ins.trans h.ins
  entry e h4 h8 h9 := (k.entry e h4 h8 h9).trans (h.entry e h4 h8 h9)
  coolantPct := k.coolantPct.trans h.coolantPct
  intakePct := k.intakePct.trans h.intakePct
  shutdown := k.shutdown.trans h.shutdown
  holder := k.holder.trans h.holder
  trainline := k.trainline.trans h.trainline
  aut hc := (k.aut (by rw [h.aut hc]; exact hc)).trans (h.aut hc)
  links := k.links.trans h.links
  cfg := k.cfg.trans h.cfg
  pending := k.pending.trans h.pending

/-- What moves only RSQ, NTU and IRU. -/
theorem MovesEngine.of_eq {s t : State} (hs : t.spd = s.spd) (hi : t.ins = s.ins) (hp : t.pru = s.pru)
    (ha : t.aut = s.aut) (hl : t.links = s.links) (hc : t.cfg = s.cfg) (hq : t.pending = s.pending) :
    MovesEngine s t :=
  ⟨by rw [hs], hi, fun _ _ _ _ => by rw [hp], by rw [hp], by rw [hp], by rw [hp], by rw [ha], by rw [ha], fun _ => ha,
    hl, hc, hq⟩

theorem movesEngine_mapRsq (f : Rsq → Rsq) (s : State) : MovesEngine s (s.mapRsq f) :=
  .of_eq rfl rfl rfl rfl rfl rfl rfl

theorem movesEngine_mapTimers (f : SeqTimers → SeqTimers) (s : State) : MovesEngine s (s.mapTimers f) :=
  .of_eq rfl rfl rfl rfl rfl rfl rfl

theorem movesEngine_mapIru (f : Iru → Iru) (s : State) : MovesEngine s (s.mapIru f) :=
  .of_eq rfl rfl rfl rfl rfl rfl rfl

theorem movesEngine_mapNtu (f : Ntu → Ntu) (s : State) : MovesEngine s (s.mapNtu f) :=
  .of_eq rfl rfl rfl rfl rfl rfl rfl

theorem movesEngine_changeEngine (new : Engine) (s : State) : MovesEngine s (changeEngine new s) where
  spd := by
    rw [changeEngine_spd]
    split <;> rfl
  ins := by simp
  entry _ h4 h8 h9 := changeEngine_entry new s h4 h8 h9
  coolantPct := by simp
  intakePct := by simp
  shutdown := changeEngine_shutdownInService new s
  holder := by simp
  trainline := by simp
  aut h := changeEngine_aut_of_unclaimed new h
  links := by simp
  cfg := by simp
  pending := by simp

theorem movesEngine_setStopCause (c : StopCause) (s : State) : MovesEngine s (setStopCause c s) :=
  .of_eq (by simp) (by simp) (by simp) (by simp) (by simp) (by simp) (by simp)

theorem movesEngine_enterPrelube (s : State) : MovesEngine s (enterPrelube s) :=
  (movesEngine_changeEngine _ s).trans (movesEngine_mapTimers _ _)

theorem movesEngine_acceptStart (k : StartKind) (s : State) : MovesEngine s (acceptStart k s) :=
  ((movesEngine_mapRsq _ s).trans (movesEngine_mapIru _ _)).trans (movesEngine_enterPrelube _)

theorem movesEngine_noteRestart (s : State) : MovesEngine s (noteRestart s) := by
  unfold noteRestart
  split
  · exact movesEngine_mapRsq _ s
  · exact .refl s

theorem movesEngine_autoRestart (s : State) : MovesEngine s (autoRestart s) := by
  unfold autoRestart
  split
  · split
    · exact movesEngine_acceptStart _ s
    · exact ((movesEngine_mapRsq _ s).trans (movesEngine_changeEngine _ _)).trans (movesEngine_mapIru _ _)
  · exact movesEngine_noteRestart s
  · exact .refl s

theorem movesEngine_comeToRest (s : State) : MovesEngine s (comeToRest s) := by
  have h := (movesEngine_changeEngine (restState s) s).trans
    (movesEngine_mapRsq (fun r => { r with restartPending := false }) _)
  unfold comeToRest
  dsimp only
  split
  · exact h.trans (movesEngine_autoRestart _)
  · exact h

theorem movesEngine_enterRundown (s : State) : MovesEngine s (enterRundown s) :=
  (movesEngine_changeEngine _ s).trans (movesEngine_mapTimers _ _)

theorem movesEngine_toRest (s : State) : MovesEngine s (toRest s) := by
  unfold toRest
  split
  · exact movesEngine_enterRundown s
  · exact movesEngine_comeToRest s

theorem movesEngine_cutAttempt (o : CrankOutcome) (s : State) : MovesEngine s (cutAttempt o s) :=
  .of_eq (by simp) (by simp) (by simp) (by simp) (by simp) (by simp) (by simp)

theorem movesEngine_noteProtection (s : State) : MovesEngine s (noteProtection s) :=
  .of_eq (by simp) (by simp) (by simp) (by simp) (by simp) (by simp) (by simp)

theorem movesEngine_stopByProtection (s : State) : MovesEngine s (stopByProtection s) :=
  .of_eq (by simp) (by simp) (by simp) (by simp) (by simp) (by simp) (by simp)

theorem movesEngine_takeShutdown (s : State) : MovesEngine s (takeShutdown s) := by
  unfold takeShutdown
  split
  · exact .refl s
  · split
    · exact movesEngine_changeEngine _ s
    · exact movesEngine_changeEngine _ s
    · exact .refl s
    · exact (movesEngine_stopByProtection s).trans (movesEngine_mapRsq _ _)
    · exact (((movesEngine_cutAttempt _ s).trans (movesEngine_noteProtection _)).trans
        (movesEngine_stopByProtection _)).trans (movesEngine_toRest _)

theorem movesEngine_takeLastLeft (s : State) : MovesEngine s (takeLastLeft s) := by
  unfold takeLastLeft
  split
  · exact .refl s
  · split
    · exact (movesEngine_changeEngine _ s).trans (movesEngine_mapRsq _ _)
    · exact .refl s

theorem movesEngine_idleDownJump (s : State) : MovesEngine s (idleDownJump s) :=
  .of_eq (by simp) (by simp) (by simp) (by simp) (by simp) (by simp) (by simp)

theorem movesEngine_handOff (before : Pru) (s : State) : MovesEngine s (handOff before s) :=
  handOff_cases before s (MovesEngine s) (fun u h => h.trans (movesEngine_idleDownJump u))
    (fun _ => movesEngine_takeShutdown s) (fun _ _ => movesEngine_takeLastLeft s) fun _ => .refl s

theorem movesEngine_abandonStart (why : Reason) (s : State) : MovesEngine s (abandonStart why s) :=
  (movesEngine_mapRsq _ s).trans (movesEngine_toRest _)

theorem movesEngine_beginCranking (s : State) : MovesEngine s (beginCranking s) := by
  unfold beginCranking
  exact ((movesEngine_mapRsq _ s).trans (movesEngine_changeEngine _ _)).trans (movesEngine_mapRsq _ _)

theorem movesEngine_enterCranking (s : State) : MovesEngine s (enterCranking s) := by
  unfold enterCranking
  split
  · exact movesEngine_abandonStart _ s
  · exact movesEngine_beginCranking s

theorem movesEngine_enterPriming (s : State) : MovesEngine s (enterPriming s) := by
  have h := (movesEngine_changeEngine .priming s).trans
    (movesEngine_mapTimers (fun x => { x with prime := some (tenthsMs s.cfg.active.primeLimit) }) _)
  unfold enterPriming
  dsimp only
  split
  · exact h.trans (movesEngine_enterCranking _)
  · exact h

theorem movesEngine_failAttempt (s : State) : MovesEngine s (failAttempt s) :=
  (movesEngine_changeEngine _ s).trans (movesEngine_mapRsq _ _)

theorem movesEngine_beginUnloading (c : StopCause) (s : State) : MovesEngine s (beginUnloading c s) :=
  ((movesEngine_setStopCause c s).trans (movesEngine_changeEngine _ _)).trans (movesEngine_mapTimers _ _)

theorem movesEngine_cancelStop (s : State) : MovesEngine s (cancelStop s) :=
  (movesEngine_changeEngine _ s).trans (movesEngine_mapRsq _ _)

theorem movesEngine_holderStop (s : State) : MovesEngine s (holderStop s) := by
  unfold holderStop
  cases h : s.rsq.engine <;> dsimp only
  case prelube | priming | cranking | crankRest | accelerating =>
    exact (((movesEngine_cutAttempt _ s).trans (movesEngine_setStopCause _ _)).trans (movesEngine_mapRsq _ _)).trans
      (movesEngine_toRest _)
  case running => exact movesEngine_beginUnloading _ s
  case unloading => exact movesEngine_setStopCause _ s
  case rundown =>
    split
    · exact (movesEngine_mapRsq _ s).trans (movesEngine_setStopCause _ _)
    · exact movesEngine_mapRsq _ s
  case autoStopped => exact (movesEngine_changeEngine _ s).trans (movesEngine_mapRsq _ _)
  case stopped | lockedOut => exact .refl s

theorem movesEngine_autoStopCancel (s : State) : MovesEngine s (autoStopCancel s) := by
  unfold autoStopCancel
  split
  · exact movesEngine_cancelStop s
  · exact .refl s

theorem movesEngine_handRestartTrigger (s : State) : MovesEngine s (handRestartTrigger s) :=
  (movesEngine_mapIru _ s).trans (movesEngine_noteRestart _)

theorem movesEngine_watchTrigger (s : State) : MovesEngine s (watchTrigger s) := by
  unfold watchTrigger
  split
  · exact (movesEngine_mapIru _ s).trans (movesEngine_autoRestart _)
  · exact .refl s

theorem movesEngine_demandArrival (notch : Nat) (run : RunRequest) (s : State) :
    MovesEngine s (demandArrival notch run s) := by
  unfold demandArrival
  split
  · split
    · split
      · exact (movesEngine_mapIru _ s).trans (movesEngine_autoStopCancel _)
      · split
        · exact movesEngine_handRestartTrigger s
        · exact .refl s
    · exact .refl s
  · split
    · exact movesEngine_watchTrigger s
    · exact .refl s
  all_goals exact .refl s

theorem movesEngine_fuelOff (s : State) : MovesEngine s (fuelOff s) := by
  unfold fuelOff
  dsimp only
  split
  · exact ((movesEngine_mapRsq _ s).trans (movesEngine_mapIru _ _)).trans (movesEngine_enterRundown _)
  · exact movesEngine_enterRundown s

theorem movesEngine_reportUnload (s : State) : MovesEngine s (reportUnload s) := by
  unfold reportUnload
  split
  · exact (movesEngine_mapNtu _ s).trans (movesEngine_fuelOff _)
  · exact .refl s

theorem movesEngine_settle (s0 : State) (test : Bool) (s : State) : MovesEngine s (settle s0 test s) := by
  obtain ⟨x, hx, h⟩ := settle_form s0 test s
  rw [hx]
  have hr : MovesEngine s (refreshGovernor (settleInputs x)) := by
    rcases h with rfl | rfl <;>
      exact .of_eq (by simp) (by simp) (by simp) (by simp) (by simp) (by simp) (by simp)
  exact hr.trans (movesEngine_reportUnload _)

end Sys2Proof.Machine
end

section
/-! SUPPORT. The state after reset: the values of the chapters, and the laws they meet (R28, R55, R178, R184). -/

namespace Sys2Proof.Machine

/-! ### The defaults -/

/-- A list of fields whose defaults lie in their ranges. -/
theorem dflt_inRange : ∀ g < 5, ∀ spec ∈ groupFields g, spec.lo ≤ spec.dflt ∧ spec.dflt ≤ spec.hi := by decide

/-- The default table holds the default of every field. -/
theorem defaultTable_field {g f : Nat} {spec : FieldSpec} (h : fieldSpec g f = some spec) :
    defaultTable.field g f = spec.dflt := by
  have key : ∀ (l : List FieldSpec) (n : Nat) (hn : (⟨l.map (·.dflt)⟩ : Array Int).size = n), l[f]? = some spec →
      (⟨⟨l.map (·.dflt)⟩, hn⟩ : Vector Int n)[f]?.getD 0 = spec.dflt := by
    intro l n hn hl
    simp [hl]
  match g, h with
  | 0, h => exact key notchFields _ _ h
  | 1, h => exact key startFields _ _ h
  | 2, h => exact key protFields _ _ h
  | 3, h => exact key speedFields _ _ h
  | 4, h => exact key linkFields _ _ h

theorem defaultTable_inRange : defaultTable.InRange := by
  intro g f spec h
  rw [defaultTable_field h]
  have hm : spec ∈ groupFields g := List.mem_of_getElem? h
  have hg : g < 5 := by
    by_contra w
    have : groupFields g = [] := by
      unfold groupFields
      split <;> first | rfl | omega
    simp [this] at hm
  exact dflt_inRange g hg spec hm

theorem defaultTable_loadsRise : defaultTable.LoadsRise := by
  refine ⟨?_, ?_⟩ <;> decide

/-! ### The whole part after reset -/

/-- A reset gives every block its reset values, from any state. -/
theorem atReset_resetPart (s : State) : AtReset (resetPart s) := by
  refine ⟨⟨rfl, rfl, rfl, rfl, rfl, rfl, rfl, rfl, rfl, rfl, rfl, rfl, rfl, rfl, rfl, rfl, rfl, rfl, rfl, rfl⟩,
    ⟨rfl, rfl, rfl, rfl, rfl, rfl, rfl, rfl, rfl, rfl, rfl⟩, ⟨rfl, ?_⟩, ?_, ?_, ⟨rfl, rfl, rfl⟩, ?_,
    ⟨rfl, rfl, rfl, rfl, rfl, rfl, rfl, rfl, rfl, ?_⟩, ⟨rfl, rfl, rfl⟩, rfl, rfl, ?_, rfl, rfl⟩
  · intro c
    cases c <;> rfl
  · intro d
    cases d <;> exact ⟨rfl, rfl⟩
  · intro e
    simp [resetPart, resetPru, Pru.entry, resetEntry]
  · intro l
    cases l <;> rfl
  · intro w
    cases w <;> rfl
  · intro l
    cases l <;> rfl

/-- The state after reset is a new part's state reset. -/
theorem resetPart_reset : resetPart State.reset = State.reset := rfl

theorem atReset_reset : AtReset State.reset := resetPart_reset ▸ atReset_resetPart State.reset

/-- The two input lines of a reset part that are ACTIVE have their debounce timers running (R73). -/
theorem resetPart_discrete (s : State) (d : Discrete) :
    (resetPart s).ins.discrete d = resetDiscrete d (s.ins.discrete d).level := by
  cases d <;> rfl

theorem resetPart_wire (s : State) (w : Wire) :
    (resetPart s).aut.trainline.wires.wire w = resetWire (s.aut.trainline.wires.wire w).level := by
  cases w <;> rfl

/-- Settles O4: both commands are the reset of the whole part. -/
theorem powerOnAndResetLineResetThePart : Obligations.PowerOnAndResetLineResetThePart := by
  intro c s hc
  have hx : exec c s = .next (resetPart s) := by rcases hc with rfl | rfl <;> rfl
  refine ⟨resetPart s, hx, atReset_resetPart s, rfl, ⟨rfl, rfl, rfl, rfl, rfl, rfl, ?_⟩, fun d => ?_, fun w => ?_,
    fun l => ?_⟩
  · exact if_congr Iff.rfl rfl rfl
  · rw [resetPart_discrete]
    cases d <;> exact ⟨rfl, rfl⟩
  · rw [resetPart_wire]
    exact ⟨rfl, rfl⟩
  · cases l <;> rfl

/-! ### The laws after reset -/

theorem reset_entry (e : Entry) : State.reset.pru.entry e = resetEntry := by
  simp [State.reset, resetPru, Pru.entry]

theorem reset_source (l : Link) : State.reset.aut.source l = resetSource := by
  cases l <;> rfl

theorem reset_link (l : Link) : State.reset.links.link l = resetLink (defaultTable.baudOf l) := by
  cases l <;> rfl

theorem protectionLaw_reset : ProtectionLaw State.reset := by
  refine ⟨fun e => ?_, fun e _ => ?_, fun e _ => ?_⟩ <;>
    simp [reset_entry, resetEntry, EntryRec.Lawful, EntryRec.EventLawful]

theorem historyLaw_reset : HistoryLaw State.reset := by
  simp [HistoryLaw, State.reset, resetRsq, usedStarterTime]

theorem tableLaw_reset : TableLaw State.reset :=
  ⟨defaultTable_inRange, defaultTable_inRange, defaultTable_inRange, defaultTable_loadsRise, defaultTable_loadsRise⟩

theorem loadReferenceLaw_reset : LoadReferenceLaw State.reset := by
  refine ⟨?_, ?_, tableLaw_reset, by decide, by decide, by decide, by decide⟩
  · exact ⟨by decide, fun _ => ⟨rfl, rfl, rfl, rfl⟩⟩
  · exact ⟨rfl, fun _ => ⟨rfl, rfl, rfl⟩⟩

theorem authorityLaw_reset : AuthorityLaw State.reset := by
  refine ⟨fun l h => ?_, fun h hh => ?_, by decide, by decide⟩
  · cases l <;> cases h
  · cases hh

theorem sourceLaw_reset : SourceLaw State.reset := by
  intro l
  simp [reset_source, resetSource, FramedSource.Lawful, FramedSource.maxNotch]

theorem serviceLaw_reset : ServiceLaw State.reset := by
  refine ⟨fun h => ?_, fun e h => ?_⟩
  · cases h
  · rw [reset_entry] at h
    cases h

theorem queueLaw_reset : QueueLaw State.reset := by
  intro l
  simp [reset_link, resetLink]

theorem attnLaw_reset : AttnLaw State.reset := by
  intro l
  simp [attnWanted, reset_source, resetSource, reset_link, resetLink]

theorem durationLaw_reset : DurationLaw State.reset := by
  refine ⟨tableLaw_reset, ?_, ?_, ?_⟩ <;> simp [State.reset, resetRsq, stoppedTimers]

/-- Settles O3, law by law. -/
theorem resetStateIsLawful : Obligations.ResetStateIsLawful := by
  refine ⟨atReset_reset, rfl, ⟨rfl, rfl, rfl, rfl⟩, ?_, ?_, historyLaw_reset, protectionLaw_reset, ?_,
    loadReferenceLaw_reset, authorityLaw_reset, rfl, sourceLaw_reset, serviceLaw_reset, queueLaw_reset, attnLaw_reset,
    ?_, ?_, ?_, ?_, durationLaw_reset⟩
  · simp [TimerLaw, State.reset, resetRsq, stoppedTimers]
  · exact ⟨fun _ => rfl, fun h => absurd h (by decide)⟩
  · rfl
  · simp [IdleLaw, State.reset, resetIru, resetNtu]
  · exact fun h => absurd h (by decide)
  · exact fun h => absurd h.1 (by decide)
  · exact fun h hh => absurd hh (by simp [State.reset, resetAut])

end Sys2Proof.Machine
end

section
/-! SUPPORT. Events at the protection table that take no SHUTDOWN and no IDLE-DOWN entry into service or out of it: RSQ
and NTU hear nothing of them (R77, R84, R85). -/

namespace Sys2Proof.Machine

/-! ### What is handed on -/

theorem idleDown_iff (p : Pru) :
    p.idleDown = true ↔
      ∃ e : Entry, (classOf e = .shutdown ∨ classOf e = .idleDown) ∧ (p.entry e).inService = true := by
  simp only [Pru.idleDown, List.any_eq_true, Bool.and_eq_true, Bool.or_eq_true, decide_eq_true_eq]
  exact ⟨fun ⟨e, _, h⟩ => ⟨e, h⟩, fun ⟨e, h⟩ => ⟨e, mem_allEntries e, h⟩⟩

/-- The SHUTDOWN and IDLE-DOWN entries are 0 to 7. -/
theorem classOf_down_iff (e : Entry) : classOf e = .shutdown ∨ classOf e = .idleDown ↔ e.val ≤ 7 := by
  revert e
  decide

/-- Two tables with the same SHUTDOWN and IDLE-DOWN entries in service. -/
def SameDown (p q : Pru) : Prop := ∀ e : Entry, e.val ≤ 7 → (q.entry e).inService = (p.entry e).inService

theorem SameDown.refl (p : Pru) : SameDown p p := fun _ _ => rfl

theorem SameDown.trans {p q r : Pru} (h : SameDown p q) (k : SameDown q r) : SameDown p r :=
  fun e he => (k e he).trans (h e he)

theorem SameDown.idleDown {p q : Pru} (h : SameDown p q) : q.idleDown = p.idleDown := by
  rw [Bool.eq_iff_iff, idleDown_iff, idleDown_iff]
  refine exists_congr fun e => and_congr_right fun hc => ?_
  rw [h e ((classOf_down_iff e).1 hc)]

theorem SameDown.shutdownInService {p q : Pru} (h : SameDown p q) : q.shutdownInService = p.shutdownInService := by
  rw [Bool.eq_iff_iff, shutdownInService_iff, shutdownInService_iff]
  refine exists_congr fun e => and_congr_right fun hc => ?_
  rw [h e ((classOf_down_iff e).1 (.inl hc))]

theorem SameDown.not_entered {p q : Pru} (h : SameDown p q) : shutdownEntered p q = false := by
  rw [← Bool.not_eq_true, shutdownEntered_iff]
  rintro ⟨e, hc, hp, hq⟩
  rw [h e ((classOf_down_iff e).1 (.inl hc)), hp] at hq
  cases hq

/-- Nothing is handed on of an event that leaves these entries as they were. -/
theorem handOff_of_same {before : Pru} {s : State} (h : SameDown before s.pru) : handOff before s = s := by
  simp [handOff, h.not_entered, h.shutdownInService, h.idleDown]

theorem pruEvent_of_same {f : Pru → Pru} {s : State} (h : SameDown s.pru (f s.pru)) :
    pruEvent f s = s.mapPru fun p => ringBell (f p) :=
  handOff_of_same (s := s.mapPru fun p => ringBell (f p)) h

/-! ### One entry's condition -/

@[simp] theorem withCondition_condition (b v : Bool) (r : EntryRec) : (r.withCondition b v).condition = v := by
  unfold EntryRec.withCondition
  split
  · assumption
  · dsimp only
    (repeat' split) <;> rfl

@[simp] theorem setCondition_condition (e : Entry) (v : Bool) (p : Pru) :
    ((setCondition e v p).entry e).condition = v := by
  unfold setCondition
  cases v <;> simp

/-- A condition that turns false takes no latching entry out of service. -/
theorem setCondition_false_inService {e : Entry} (p : Pru) (h : latching e = true) :
    ((setCondition e false p).entry e).inService = (p.entry e).inService := by
  simp only [setCondition, Pru.entry_setEntry_same, EntryRec.withCondition, h]
  cases hs : (p.entry e).state <;> cases hc : (p.entry e).condition <;> simp [EntryRec.inService, hs]

theorem sameDown_setCondition_false (e : Entry) (p : Pru) : SameDown p (setCondition e false p) := by
  intro k hk
  by_cases h : k = e
  · subst h
    exact setCondition_false_inService p (by simpa [latching] using hk)
  · rw [setCondition_other _ _ h]

theorem sameDown_setCondition_of_high {e : Entry} (v : Bool) (p : Pru) (h : 8 ≤ e.val) :
    SameDown p (setCondition e v p) := by
  intro k hk
  rw [setCondition_other]
  rintro rfl
  omega

theorem sameDown_setFilter (e : Entry) (t : Timer) (p : Pru) :
    SameDown p (p.setEntry e { p.entry e with filter := t }) :=
  fun k _ => inService_setEntry (p := p) (r := { p.entry e with filter := t }) rfl k

/-- An arrival judged through a filter takes no entry into service, and no latching one out of it. -/
theorem sameDown_judge_filtered (e : Entry) (a b : Bool) (ms : Nat) (p : Pru) :
    SameDown p (judge e a b (some ms) p) := by
  unfold judge
  dsimp only
  split
  · split
    · exact sameDown_setCondition_false e p
    · exact .refl p
  · split
    · split
      · exact sameDown_setFilter e _ p
      · exact .refl p
    · exact sameDown_setFilter e _ p

theorem sameDown_judge_of_high {e : Entry} (a b : Bool) (f : Option Nat) (p : Pru) (h : 8 ≤ e.val) :
    SameDown p (judge e a b f p) := by
  intro k hk
  rw [judge_other]
  rintro rfl
  omega

/-- A condition of an entry above 7 is reported to the table and the bell alone. -/
theorem pruEvent_setCondition_of_high {e : Entry} (v : Bool) (s : State) (h : 8 ≤ e.val) :
    pruEvent (setCondition e v) s = s.mapPru fun p => ringBell (setCondition e v p) :=
  pruEvent_of_same (sameDown_setCondition_of_high v s.pru h)

/-! ### The trainline with nobody holding authority -/

theorem trainlineChange_eq (f : Trainline → Trainline) (s : State) :
    trainlineChange f s =
      (s.mapAut fun a => { a with trainline := (f a.trainline).refreshEffective }).mapPru fun p =>
        ringBell (setCondition 15 (f s.aut.trainline).refreshEffective.codeFault p) :=
  pruEvent_setCondition_of_high _ _ (by decide)

/-- IRU outside STOPPING and WATCH takes no notice of a holder's demand. -/
theorem demandArrival_of_calm (notch : Nat) (run : RunRequest) {s : State} (hs : s.iru.state ≠ .stopping)
    (hw : s.iru.state ≠ .watch) : demandArrival notch run s = s := by
  unfold demandArrival
  cases h : s.iru.state <;> simp_all

/-- With nobody holding authority and the trainline not yet LIVE, an event at the trainline ends in the auto-take
(R121). -/
theorem trainlineEvent_of_vacant (f : Trainline → Trainline) {s : State} (hh : s.aut.holder = none)
    (hl : s.aut.trainline.state ≠ .live) (hs : s.iru.state ≠ .stopping) (hw : s.iru.state ≠ .watch) :
    trainlineEvent f s = (trainlineChange f s).mapAut autoTake := by
  have hh1 : (trainlineChange f s).aut.holder = none := by rw [trainlineChange_eq]; exact hh
  have hi1 : (trainlineChange f s).iru = s.iru := by rw [trainlineChange_eq]; rfl
  unfold trainlineEvent
  dsimp only
  rw [if_neg (by simp [hh])]
  split
  · unfold afterHolderChange
    extract_lets s1 s2
    have h1 : s1 = trainlineChange f s := if_neg (by simp [hh])
    have h2 : s2.iru = s.iru := by
      unfold s2
      rw [h1]
      exact hi1
    rw [demandArrival_of_calm _ _ (by rwa [h2]) (by rwa [h2]), ite_self]
    unfold s2
    rw [h1]
  · next h =>
    have hn : (trainlineChange f s).aut.trainline.state ≠ .live := fun w => h ⟨hl, w⟩
    have : autoTake (trainlineChange f s).aut = (trainlineChange f s).aut := if_neg fun w => hn w.2
    rw [State.mapAut, this]

end Sys2Proof.Machine
end

section
/-! SUPPORT. The end of the self-check (R28, R101, R121, R184). -/

namespace Sys2Proof.Machine

/-- RUNDOWN entered on a turning engine starts no timer. -/
theorem enterRundown_rsq_of_turning {s : State} (h : 0 < s.spd.measured) (he : s.rsq.engine ≠ .unloading) :
    (enterRundown s).rsq = enterState .rundown s.rsq := by
  have hm : s.spd.measured ≠ 0 := by omega
  simp only [enterRundown, State.mapTimers_rsq, changeEngine_rsq_of_engine _ he, if_neg hm]
  rfl

theorem firstEngineState_rsq {s : State} (he : s.rsq.engine = .stopped) :
    (firstEngineState s).rsq =
      if 0 < s.spd.measured then enterState .rundown s.rsq
      else if s.pru.shutdownInService = true then enterState .lockedOut s.rsq
      else s.rsq := by
  have hu : s.rsq.engine ≠ .unloading := by simp [he]
  unfold firstEngineState
  split
  · next h => exact enterRundown_rsq_of_turning h hu
  · split
    · exact changeEngine_rsq_of_engine _ hu
    · rfl

theorem movesEngine_firstEngineState (s : State) : MovesEngine s (firstEngineState s) := by
  unfold firstEngineState
  split
  · exact movesEngine_enterRundown s
  · split
    · exact movesEngine_changeEngine _ s
    · exact .refl s

theorem firstEngineState_entry {s : State} (he : s.rsq.engine = .stopped) {e : Entry} (h : e ≠ 4) :
    (firstEngineState s).pru.entry e = s.pru.entry e := by
  unfold firstEngineState
  split
  · exact changeEngine_entry_of_ne (by simp [he, Engine.runningFamily]) (by decide) h
  · split
    · exact changeEngine_entry_of_ne (by simp [he, Engine.runningFamily]) (by decide) h
    · rfl

theorem firstEngineState_iru {s : State} (hi : s.iru.state = .off) : (firstEngineState s).iru = s.iru := by
  unfold firstEngineState
  split
  · exact changeEngine_iru_of_calm _ (.inl hi)
  · split
    · exact changeEngine_iru_of_calm _ (.inl hi)
    · rfl

/-- Settles O5: RSQ chooses its state, and then the trainline is judged with nobody holding authority. -/
theorem selfCheckEndChoosesTheFirstState : Obligations.SelfCheckEndChoosesTheFirstState := by
  intro s hc he hh ht hho hi
  let u := firstEngineState (s.mapCfg checkedCfg)
  let judged := Trainline.judged s.cfg.active.trainlineFollow
  have hm : MovesEngine (s.mapCfg checkedCfg) u := movesEngine_firstEngineState _
  have hrsq : u.rsq = _ := firstEngineState_rsq (s := s.mapCfg checkedCfg) he
  have hiru : u.iru = s.iru := firstEngineState_iru (s := s.mapCfg checkedCfg) hi
  have haut : u.aut = s.aut := hm.aut (by simp [Aut.claimedBy, hho])
  have hx : exec .selfCheckEnd s = .next (finish s false (trainlineEvent judged u)) := by
    change Host.Outcome.next (if s.cfg.checking = true then _ else _) = _
    rw [if_pos hc]
  have hv : trainlineEvent judged u = (trainlineChange judged u).mapAut autoTake :=
    trainlineEvent_of_vacant judged (by rw [haut, hh]) (by simp [haut, ht]) (by simp [hiru, hi]) (by simp [hiru, hi])
  rw [trainlineChange_eq] at hv
  have hne : (trainlineEvent judged u).rsq.engine ≠ .unloading := by
    rw [hv]
    simp only [State.mapAut_rsq, State.mapPru_rsq, hrsq]
    split
    · simp [enterState]
    · split <;> simp [enterState, he]
  obtain ⟨fr, fs, fp, fa⟩ := finish_of_ne (s0 := s) (test := false) hne
  refine ⟨_, hx, ⟨?_, ?_⟩, settled_finish _ _ _, ?_, fr.trans ?_, ?_, fun e h4 h15 => ?_, ?_, ?_, ?_⟩
  · simp [hv, hm.pending]
  · simp only [List.forall_mem_cons, List.not_mem_nil, false_imp_iff, implies_true, and_true]
    exact ⟨by simp [AgreesOn, hv, hm.ins], agreesOn_links_finish s false (by simp [hv, hm.links])⟩
  · simp [hv, hm.cfg, checkedCfg]
  · rw [hv]
    exact hrsq
  · rw [fs, hv]
    exact hm.spd
  · rw [fp, hv]
    simp only [State.mapAut_pru, State.mapPru_pru, ringBell_entry]
    rw [setCondition_other _ _ h15]
    exact firstEngineState_entry (s := s.mapCfg checkedCfg) he h4
  · rw [fa, hv]
    simp only [State.mapAut_aut, State.mapPru_aut, haut, autoTake]
    split <;> rfl
  · rw [fa, hv]
    simp only [State.mapAut_aut, State.mapPru_aut, haut, autoTake]
    split <;> rfl
  · rw [fa, hv]
    simp only [State.mapAut_aut, State.mapPru_aut, haut, autoTake, hh, true_and]
    split
    · next h => exact (if_pos h).symm
    · rfl

end Sys2Proof.Machine
end

section
/-! SUPPORT. What RSQ's operations make of the engine run record and of PRU, where a start goes on, fails or comes to rest
(R3, R8 to R18, R25). -/

namespace Sys2Proof.Machine

/-! ### Counts, permissives, the crank history -/

theorem satInc_eq_min (top n : Nat) : satInc top n = min top (n + 1) := by
  unfold satInc
  split <;> omega

/-- What the permissives read. -/
theorem failingPermissive_congr {s t : State} (hf : t.spd.force = s.spd.force) (hi : t.ins = s.ins)
    (ha : t.aut.trainline.forced = s.aut.trainline.forced) (hc : t.cfg = s.cfg)
    (hh : t.rsq.history = s.rsq.history) : failingPermissive t = failingPermissive s := by
  have hforces : forcesActive t = forcesActive s := by simp only [forcesActive, hf, hi, ha]
  simp only [failingPermissive, hforces, hi, hc, hh]

theorem MovesEngine.force {s t : State} (h : MovesEngine s t) : t.spd.force = s.spd.force := by rw [h.spd]

theorem MovesEngine.measured {s t : State} (h : MovesEngine s t) : t.spd.measured = s.spd.measured := by rw [h.spd]

/-- RSQ's operations leave the permissives as they were while they write no crank record. -/
theorem MovesEngine.failingPermissive {s t : State} (h : MovesEngine s t) (hh : t.rsq.history = s.rsq.history) :
    failingPermissive t = failingPermissive s :=
  failingPermissive_congr h.force h.ins (by rw [h.trainline]) h.cfg hh

theorem failingPermissive_none_iff (s : State) : failingPermissive s = none ↔ Permitted s := by
  unfold failingPermissive Permitted
  cases hg : s.ins.turningGear.used <;> cases hf : forcesActive s <;> cases hd : s.cfg.defaulted <;>
    simp only [Bool.false_eq_true, if_false, if_true, true_and, and_true, and_false, false_and, reduceCtorEq,
      iff_false] <;>
    (repeat' split) <;> simp_all

theorem modifyNewest_append (f : CrankRecord → CrankRecord) (older : List CrankRecord) (r : CrankRecord) :
    modifyNewest f (older ++ [r]) = older ++ [f r] := by
  induction older with
  | nil => rfl
  | cons x xs ih =>
    cases xs with
    | nil => rfl
    | cons y ys => simpa [modifyNewest] using ih

theorem elapsedCranking_append (older : List CrankRecord) {r : CrankRecord} (ho : r.isOpen = true)
    (hp : r.outcome = .inProgress) : elapsedCranking (older ++ [r]) = r.duration := by
  simp [elapsedCranking, newest, CrankRecord.cranking, ho, hp]

/-- An attempt written otherwise than FIRED is an attempt ended. -/
theorem writeAttempt_eq {x : Rsq} {older : List CrankRecord} {r : CrankRecord} (h : x.history = older ++ [r])
    {o : CrankOutcome} (ho : o ≠ .fired) (tenths : Nat) : writeAttempt o tenths x = x.attemptEnded older r o tenths := by
  simp [writeAttempt, Rsq.attemptEnded, addCrankTime, h, modifyNewest_append, ho]

theorem closeFired_eq {x : Rsq} {older : List CrankRecord} {r : CrankRecord} (h : x.history = older ++ [r])
    (o : CrankOutcome) :
    closeFired o x = { x with history := older ++ [{ r with outcome := o, isOpen := false }] } := by
  simp [closeFired, h, modifyNewest_append]

/-! ### Where PRU hears nothing -/

/-- A state of the engine in which its changes say nothing to PRU: lube arming is not over, and the engine is outside
RUNNING and UNLOADING; the bell is as it should be. -/
structure Quiet (s : State) : Prop where
  bell : BellLaw s
  armed : s.rsq.lubeArmed = false
  family : s.rsq.engine.runningFamily = false

/-- The way from `s` to `t` leaves PRU alone where its changes say nothing to it, and ends in such a state. -/
def StaysQuiet (s t : State) : Prop := Quiet s → Quiet t ∧ t.pru = s.pru

theorem StaysQuiet.refl (s : State) : StaysQuiet s s := fun h => ⟨h, rfl⟩

theorem StaysQuiet.trans {s t u : State} (h : StaysQuiet s t) (k : StaysQuiet t u) : StaysQuiet s u := by
  intro q
  obtain ⟨qt, ht⟩ := h q
  obtain ⟨qu, hu⟩ := k qt
  exact ⟨qu, hu.trans ht⟩

/-- What moves neither PRU nor the engine state nor lube armed. -/
theorem StaysQuiet.of_eq {s t : State} (hp : t.pru = s.pru) (he : t.rsq.engine = s.rsq.engine)
    (ha : t.rsq.lubeArmed = s.rsq.lubeArmed) : StaysQuiet s t := fun q =>
  ⟨⟨by simpa only [BellLaw, hp] using q.bell, ha.trans q.armed, by rw [he]; exact q.family⟩, hp⟩

theorem Quiet.engine_ne {s : State} (h : Quiet s) : s.rsq.engine ≠ .unloading := by
  intro w
  have := h.family
  simp [w, Engine.runningFamily] at this

theorem staysQuiet_changeEngine {new : Engine} (h : new.runningFamily = false) (s : State) :
    StaysQuiet s (changeEngine new s) := by
  intro q
  have hn : new ≠ .running := by
    rintro rfl
    simp [Engine.runningFamily] at h
  have hp := changeEngine_pru_of_quiet q.bell (.inl q.armed) (new := new) (by simp [q.family]) (fun w => absurd w hn)
  exact ⟨⟨bellLaw_changeEngine new s, by simp [q.armed], by simpa using h⟩, hp⟩

theorem StaysQuiet.from_eq {s t u : State} (h : StaysQuiet t u) (hp : t.pru = s.pru)
    (he : t.rsq.engine = s.rsq.engine) (ha : t.rsq.lubeArmed = s.rsq.lubeArmed) : StaysQuiet s u :=
  .trans (.of_eq hp he ha) h

theorem staysQuiet_enterPrelube (s : State) : StaysQuiet s (enterPrelube s) :=
  (staysQuiet_changeEngine rfl s).trans (.of_eq rfl rfl rfl)

theorem staysQuiet_acceptStart (k : StartKind) (s : State) : StaysQuiet s (acceptStart k s) := by
  unfold acceptStart
  exact (staysQuiet_enterPrelube _).from_eq rfl rfl rfl

theorem staysQuiet_noteRestart (s : State) : StaysQuiet s (noteRestart s) := by
  unfold noteRestart
  split
  · exact .of_eq rfl rfl rfl
  · exact .refl s

theorem staysQuiet_autoRestart (s : State) : StaysQuiet s (autoRestart s) := by
  unfold autoRestart
  split
  · split
    · exact staysQuiet_acceptStart _ s
    · next why _ =>
      have h : StaysQuiet s (noteRefusal why s) := .of_eq rfl rfl rfl
      exact (h.trans (staysQuiet_changeEngine rfl _)).trans (.of_eq rfl rfl rfl)
  · exact staysQuiet_noteRestart s
  · exact .refl s

theorem restState_atRest (s : State) : (restState s).atRest = true := by
  unfold restState
  split
  · rfl
  · split <;> rfl

theorem restState_runningFamily (s : State) : (restState s).runningFamily = false := by
  unfold restState
  split
  · rfl
  · split <;> rfl

theorem staysQuiet_comeToRest (s : State) : StaysQuiet s (comeToRest s) := by
  have h : StaysQuiet s ((changeEngine (restState s) s).mapRsq fun r => { r with restartPending := false }) :=
    (staysQuiet_changeEngine (restState_runningFamily s) s).trans (.of_eq rfl rfl rfl)
  unfold comeToRest
  dsimp only
  split
  · exact h.trans (staysQuiet_autoRestart _)
  · exact h

theorem staysQuiet_enterRundown (s : State) : StaysQuiet s (enterRundown s) :=
  (staysQuiet_changeEngine rfl s).trans (.of_eq rfl rfl rfl)

theorem staysQuiet_toRest (s : State) : StaysQuiet s (toRest s) := by
  unfold toRest
  split
  · exact staysQuiet_enterRundown s
  · exact staysQuiet_comeToRest s

theorem staysQuiet_abandonStart (why : Reason) (s : State) : StaysQuiet s (abandonStart why s) := by
  unfold abandonStart
  exact (staysQuiet_toRest _).from_eq rfl rfl rfl

theorem staysQuiet_beginCranking (s : State) : StaysQuiet s (beginCranking s) := by
  have h : StaysQuiet s (s.mapRsq fun r => { r with crankFuelLatch := false }) := .of_eq rfl rfl rfl
  unfold beginCranking
  exact (h.trans (staysQuiet_changeEngine rfl _)).trans (.of_eq rfl rfl rfl)

theorem staysQuiet_enterCranking (s : State) : StaysQuiet s (enterCranking s) := by
  unfold enterCranking
  split
  · exact staysQuiet_abandonStart _ s
  · exact staysQuiet_beginCranking s

theorem staysQuiet_enterPriming (s : State) : StaysQuiet s (enterPriming s) := by
  have h : StaysQuiet s
      ((changeEngine .priming s).mapTimers fun x => { x with prime := some (tenthsMs s.cfg.active.primeLimit) }) :=
    (staysQuiet_changeEngine rfl s).trans (.of_eq rfl rfl rfl)
  unfold enterPriming
  dsimp only
  split
  · exact h.trans (staysQuiet_enterCranking _)
  · exact h

theorem staysQuiet_failAttempt (s : State) : StaysQuiet s (failAttempt s) :=
  (staysQuiet_changeEngine rfl s).trans (.of_eq rfl rfl rfl)

/-- A sound state without fuel is a quiet one. -/
theorem Sound.quiet {s : State} (h : Sound s) (hf : fuelEnableIn s.rsq.engine s.rsq.crankFuelLatch = false)
    (hr : s.rsq.engine.runningFamily = false) : Quiet s := by
  obtain ⟨ha, -⟩ := h.unarmed hf
  obtain ⟨-, -, hb, -⟩ := h
  exact ⟨hb, ha, hr⟩

/-! ### Coming to rest (R3) -/

/-- The state that "to rest by R3" leads to, where the stop is not an auto stop. -/
def restEngine (s : State) : Engine :=
  if 0 < s.spd.measured then .rundown else if s.pru.shutdownInService = true then .lockedOut else .stopped

theorem restState_of_cause {s : State} (hc : s.rsq.stopCause ≠ .autoStop) :
    restState s = if s.pru.shutdownInService = true then .lockedOut else .stopped := by
  simp [restState, hc]

/-- With any other stop cause than AUTO STOP, coming to rest ends there. -/
theorem comeToRest_of_cause {s : State} (hc : s.rsq.stopCause ≠ .autoStop) :
    comeToRest s = (changeEngine (restState s) s).mapRsq fun r => { r with restartPending := false } := by
  have hn : restState s ≠ .autoStopped := by
    rw [restState_of_cause hc]
    split <;> simp
  simp [comeToRest, hn]

/-- RSQ at rest by R3, or in RUNDOWN on a turning engine, with every timer stopped. -/
theorem toRest_rsq {s : State} (hc : s.rsq.stopCause ≠ .autoStop) :
    (toRest s).rsq =
      { enterState (restEngine s) s.rsq with
        timers := stoppedTimers
        restartPending := s.rsq.restartPending && decide (0 < s.spd.measured) } := by
  unfold toRest restEngine
  split
  · next h =>
    have hm : s.spd.measured ≠ 0 := by omega
    simp only [enterRundown, State.mapTimers_rsq, changeEngine_rsq_of_cause _ hc, if_neg hm]
    simp [enterState, fuelEnableIn, stoppedTimers, h]
  · next h =>
    rw [comeToRest_of_cause hc, State.mapRsq_rsq, changeEngine_rsq_of_cause _ hc, restState_of_cause hc]
    cases s.pru.shutdownInService <;> simp [enterState, fuelEnableIn, stoppedTimers, h]

theorem toRest_spd {s : State} (hc : s.rsq.stopCause ≠ .autoStop) :
    (toRest s).spd = if 0 < s.spd.measured then s.spd else { s.spd with senseLost := false } := by
  unfold toRest
  split
  · simp [enterRundown, changeEngine_spd, Engine.atRest]
  · rw [comeToRest_of_cause hc]
    simp [changeEngine_spd, restState_atRest]

/-! ### The end of an event -/

/-- What an operation of RSQ leaves alone, the end of its event leaves alone too. -/
theorem MovesEngine.finish {s t : State} (h : MovesEngine s t) (s0 : State) (test : Bool) :
    (finish s0 test t).pending = s.pending ∧ (Machine.finish s0 test t).ins = s.ins ∧
      (Machine.finish s0 test t).cfg = s.cfg ∧ AgreesOn s (Machine.finish s0 test t) .links :=
  ⟨by simp [h.pending], by simp [h.ins], by simp [h.cfg], agreesOn_links_finish s0 test h.links⟩

theorem MovesEngine.finish_aut {s t : State} (h : MovesEngine s t) (hc : s.aut.claimedBy .service = false)
    (s0 : State) (test : Bool) : (Machine.finish s0 test t).aut = s.aut :=
  (h.trans (movesEngine_settle s0 test t)).aut hc

/-- An event of RSQ's away from rest leaves INS, AUT, the link interfaces and CFG alone. -/
theorem MovesEngine.unchanged {s t : State} (h : MovesEngine s t) (hc : s.aut.claimedBy .service = false)
    (s0 : State) (test : Bool) : Unchanged [.ins, .aut, .links, .cfg] s (Machine.finish s0 test t) := by
  obtain ⟨hq, hi, hk, hl⟩ := h.finish s0 test
  exact unchanged_cons hi (unchanged_cons (h.finish_aut hc s0 test) (unchanged_cons hl (unchanged_cons hk
    (unchanged_nil hq))))

/-- One block more that stays. -/
theorem Unchanged.with {bs cs : List Block} {s t : State} (h : Unchanged bs s t) (b : Block) (hb : AgreesOn s t b)
    (hs : ∀ c ∈ cs, c = b ∨ c ∈ bs := by decide) : Unchanged cs s t :=
  ⟨h.1, fun c hc => (hs c hc).elim (fun w => w ▸ hb) (h.2 c)⟩

end Sys2Proof.Machine
end

section
/-! SUPPORT. The expiries of RSQ's timers in a start: the minute tick, lube arming, the ends of PRELUBE, PRIMING, CRANKING,
ACCELERATING and CRANK REST (R8 to R18, R30, R35). -/

namespace Sys2Proof.Machine

/-! ### Lube arming and the minute tick -/

theorem exec_minuteTick (s : State) :
    exec .minuteTick s = .next
      { s with
        rsq := Rsq.ticked s.cfg.active.crankWindow s.rsq
        iru := Iru.ticked (Rsq.ticked s.cfg.active.crankWindow s.rsq).minute s.iru } := rfl

/-- Settles O40: each event is one write, the clock of the tick stopping at 65535. -/
theorem lubeArmingAndMinuteTick : Obligations.LubeArmingAndMinuteTick := by
  intro s
  constructor
  · intro h
    change Host.Outcome.next (if _ then _ else _) = _
    rw [if_pos h]
    rfl
  · rw [exec_minuteTick]
    have hm : min 65535 (s.rsq.minute + 1) = 65535 ↔ 65534 ≤ s.rsq.minute := by omega
    by_cases h : 65534 ≤ s.rsq.minute
    · simp [Rsq.ticked, Iru.ticked, satInc_eq_min, ageHistory, h]
    · simp [Rsq.ticked, Iru.ticked, satInc_eq_min, ageHistory, h]

/-! ### What is handed on of an event at the table -/

/-- The states differ in NTU alone. -/
def OnlyNtu (s t : State) : Prop := t = { s with ntu := t.ntu }

theorem OnlyNtu.refl (s : State) : OnlyNtu s s := rfl

theorem onlyNtu_idleDownJump (s : State) : OnlyNtu s (idleDownJump s) := by
  unfold idleDownJump refreshGovernor
  dsimp only
  split <;> rfl

theorem OnlyNtu.rsq {s t : State} (h : OnlyNtu s t) : t.rsq = s.rsq := by rw [h]
theorem OnlyNtu.spd {s t : State} (h : OnlyNtu s t) : t.spd = s.spd := by rw [h]
theorem OnlyNtu.pru {s t : State} (h : OnlyNtu s t) : t.pru = s.pru := by rw [h]
theorem OnlyNtu.aut {s t : State} (h : OnlyNtu s t) : t.aut = s.aut := by rw [h]

/-- A SHUTDOWN entry that has entered service is handed on to RSQ; a rise of the idle-down flag beside it reaches NTU. -/
theorem handOff_of_entered {before : Pru} {s : State} (h : shutdownEntered before s.pru = true) :
    OnlyNtu (takeShutdown s) (handOff before s) := by
  unfold handOff
  simp only [h, if_true, shutdownInService_of_entered h, Bool.not_true, Bool.and_false, Bool.false_eq_true, if_false]
  split
  · exact onlyNtu_idleDownJump _
  · exact .refl _

/-- Where no SHUTDOWN entry enters service and not the last one leaves it, at most NTU hears of the event. -/
theorem handOff_of_not_entered {before : Pru} {s : State} (h : shutdownEntered before s.pru = false)
    (hl : before.shutdownInService = true → s.pru.shutdownInService = true) : OnlyNtu s (handOff before s) := by
  have hk : (before.shutdownInService && !s.pru.shutdownInService) = false := by
    cases hb : before.shutdownInService
    · rfl
    · simp [hl hb]
  unfold handOff
  simp only [h, hk, Bool.false_eq_true, if_false]
  split
  · exact onlyNtu_idleDownJump _
  · exact .refl _

/-! ### A start that fails (R17) -/

/-- The engine states in which a start can fail. -/
def failsIn (e : Engine) : Prop := e = .prelube ∨ e = .priming ∨ e = .crankRest

theorem reportEvent_of_idle {e : Entry} {p : Pru} (h : (p.entry e).state = .idle) :
    reportEvent e p = p.setEntry e { (p.entry e).entered with state := .held } := by
  simp [reportEvent, h]

/-- A held SHUTDOWN entry keeps SHUTDOWN in service; unacknowledged, it rings the bell. -/
theorem bellWanted_of_entry {p : Pru} (e : Entry) (hs : (p.entry e).inService = true)
    (ha : (p.entry e).acknowledged = false) : p.bellWanted = true := by
  simp only [Pru.bellWanted, List.any_eq_true, Bool.and_eq_true, Bool.not_eq_true']
  exact ⟨e, mem_allEntries e, hs, ha⟩

/-- In a start without a crank record that is open, a failure already noted goes to rest as it is. -/
theorem takeShutdown_of_failed {s : State} (hc : s.cfg.checking = false) (he : failsIn s.rsq.engine)
    (hr : s.rsq.startResult ≠ .inProgress) (hs : s.rsq.stopCause = .startFailure) : takeShutdown s = toRest s := by
  have hcut : cutAttempt .protection s = s := by
    obtain h | h | h := he <;> simp [cutAttempt, h]
  have hnote : noteProtection s = s := by simp [noteProtection, hr]
  have hstop : stopByProtection s = s := by simp [stopByProtection, hs]
  rw [takeShutdown_of_moving hc, hcut, hnote, hstop]
  all_goals obtain h | h | h := he <;> simp [h, Engine.atRest]

/-- Entry 5 enters service, and its SHUTDOWN takes the engine to rest. -/
theorem startFailed_failStart {s : State} {result : StartResult} (hq : Quiet s) (hc : s.cfg.checking = false)
    (he : failsIn s.rsq.engine) (h5 : (s.pru.entry 5).state = .idle) (hr : result ≠ .inProgress) (s0 : State)
    (test : Bool) : StartFailed result s.rsq s (finish s0 test (failStart result s)) := by
  let u : State :=
    { s with
      rsq :=
        { s.rsq with
          startResult := result, stopCause := .startFailure
          counters := { s.rsq.counters with failedStarts := satInc 65535 s.rsq.counters.failedStarts } }
      pru := ringBell (s.pru.setEntry 5 { (s.pru.entry 5).entered with state := .held }) }
  have hu : failStart result s = handOff s.pru u := by
    simp only [failStart, pruEvent, State.mapPru, State.mapRsq_pru, reportEvent_of_idle h5]
    rfl
  have hin : (u.pru.entry 5).inService = true := by simp [u, EntryRec.inService]
  have hent : shutdownEntered s.pru u.pru = true :=
    (shutdownEntered_iff _ _).2 ⟨5, by decide, by simp [EntryRec.inService, h5], hin⟩
  have hsd : u.pru.shutdownInService = true := shutdownInService_of_entered hent
  have hrest : takeShutdown u = toRest u := takeShutdown_of_failed hc he hr rfl
  have ho : OnlyNtu (toRest u) (failStart result s) := by
    rw [hu, ← hrest]
    exact handOff_of_entered hent
  have hcause : u.rsq.stopCause ≠ .autoStop := by simp [u]
  have hqu : Quiet u := ⟨rfl, hq.armed, hq.family⟩
  obtain ⟨hqt, hpru⟩ := staysQuiet_toRest u hqu
  have hne : (failStart result s).rsq.engine ≠ .unloading := by
    rw [ho.rsq]
    exact hqt.engine_ne
  obtain ⟨hfr, hfs, hfp, -⟩ := finish_of_ne (s0 := s0) (test := test) hne
  have hbell : u.pru.bell = true := bellWanted_of_entry (p := s.pru.setEntry 5 _) 5 hin (by simp [EntryRec.entered])
  refine ⟨?_, ?_, ?_⟩
  · rw [hfr, ho.rsq, toRest_rsq hcause]
    simp only [restEngine, hsd, if_true, u, satInc_eq_min]
  · rw [hfs, ho.spd, toRest_spd hcause]
  · rw [hfp, ho.pru, hpru]
    have : u.pru = { s.pru.setEntry 5 { (s.pru.entry 5).entered with state := .held } with bell := u.pru.bell } := rfl
    rw [this, hbell]
    simp [EntryRec.entered, satInc_eq_min]

/-- A failed start leaves INS, AUT, the link interfaces and CFG alone. -/
theorem unchanged_failStart {s : State} (hc : s.aut.claimedBy .service = false) (result : StartResult) (s0 : State)
    (test : Bool) : Unchanged [.ins, .aut, .links, .cfg] s (finish s0 test (failStart result s)) := by
  have h : MovesEngine _ (failStart result s) := movesEngine_handOff s.pru _
  obtain ⟨hq, hi, hk, hl⟩ := h.finish s0 test
  exact unchanged_cons hi (unchanged_cons (h.finish_aut hc s0 test) (unchanged_cons hl (unchanged_cons hk
    (unchanged_nil hq))))

theorem exec_prelubeLimitExpiry {s : State} (he : s.rsq.engine = .prelube)
    (ht : s.rsq.timers.prelubeLimit.isSome = true) :
    exec .prelubeLimitExpiry s = .next (finish s false (failStart .failedPrelube s)) := by
  change Host.Outcome.next (if _ then _ else _) = _
  rw [if_pos ⟨he, ht⟩]

theorem exec_primeTimerExpiry {s : State} (he : s.rsq.engine = .priming) (ht : s.rsq.timers.prime.isSome = true) :
    exec .primeTimerExpiry s = .next (finish s false (failStart .failedPrime s)) := by
  change Host.Outcome.next (if _ then _ else _) = _
  rw [if_pos ⟨he, ht⟩]

/-- Settles O36: before cranking, a start that fails trips entry 5, whose SHUTDOWN takes the engine to rest. -/
theorem prelubeAndPrimeLimitsFailTheStart : Obligations.PrelubeAndPrimeLimitsFailTheStart := by
  intro s c result hs hc h5 hcase
  have key : failsIn s.rsq.engine → s.rsq.engine.atRest = false → s.rsq.engine.runningFamily = false →
      fuelEnableIn s.rsq.engine s.rsq.crankFuelLatch = false → result ≠ .inProgress →
      exec c s = .next (finish s false (failStart result s)) →
      ∃ t, exec c s = .next t ∧ Settled t ∧ Unchanged [.ins, .aut, .links, .cfg] s t ∧
        StartFailed result s.rsq s t := fun he hr hf hfuel hres hx =>
    ⟨_, hx, settled_finish _ _ _, unchanged_failStart (hs.unclaimed hr) result s false,
      startFailed_failStart (hs.quiet hfuel hf) hc he h5 hres s false⟩
  obtain ⟨rfl, he, ht, rfl⟩ | ⟨rfl, he, ht, rfl⟩ := hcase
  · exact key (.inl he) (by simp [he, Engine.atRest]) (by simp [he, Engine.runningFamily])
      (by simp [he, fuelEnableIn]) (by decide) (exec_prelubeLimitExpiry he ht)
  · exact key (.inr (.inl he)) (by simp [he, Engine.atRest]) (by simp [he, Engine.runningFamily])
      (by simp [he, fuelEnableIn]) (by decide) (exec_primeTimerExpiry he ht)

/-! ### The way to CRANKING (R8 to R10) -/

/-- A record opens on the entry to CRANKING. -/
theorem crankingEntered_beginCranking (s : State) : CrankingEntered s.rsq s (beginCranking s) := by
  unfold CrankingEntered beginCranking
  simp only [State.mapRsq_rsq, changeEngine_rsq_of_new _ (show Engine.cranking ≠ .rundown by decide)]
  simp [openRecord, enterState, fuelEnableIn, stoppedTimers]

/-- CRANKING is entered alike from the state that was left for PRIMING in the same event. -/
theorem CrankingEntered.congr {x y : Rsq} {s t u : State} (h : CrankingEntered y t u)
    (he : enterState .cranking { y with crankFuelLatch := false } =
      enterState .cranking { x with crankFuelLatch := false }) (hi : t.ins = s.ins)
    (hc : t.cfg = s.cfg) : CrankingEntered x s u := by
  have hh : y.history = x.history := by simpa [enterState] using congrArg Rsq.history he
  have hm : y.minute = x.minute := by simpa [enterState] using congrArg Rsq.minute he
  have ha : y.attempt = x.attempt := by simpa [enterState] using congrArg Rsq.attempt he
  have hd : y.cold = x.cold := by simpa [enterState] using congrArg Rsq.cold he
  unfold CrankingEntered at *
  rw [h, he, hi, hc, hh, hm, ha, hd]

theorem enterCranking_of_permitted {s : State} (h : Permitted s) : enterCranking s = beginCranking s := by
  unfold enterCranking
  rw [(failingPermissive_none_iff s).2 h]

theorem enterCranking_of_failing {s : State} {why : Reason} (h : failingPermissive s = some why) :
    enterCranking s = abandonStart why s := by
  unfold enterCranking
  rw [h]

/-- The end of an event of a start in which PRU hears nothing. -/
theorem quietEvent {s t : State} (hs : Sound s) (hr : s.rsq.engine.atRest = false) (hq : Quiet s) (m : MovesEngine s t)
    (q : StaysQuiet s t) (s0 : State) (test : Bool) :
    Settled (finish s0 test t) ∧ Unchanged [.ins, .pru, .aut, .links, .cfg] s (finish s0 test t) ∧
      (finish s0 test t).rsq = t.rsq ∧ (finish s0 test t).spd = t.spd := by
  obtain ⟨qt, hp⟩ := q hq
  obtain ⟨hfr, hfs, hfp, -⟩ := finish_of_ne (s0 := s0) (test := test) qt.engine_ne
  exact ⟨settled_finish _ _ _, (m.unchanged (hs.unclaimed hr) s0 test).with .pru (hfp.trans hp), hfr, hfs⟩

theorem abandonStart_rsq {s : State} (why : Reason) (hc : s.rsq.stopCause ≠ .autoStop) :
    (abandonStart why s).rsq =
      { enterState (restEngine s) { s.rsq with startResult := .abandoned, startReason := some why } with
        timers := stoppedTimers
        restartPending := s.rsq.restartPending && decide (0 < s.spd.measured) } := toRest_rsq hc

theorem abandonStart_spd {s : State} (why : Reason) (hc : s.rsq.stopCause ≠ .autoStop) :
    (abandonStart why s).spd = if 0 < s.spd.measured then s.spd else { s.spd with senseLost := false } :=
  toRest_spd hc

end Sys2Proof.Machine
end

section
/-! SUPPORT. The ends of the minimum prelube, of an attempt, of the crank budget and of CRANK REST (R8 to R18, R35). -/

namespace Sys2Proof.Machine

/-! ### The end of the minimum prelube -/

/-- The state in PRIMING that `enterPriming` starts from. -/
def primed (s : State) : State :=
  (changeEngine .priming s).mapTimers fun x => { x with prime := some (tenthsMs s.cfg.active.primeLimit) }

theorem enterPriming_eq (s : State) :
    enterPriming s = if s.cfg.active.primePressure ≤ s.ins.fuel.given then enterCranking (primed s) else primed s := rfl

theorem primed_rsq (s : State) :
    (primed s).rsq =
      { enterState .priming s.rsq with
        timers := { stoppedTimers with prime := some (tenthsMs s.cfg.active.primeLimit) } } := by
  simp [primed, changeEngine_rsq_of_new s (show Engine.priming ≠ .rundown by decide), enterState, fuelEnableIn,
    stoppedTimers]

theorem movesEngine_primed (s : State) : MovesEngine s (primed s) :=
  (movesEngine_changeEngine _ s).trans (movesEngine_mapTimers _ _)

theorem primed_spd (s : State) : (primed s).spd = s.spd := by simp [primed, changeEngine_spd, Engine.atRest]

theorem primed_failingPermissive (s : State) : failingPermissive (primed s) = failingPermissive s :=
  (movesEngine_primed s).failingPermissive (by simp [primed_rsq, enterState])

theorem beginCranking_spd (s : State) : (beginCranking s).spd = s.spd := by
  simp [beginCranking, changeEngine_spd, Engine.atRest]

theorem enterCranking_primed_of_permitted {s : State} (h : Permitted s) :
    CrankingEntered s.rsq s (enterCranking (primed s)) ∧ (enterCranking (primed s)).spd = s.spd := by
  have hp : Permitted (primed s) := by
    rwa [← failingPermissive_none_iff, primed_failingPermissive, failingPermissive_none_iff]
  rw [enterCranking_of_permitted hp]
  have hm := movesEngine_primed s
  refine ⟨(crankingEntered_beginCranking (primed s)).congr ?_ hm.ins hm.cfg, ?_⟩
  · simp [primed_rsq, enterState, fuelEnableIn]
  · rw [beginCranking_spd, primed_spd]

theorem restEngine_congr {s t : State} (hm : t.spd.measured = s.spd.measured)
    (hp : t.pru.shutdownInService = s.pru.shutdownInService) : restEngine t = restEngine s := by
  simp only [restEngine, hm, hp]

theorem enterCranking_primed_of_failing {s : State} {why : Reason} (h : failingPermissive s = some why)
    (hc : s.rsq.stopCause ≠ .autoStop) :
    (enterCranking (primed s)).rsq =
        { enterState (restEngine s) { s.rsq with startResult := .abandoned, startReason := some why } with
          timers := stoppedTimers
          restartPending := s.rsq.restartPending && decide (0 < s.spd.measured) } ∧
      (enterCranking (primed s)).spd = if 0 < s.spd.measured then s.spd else { s.spd with senseLost := false } := by
  have hcp : (primed s).rsq.stopCause ≠ .autoStop := by simpa [primed_rsq, enterState] using hc
  have hr : restEngine (primed s) = restEngine s :=
    restEngine_congr (by rw [primed_spd]) (movesEngine_primed s).shutdown
  rw [enterCranking_of_failing (why := why) (by rw [primed_failingPermissive, h]), abandonStart_rsq _ hcp,
    abandonStart_spd _ hcp, hr, primed_spd, primed_rsq]
  refine ⟨?_, rfl⟩
  unfold restEngine
  (repeat' split) <;> simp [enterState, fuelEnableIn]

theorem exec_prelubeMinimumExpiry {s : State} (he : s.rsq.engine = .prelube)
    (ht : s.rsq.timers.prelubeMinimum.isSome = true) :
    exec .prelubeMinimumExpiry s = .next (finish s false
      (if s.cfg.active.prelubePressure ≤ s.ins.lube.given then
        enterPriming (s.mapTimers fun x => { x with prelubeMinimum := none })
      else s.mapTimers fun x => { x with prelubeMinimum := none })) := by
  change Host.Outcome.next (if _ then _ else _) = _
  rw [if_pos ⟨he, ht⟩]

/-- What becomes of the record of a start is what becomes of it without its minimum prelube timer. -/
theorem crankingEntered_forgets {s t : State} (f : SeqTimers → SeqTimers)
    (h : CrankingEntered (s.mapTimers f).rsq (s.mapTimers f) t) (hl : (f s.rsq.timers).lubeArming = s.rsq.timers.lubeArming) :
    CrankingEntered s.rsq s t :=
  h.congr (by simp [enterState, hl]) rfl rfl

/-- Settles O37: the pressures decide how far the start goes, and the permissives whether it may crank. -/
theorem prelubeAdvancesOnPressure : Obligations.PrelubeAdvancesOnPressure := by
  intro s hs he ht
  dsimp only
  have hr : s.rsq.engine.atRest = false := by simp [he, Engine.atRest]
  have hq : Quiet s := hs.quiet (by simp [he, fuelEnableIn]) (by simp [he, Engine.runningFamily])
  let s1 := s.mapTimers fun x => { x with prelubeMinimum := none }
  let u := if s.cfg.active.prelubePressure ≤ s.ins.lube.given then enterPriming s1 else s1
  have hm1 : MovesEngine s s1 := movesEngine_mapTimers _ _
  have hq1 : StaysQuiet s s1 := .of_eq rfl rfl rfl
  have hm : MovesEngine s u := by
    unfold u
    split
    · exact hm1.trans (movesEngine_enterPriming s1)
    · exact hm1
  have hqu : StaysQuiet s u := by
    unfold u
    split
    · exact hq1.trans (staysQuiet_enterPriming s1)
    · exact hq1
  obtain ⟨hset, hun, hrsq, hspd⟩ := quietEvent hs hr hq hm hqu s false
  refine ⟨_, exec_prelubeMinimumExpiry he ht, hset, hun, ?_, ?_, ?_⟩
  · intro hl
    have hu : u = s1 := if_neg (by omega)
    exact ⟨hrsq.trans (by rw [hu]; rfl), hspd.trans (by rw [hu]; rfl)⟩
  · intro hl hf
    have hu : u = primed s1 := (if_pos hl).trans ((enterPriming_eq s1).trans (if_neg (by simpa [s1] using hf)))
    exact ⟨hrsq.trans (by rw [hu, primed_rsq]; rfl), hspd.trans (by rw [hu, primed_spd]; rfl)⟩
  · intro hl hf
    have hu : u = enterCranking (primed s1) := (if_pos hl).trans ((enterPriming_eq s1).trans (if_pos hf))
    refine ⟨fun hp => ?_, failingPermissive_none_iff s, fun reason hw hc => ?_⟩
    · obtain ⟨hce, hsp⟩ := enterCranking_primed_of_permitted (s := s1) hp
      refine ⟨hrsq.trans ?_, hspd.trans (by rw [hu, hsp]; rfl)⟩
      rw [hu]
      exact crankingEntered_forgets _ hce rfl
    · have hc1 : s1.rsq.stopCause ≠ .autoStop := by
        change s.rsq.stopCause ≠ _
        simp [hc]
      obtain ⟨hx, hsp⟩ := enterCranking_primed_of_failing (s := s1) hw hc1
      exact ⟨hrsq.trans (by rw [hu, hx]; rfl), hspd.trans (by rw [hu, hsp]; rfl)⟩


/-! ### A failed attempt (R15) -/

theorem failAttempt_rsq (s : State) :
    (failAttempt s).rsq =
      { enterState .crankRest s.rsq with
        zeroConfirmed := false
        timers :=
          { stoppedTimers with
            rest := some (tenthsMs s.cfg.active.crankRest)
            zeroHold := if s.spd.measured = 0 then some 1000 else none } } := by
  simp [failAttempt, changeEngine_rsq_of_new s (show Engine.crankRest ≠ .rundown by decide), enterState, fuelEnableIn,
    stoppedTimers]

theorem failAttempt_spd (s : State) : (failAttempt s).spd = s.spd := by
  simp [failAttempt, changeEngine_spd, Engine.atRest]

/-- Lube arming ends with FUEL ENABLE, so that entry 4 alone can hear of a failed attempt. -/
theorem failAttempt_entry {s : State} (hf : s.rsq.engine.runningFamily = false) {e : Entry} (h : e ≠ 4) :
    (failAttempt s).pru.entry e = s.pru.entry e :=
  changeEngine_entry_of_ne hf (by decide) h

/-- An attempt whose record `f` writes ends in CRANK REST. -/
theorem attemptFailed {s : State} (hs : Sound s) (hr : s.rsq.engine.atRest = false)
    (hf : s.rsq.engine.runningFamily = false) {f : Rsq → Rsq} (he : (f s.rsq).engine = s.rsq.engine)
    (hl : (f s.rsq).lubeArmed = s.rsq.lubeArmed) :
    let t := finish s false (failAttempt (s.mapRsq f))
    Settled t ∧ Unchanged [.spd, .ins, .aut, .links, .cfg] s t ∧
      t.rsq =
        { enterState .crankRest (f s.rsq) with
          zeroConfirmed := false
          timers :=
            { stoppedTimers with
              rest := some (tenthsMs s.cfg.active.crankRest)
              zeroHold := if s.spd.measured = 0 then some 1000 else none } } ∧
      (s.rsq.lubeArmed = false → t.pru = s.pru) ∧ ∀ e : Entry, e ≠ 4 → t.pru.entry e = s.pru.entry e := by
  have hrsq := failAttempt_rsq (s.mapRsq f)
  have hne : (failAttempt (s.mapRsq f)).rsq.engine ≠ .unloading := by
    rw [hrsq]
    simp [enterState]
  obtain ⟨hfr, hfs, hfp, -⟩ := finish_of_ne (s0 := s) (test := false) hne
  have hm : MovesEngine s (failAttempt (s.mapRsq f)) := (movesEngine_mapRsq f s).trans (movesEngine_failAttempt _)
  have hq : StaysQuiet s (failAttempt (s.mapRsq f)) := (staysQuiet_failAttempt _).from_eq rfl he hl
  refine ⟨settled_finish _ _ _, (hm.unchanged (hs.unclaimed hr) s false).with .spd (hfs.trans (failAttempt_spd _)),
    hfr.trans hrsq, fun ha => ?_, fun e h4 => ?_⟩
  · obtain ⟨-, -, hb, -⟩ := hs
    obtain ⟨-, hp⟩ := hq ⟨hb, ha, hf⟩
    exact hfp.trans hp
  · rw [hfp]
    exact failAttempt_entry (s := s.mapRsq f) (by simpa [he] using hf) h4

theorem elapsedAtExpiry_of_le {r : Rsq} {ms : Nat} (h : ∀ b, r.budget = some b → ms / 100 ≤ b) :
    elapsedAtExpiry (some ms) r = ms / 100 := by
  unfold elapsedAtExpiry
  cases hb : r.budget with
  | none => simp
  | some b => simpa using h b hb

theorem exec_engageTimerExpiry {s : State} {ms : Nat} (he : s.rsq.engine = .cranking)
    (ht : s.rsq.timers.engage = some ms) :
    exec .engageTimerExpiry s =
      .next (finish s false (failAttempt (s.mapRsq (writeAttempt .noEngage (elapsedAtExpiry (some ms) s.rsq))))) := by
  change Host.Outcome.next (if _ then _ else _) = _
  rw [if_pos ⟨he, by simp [ht]⟩, ht]
  rfl

theorem exec_crankLimitExpiry {s : State} {ms : Nat} (he : s.rsq.engine = .cranking)
    (ht : s.rsq.timers.crankLimit = some ms) :
    exec .crankLimitExpiry s =
      .next (finish s false (failAttempt (s.mapRsq (writeAttempt .noFire (elapsedAtExpiry (some ms) s.rsq))))) := by
  change Host.Outcome.next (if _ then _ else _) = _
  rw [if_pos ⟨he, by simp [ht]⟩, ht]
  rfl

theorem exec_batteryDropoutExpiry {s : State} (he : s.rsq.engine = .cranking)
    (ht : s.rsq.timers.batteryDropout.isSome = true) :
    exec .batteryDropoutExpiry s =
      .next (finish s false (failAttempt (s.mapRsq (writeAttempt .battery (elapsedCranking s.rsq.history))))) := by
  change Host.Outcome.next (if _ then _ else _) = _
  rw [if_pos ⟨he, ht⟩]
  rfl

theorem exec_accelerationTimerExpiry {s : State} (he : s.rsq.engine = .accelerating)
    (ht : s.rsq.timers.acceleration.isSome = true) :
    exec .accelerationTimerExpiry s = .next (finish s false (failAttempt (s.mapRsq (closeFired .slow)))) := by
  change Host.Outcome.next (if _ then _ else _) = _
  rw [if_pos ⟨he, ht⟩]

theorem exec_stallTimerExpiry {s : State} (he : s.rsq.engine = .accelerating)
    (ht : s.rsq.timers.stall.isSome = true) :
    exec .stallTimerExpiry s = .next (finish s false (failAttempt (s.mapRsq (closeFired .stalled)))) := by
  change Host.Outcome.next (if _ then _ else _) = _
  rw [if_pos ⟨he, ht⟩]

/-- Settles O38: each way to fail writes its record and leads to CRANK REST. -/
theorem failedAttemptsGoToCrankRest : Obligations.FailedAttemptsGoToCrankRest := by
  intro s c older r hs hh
  dsimp only
  refine ⟨fun he => ?_, fun he => ?_⟩
  · have key := fun (o : CrankOutcome) (n : Nat) =>
      attemptFailed (f := writeAttempt o n) hs (by simp [he, Engine.atRest]) (by simp [he, Engine.runningFamily]) rfl rfl
    refine ⟨?_, ?_, ?_⟩
    · rintro ms hms rfl hb
      refine ⟨_, exec_engageTimerExpiry he hms, ?_⟩
      rw [← writeAttempt_eq hh (by decide), ← elapsedAtExpiry_of_le hb]
      exact key _ _
    · rintro ms hms rfl hb
      refine ⟨_, exec_crankLimitExpiry he hms, ?_⟩
      rw [← writeAttempt_eq hh (by decide), ← elapsedAtExpiry_of_le hb]
      exact key _ _
    · rintro rfl hd ho hp
      refine ⟨_, exec_batteryDropoutExpiry he hd, ?_⟩
      rw [← writeAttempt_eq hh (by decide), hh, elapsedCranking_append older ho hp]
      exact key _ _
  · have key := fun (o : CrankOutcome) =>
      attemptFailed (f := closeFired o) hs (by simp [he, Engine.atRest]) (by simp [he, Engine.runningFamily]) rfl rfl
    refine ⟨?_, ?_⟩
    · rintro rfl ht
      refine ⟨_, exec_accelerationTimerExpiry he ht, ?_⟩
      rw [← closeFired_eq hh]
      exact key _
    · rintro rfl ht
      refine ⟨_, exec_stallTimerExpiry he ht, ?_⟩
      rw [← closeFired_eq hh]
      exact key _

/-! ### A filled budget (R18, R35) -/

theorem exec_budgetTimerExpiry {s : State} (he : s.rsq.engine = .cranking) (hb : s.rsq.budget.isSome = true) :
    exec .budgetTimerExpiry s =
      .next (finish s false (abandonStart .budget (s.mapRsq (writeAttempt .budget (crankingDue s.rsq))))) := by
  change Host.Outcome.next (if _ then _ else _) = _
  rw [if_pos ⟨he, hb⟩]

theorem crankingDue_le {r : Rsq} {headroom : Nat} (hb : r.budget = some headroom) :
    crankingDue r ≤ headroom ∧ crankingDue r ≤ 600 := by
  simp only [crankingDue, hb, Option.getD_some]
  omega

/-- The headroom is due where no timer of the attempt is due before it. -/
theorem crankingDue_of_first {r : Rsq} {headroom : Nat} (hb : r.budget = some headroom) (h6 : headroom ≤ 600)
    (hl : ∀ ms, r.timers.crankLimit = some ms → headroom ≤ ms / 100)
    (he : ∀ ms, r.timers.engage = some ms → headroom ≤ ms / 100) : crankingDue r = headroom := by
  have h1 : headroom ≤ r.timers.crankLimit.getD 60000 / 100 := by
    cases h : r.timers.crankLimit with
    | none => simpa using h6
    | some ms => simpa using hl ms h
  have h2 : headroom ≤ r.timers.engage.getD 60000 / 100 := by
    cases h : r.timers.engage with
    | none => simpa using h6
    | some ms => simpa using he ms h
  simp only [crankingDue, hb, Option.getD_some]
  omega

/-- Settles O39: the attempt ends as BUDGET, and the start is abandoned on the spot. -/
theorem aFilledBudgetAbandonsTheStart : Obligations.AFilledBudgetAbandonsTheStart := by
  intro s older r headroom hs he hb hh hc hl
  dsimp only
  have hr : s.rsq.engine.atRest = false := by simp [he, Engine.atRest]
  have hq : Quiet s := by
    obtain ⟨-, -, hbell, -⟩ := hs
    exact ⟨hbell, hl, by simp [he, Engine.runningFamily]⟩
  let w := s.mapRsq (writeAttempt .budget (crankingDue s.rsq))
  have hm : MovesEngine s (abandonStart .budget w) := (movesEngine_mapRsq _ s).trans (movesEngine_abandonStart _ w)
  have hqs : StaysQuiet s (abandonStart .budget w) := (staysQuiet_abandonStart _ w).from_eq rfl rfl rfl
  have hcw : w.rsq.stopCause ≠ .autoStop := by
    change s.rsq.stopCause ≠ _
    simp [hc]
  obtain ⟨hset, hun, hrsq, hspd⟩ := quietEvent hs hr hq hm hqs s false
  obtain ⟨hle, h6⟩ := crankingDue_le hb
  refine ⟨_, crankingDue s.rsq, exec_budgetTimerExpiry he (by simp [hb]), hset, hun,
    fun h600 hcl hen => crankingDue_of_first hb h600 hcl hen, hle, h6, ?_, ?_⟩
  · rw [hrsq, abandonStart_rsq _ hcw, ← writeAttempt_eq hh (by decide)]
    rfl
  · rw [hspd, abandonStart_spd _ hcw]
    rfl

/-! ### CRANK REST (R16) -/

/-- The end of CRANK REST where it can end, else the state as it is. -/
def restOver (s : State) : State := if s.rsq.zeroConfirmed = true ∧ s.rsq.timers.rest = none then endRest s else s

theorem exec_restTimerExpiry {s : State} (he : s.rsq.engine = .crankRest) (ht : s.rsq.timers.rest.isSome = true) :
    exec .restTimerExpiry s = .next (finish s false (restOver (s.mapTimers fun x => { x with rest := none }))) := by
  change Host.Outcome.next (if _ then _ else _) = _
  rw [if_pos ⟨he, ht⟩]
  simp [restOver]

theorem exec_zeroHoldExpiryCrankRest {s : State} (he : s.rsq.engine = .crankRest)
    (ht : s.rsq.timers.zeroHold.isSome = true) :
    exec .zeroHoldExpiryCrankRest s = .next (finish s false (restOver
      (s.mapRsq fun r => { r with zeroConfirmed := true, timers := { r.timers with zeroHold := none } }))) := by
  change Host.Outcome.next (if _ then _ else _) = _
  rw [if_pos ⟨he, ht⟩]
  simp [restOver, Option.isNone_iff_eq_none]

/-- What an event leaves alone does not turn on RSQ's record as it began. -/
theorem Unchanged.from_rsq {bs : List Block} {s t : State} {x : Rsq} (h : Unchanged bs { s with rsq := x } t)
    (hb : .rsq ∉ bs := by decide) : Unchanged bs s t := by
  refine ⟨h.1, fun b hm => ?_⟩
  have k := h.2 b hm
  cases b
  case rsq => exact absurd hm hb
  all_goals exact k

/-- CRANK REST is left, in one of its three ways, exactly where it is over. -/
theorem restOver_ends {s : State} (hq : Quiet s) (hc : s.cfg.checking = false) (he : s.rsq.engine = .crankRest)
    (hu : s.aut.claimedBy .service = false) (s0 : State) :
    let ended := s.rsq.zeroConfirmed = true ∧ s.rsq.timers.rest = none
    let t := finish s0 false (restOver s)
    Unchanged [.ins, .aut, .links, .cfg] s t ∧
      (¬ended → t.rsq = s.rsq ∧ Unchanged [.spd, .pru] s t) ∧
      (ended → s.rsq.attempt < s.cfg.active.maxAttempts → Permitted s →
        CrankingEntered { s.rsq with attempt := s.rsq.attempt + 1 } s t ∧ Unchanged [.spd, .pru] s t) ∧
      (ended → s.rsq.attempt < s.cfg.active.maxAttempts → ∀ why, failingPermissive s = some why →
        s.rsq.stopCause ≠ .autoStop → Unchanged [.pru] s t ∧
          t.rsq =
            { enterState (restEngine s)
                { s.rsq with
                  attempt := s.rsq.attempt + 1, startResult := .abandoned, startReason := some why } with
              timers := stoppedTimers
              restartPending := s.rsq.restartPending && decide (0 < s.spd.measured) }) ∧
      (ended → s.cfg.active.maxAttempts ≤ s.rsq.attempt → (s.pru.entry 5).state = .idle →
        StartFailed .failedAttempts s.rsq s t) := by
  dsimp only
  by_cases hend : s.rsq.zeroConfirmed = true ∧ s.rsq.timers.rest = none
  · have ho : restOver s = endRest s := if_pos hend
    rw [ho]
    by_cases ha : s.rsq.attempt < s.cfg.active.maxAttempts
    · let s2 := s.mapRsq fun r => { r with attempt := r.attempt + 1 }
      have h2 : endRest s = enterCranking s2 := if_pos ha
      have hm : MovesEngine s (enterCranking s2) := (movesEngine_mapRsq _ s).trans (movesEngine_enterCranking s2)
      have hqs : StaysQuiet s (enterCranking s2) := (staysQuiet_enterCranking s2).from_eq rfl rfl rfl
      obtain ⟨hqt, hp⟩ := hqs hq
      obtain ⟨hfr, hfs, hfp, -⟩ := finish_of_ne (s0 := s0) (test := false) hqt.engine_ne
      have hun := hm.unchanged hu s0 false
      have hpru : Unchanged [.pru] s (finish s0 false (enterCranking s2)) :=
        unchanged_cons (hfp.trans hp) (unchanged_nil hun.1)
      rw [h2]
      refine ⟨hun, fun w => absurd hend w, fun _ _ hper => ?_, fun _ _ why hw hcause => ⟨hpru, ?_⟩, fun _ w => ?_⟩
      · have hper2 : Permitted s2 := hper
        have hb := enterCranking_of_permitted hper2
        refine ⟨?_, hpru.with .spd ?_⟩
        · exact hfr.trans (hb ▸ crankingEntered_beginCranking s2)
        · exact hfs.trans (by rw [hb, beginCranking_spd]; rfl)
      · have hw2 : failingPermissive s2 = some why := hw
        rw [hfr, enterCranking_of_failing hw2, abandonStart_rsq (s := s2) _ hcause]
        rfl
      · omega
    · have h2 : endRest s = failStart .failedAttempts s := if_neg ha
      rw [h2]
      exact ⟨unchanged_failStart hu _ s0 false, fun w => absurd hend w, fun _ w => absurd w ha,
        fun _ w => absurd w ha, fun _ _ h5 => startFailed_failStart hq hc (.inr (.inr he)) h5 (by decide) s0 false⟩
  · have ho : restOver s = s := if_neg hend
    obtain ⟨hfr, hfs, hfp, -⟩ := finish_of_ne (s0 := s0) (test := false) hq.engine_ne
    rw [ho]
    have hun := (MovesEngine.refl s).unchanged hu s0 false
    exact ⟨hun, fun _ => ⟨hfr, unchanged_cons hfs (unchanged_cons hfp (unchanged_nil hun.1))⟩,
      fun w => absurd w hend, fun w => absurd w hend, fun w => absurd w hend⟩

theorem restEngine_cases (s : State) : restEngine s = .rundown ∨ (restEngine s).atRest = true := by
  unfold restEngine
  (repeat' split) <;> simp [Engine.atRest]

/-- Settles O41: an expiry of CRANK REST notes itself; the second of the two ends it. -/
theorem crankRestEnds : Obligations.CrankRestEnds := by
  intro s c hs hc he hcase
  dsimp only
  have hr : s.rsq.engine.atRest = false := by simp [he, Engine.atRest]
  have hq : Quiet s := hs.quiet (by simp [he, fuelEnableIn]) (by simp [he, Engine.runningFamily])
  generalize ha : (if c = .restTimerExpiry then { s.rsq with timers := { s.rsq.timers with rest := none } }
    else { s.rsq with zeroConfirmed := true, timers := { s.rsq.timers with zeroHold := none } } : Rsq) = after
  have hx : exec c s = .next (finish s false (restOver { s with rsq := after })) := by
    obtain ⟨rfl, ht⟩ | ⟨rfl, ht⟩ := hcase
    · rw [exec_restTimerExpiry he ht, ← ha]
      rfl
    · rw [exec_zeroHoldExpiryCrankRest he ht, ← ha]
      rfl
  have hkeep : after.engine = s.rsq.engine ∧ after.lubeArmed = s.rsq.lubeArmed ∧ after.history = s.rsq.history ∧
      after.attempt = s.rsq.attempt ∧ after.stopCause = s.rsq.stopCause ∧ after.counters = s.rsq.counters := by
    rw [← ha]
    split <;> exact ⟨rfl, rfl, rfl, rfl, rfl, rfl⟩
  obtain ⟨hke, hkl, hkh, hka, hkc, hkn⟩ := hkeep
  have hq1 : Quiet { s with rsq := after } := ((StaysQuiet.of_eq rfl hke hkl : StaysQuiet s { s with rsq := after }) hq).1
  have hfail : failingPermissive { s with rsq := after } = failingPermissive s :=
    failingPermissive_congr rfl rfl rfl rfl hkh
  obtain ⟨hun, hstay, hcrank, hab, hfailed⟩ := restOver_ends hq1 hc (hke.trans he) (hs.unclaimed hr) s
  refine ⟨_, hx, settled_finish _ _ _, hun.from_rsq, fun hn => ?_, fun hend hlt hp => ?_, fun hend hlt hnp hcause => ?_,
    fun hend hle h5 => ?_⟩
  · obtain ⟨h1, h2⟩ := hstay hn
    exact ⟨h1, h2.from_rsq⟩
  · rw [← failingPermissive_none_iff, ← hfail, failingPermissive_none_iff] at hp
    obtain ⟨h1, h2⟩ := hcrank hend (hka ▸ hlt) hp
    exact ⟨hka ▸ h1, h2.from_rsq⟩
  · rw [← failingPermissive_none_iff] at hnp
    obtain ⟨why, hw⟩ := Option.ne_none_iff_exists'.1 hnp
    obtain ⟨h1, h2⟩ := hab hend (hka ▸ hlt) why (hfail.trans hw) (by simp [hkc, hcause])
    refine ⟨h1.from_rsq, ?_⟩
    rw [h2, hw]
    refine ⟨rfl, rfl, rfl, congrArg (· + 1) hka, hkh, hkn, ?_⟩
    exact restEngine_cases _
  · exact hfailed hend (hka ▸ hle) h5

end Sys2Proof.Machine
end

section
/-! SUPPORT. NTU and IRU at the end of an event, an accepted start, and the ends of RUNDOWN and UNLOADING (R6, R7, R21,
R23, R24, R27). -/

namespace Sys2Proof.Machine

/-! ### IRU at the end of an event -/

/-- What IRU's judgement of its conditions leaves alone, the end of an event leaves alone where it takes no fuel off. -/
theorem finish_iru_of {α : Type} {f : Iru → α} (hj : ∀ x, f (judgeIdle x).iru = f x.iru) {s0 s : State} {test : Bool}
    (h : s.rsq.engine ≠ .unloading) : f (finish s0 test s).iru = f s.iru := by
  have hi : ∀ x, f (settleInputs x).iru = f x.iru := fun x => by simp [settleInputs, hj]
  obtain ⟨x, hx, hc⟩ := settle_form s0 test s
  have hxe : x.rsq.engine = s.rsq.engine := by
    rcases hc with rfl | rfl <;> simp
  have hxi : f x.iru = f s.iru := by
    rcases hc with rfl | rfl
    · rfl
    · rw [stepChannel_iru, hi]
  change f (settle s0 test s).iru = _
  rw [hx, reportUnload_of_ne (by simpa [hxe] using h), refreshGovernor_iru, hi, hxi]

theorem judgeIdle_fuelOff (s : State) : (judgeIdle s).iru.fuelOff = s.iru.fuelOff := by
  unfold judgeIdle
  (repeat' split) <;> rfl

theorem judgeIdle_restartRefused (s : State) : (judgeIdle s).iru.restartRefused = s.iru.restartRefused := by
  unfold judgeIdle
  (repeat' split) <;> rfl

/-- Outside its dwells and OFF, IRU judges nothing. -/
def IruState.judges : IruState → Bool
  | .off | .idleDwell | .lowIdleDwell => true
  | .stopping | .watch | .restartPending => false

/-- Where no judgement of its conditions moves IRU, the end of an event does not, fuel staying on. -/
theorem finish_iru_of_fixed {s : State} (hj : ∀ x : State, x.rsq.engine = s.rsq.engine → x.iru = s.iru → judgeIdle x = x)
    (h : s.rsq.engine ≠ .unloading) (s0 : State) (test : Bool) : (finish s0 test s).iru = s.iru := by
  have hi : ∀ x : State, x.rsq.engine = s.rsq.engine → x.iru = s.iru → (settleInputs x).iru = s.iru := by
    intro x hr hx
    have hk := hj (refreshPermit (refreshE x)) (by simpa using hr) (by simpa using hx)
    simp only [settleInputs, refreshLowIdle_iru, hk]
    simpa using hx
  obtain ⟨x, hx, hc⟩ := settle_form s0 test s
  have hxe : x.rsq.engine = s.rsq.engine := by
    rcases hc with rfl | rfl <;> simp
  have hxi : x.iru = s.iru := by
    rcases hc with rfl | rfl
    · rfl
    · rw [stepChannel_iru, hi s rfl rfl]
  change (settle s0 test s).iru = _
  rw [hx, reportUnload_of_ne (by simpa [hxe] using h), refreshGovernor_iru, hi x hxe hxi]

theorem judgeIdle_of_not_judges {s : State} (h : s.iru.state.judges = false) : judgeIdle s = s := by
  unfold judgeIdle
  cases hs : s.iru.state <;> simp [hs, IruState.judges] at h ⊢

/-! ### NTU outside RUNNING and UNLOADING -/

/-- The notch and the load at rest (R147). -/
def Ntu.AtRest (n : Ntu) : Prop := n.applied = 0 ∧ n.loadRef = 0 ∧ n.loadPermit = false ∧ n.lowIdle = false

theorem stepChannel_of_family {s : State} (h : s.rsq.engine.runningFamily = false) : stepChannel s = s := by
  have hu : upStepOpen s = false := by
    have : s.rsq.engine ≠ .running := fun w => by simp [w, Engine.runningFamily] at h
    simp [upStepOpen, this]
  have hd : downStepOpen s = false := by
    unfold downStepOpen downDwellOpen
    cases he : s.rsq.engine <;> simp [he, Engine.runningFamily] at h ⊢
  simp [stepChannel, hu, hd]

/-- Outside RUNNING and UNLOADING only E follows its inputs, where the load and LOW IDLE are off. -/
theorem settleInputs_ntu_of_family {s : State} (hf : s.rsq.engine.runningFamily = false)
    (hp : s.ntu.loadPermit = false) (hi : s.ntu.lowIdle = false) :
    (settleInputs s).ntu = { s.ntu with e := effectiveNotch s } := by
  have hw : loadPermitWanted (refreshE s) = false := by simp [loadPermitWanted, hf]
  have hrun : s.rsq.engine ≠ .running := fun w => by simp [w, Engine.runningFamily] at hf
  have hpermit : refreshPermit (refreshE s) = refreshE s := by simp [refreshPermit, hw, hp]
  have hlow : ∀ x : State, x.rsq = s.rsq → x.ntu = (refreshE s).ntu → (refreshLowIdle x).ntu = x.ntu := by
    intro x hr hn
    have hi' : x.ntu.lowIdle = false := by rw [hn]; exact hi
    simp [refreshLowIdle, hi', hr, hrun]
  unfold settleInputs
  rw [hpermit, hlow _ (by simp) (by simp), judgeIdle_ntu]
  rfl

/-- The end of an event outside RUNNING and UNLOADING leaves the notch and the load alone, the load and LOW IDLE being
off. -/
theorem finish_ntu_of_family {s : State} (hf : s.rsq.engine.runningFamily = false) (hp : s.ntu.loadPermit = false)
    (hi : s.ntu.lowIdle = false) (s0 : State) (test : Bool) :
    (finish s0 test s).ntu =
      { s.ntu with
        e := (finish s0 test s).ntu.e, setpoint := (finish s0 test s).ntu.setpoint
        governorRef := (finish s0 test s).ntu.governorRef } := by
  obtain ⟨x, hx, hc⟩ := settle_form s0 test s
  have hin := settleInputs_ntu_of_family hf hp hi
  have hfi : (settleInputs s).rsq.engine.runningFamily = false := by simpa using hf
  have hxe : x.rsq.engine = s.rsq.engine := by
    rcases hc with rfl | rfl <;> simp
  have hxn : x.ntu = { s.ntu with e := x.ntu.e } := by
    rcases hc with rfl | rfl
    · rfl
    · rw [stepChannel_of_family hfi, hin]
  have hxp : x.ntu.loadPermit = false := by rw [hxn]; exact hp
  have hxi : x.ntu.lowIdle = false := by rw [hxn]; exact hi
  have hfx : x.rsq.engine.runningFamily = false := by rwa [hxe]
  have hne : x.rsq.engine ≠ .unloading := fun w => by simp [w, Engine.runningFamily] at hfx
  change (settle s0 test s).ntu =
    { s.ntu with
      e := (settle s0 test s).ntu.e, setpoint := (settle s0 test s).ntu.setpoint
      governorRef := (settle s0 test s).ntu.governorRef }
  rw [hx, reportUnload_of_ne (by simpa using hne), refreshGovernor_ntu, settleInputs_ntu_of_family hfx hxp hxi, hxn]

theorem finish_ntu_atRest {s : State} (hf : s.rsq.engine.runningFamily = false) (h : s.ntu.AtRest) (s0 : State)
    (test : Bool) : (finish s0 test s).ntu.AtRest := by
  obtain ⟨ha, hl, hp, hi⟩ := h
  rw [finish_ntu_of_family hf hp hi]
  exact ⟨ha, hl, hp, hi⟩

/-! ### An accepted start (R6, R7) -/

theorem acceptStart_entered (k : StartKind) (s : State) : PrelubeEntered k s.rsq s (acceptStart k s) := by
  unfold PrelubeEntered acceptStart enterPrelube prelubeTime
  simp only [State.mapTimers_rsq, changeEngine_rsq_of_new _ (show Engine.prelube ≠ .rundown by decide)]
  cases hf : s.iru.fuelOff with
  | none => simp [enterState, fuelEnableIn, stoppedTimers, satInc_eq_min, hf]
  | some m => simp [enterState, fuelEnableIn, stoppedTimers, satInc_eq_min, hf, and_assoc]

theorem acceptStart_restartRefused (k : StartKind) (s : State) : (acceptStart k s).iru.restartRefused = false := by
  simp [acceptStart, enterPrelube]

theorem acceptStart_spd (k : StartKind) (s : State) : (acceptStart k s).spd = s.spd := by
  simp [acceptStart, enterPrelube, changeEngine_spd, Engine.atRest]

/-- An auto restart of AUTO STOPPED with the permissives holding. -/
theorem autoRestart_of_permitted {s : State} (he : s.rsq.engine = .autoStopped) (h : Permitted s) :
    autoRestart s = acceptStart .auto s := by
  simp [autoRestart, he, (failingPermissive_none_iff s).2 h]

/-- An auto restart of AUTO STOPPED that a permissive refuses (R27, R164). -/
theorem autoRestart_of_failing {s : State} {why : Reason} (he : s.rsq.engine = .autoStopped)
    (h : failingPermissive s = some why) :
    autoRestart s =
      (changeEngine .stopped (noteRefusal why s)).mapIru fun i => { iruOff i with restartRefused := true } := by
  simp [autoRestart, he, h]


/-! ### The end of RUNDOWN (R23, R24, R27) -/

theorem comeToRest_eq (s : State) :
    comeToRest s =
      if restState s = .autoStopped ∧ s.rsq.restartPending = true then
        autoRestart ((changeEngine (restState s) s).mapRsq fun r => { r with restartPending := false })
      else (changeEngine (restState s) s).mapRsq fun r => { r with restartPending := false } := rfl

theorem restState_ne_rundown (s : State) : restState s ≠ .rundown := by
  unfold restState
  (repeat' split) <;> simp

/-- At rest, before a restart that is pending is taken. -/
def rested (s : State) : State :=
  (changeEngine (restState s) s).mapRsq fun r => { r with restartPending := false }

theorem rested_rsq (s : State) : (rested s).rsq = { enterState (restState s) s.rsq with restartPending := false } := by
  simp [rested, changeEngine_rsq_of_new s (restState_ne_rundown s)]

theorem rested_spd (s : State) : (rested s).spd = { s.spd with senseLost := false } := by
  simp [rested, changeEngine_spd, restState_atRest]

theorem movesEngine_rested (s : State) : MovesEngine s (rested s) :=
  (movesEngine_changeEngine _ s).trans (movesEngine_mapRsq _ _)

theorem rested_failingPermissive (s : State) : failingPermissive (rested s) = failingPermissive s :=
  (movesEngine_rested s).failingPermissive (by simp [rested_rsq, enterState])

theorem comeToRest_spd (s : State) : (comeToRest s).spd = { s.spd with senseLost := false } := by
  rw [comeToRest_eq]
  split
  · next h =>
    change (autoRestart (rested s)).spd = _
    have he : (rested s).rsq.engine = .autoStopped := by rw [rested_rsq]; exact h.1
    cases hw : failingPermissive (rested s) with
    | none => rw [autoRestart_of_permitted he ((failingPermissive_none_iff _).1 hw), acceptStart_spd, rested_spd]
    | some why =>
      rw [autoRestart_of_failing he hw, State.mapIru_spd, changeEngine_spd]
      simp [noteRefusal, Engine.atRest, rested_spd]
  · exact rested_spd s

/-- An auto stop that comes to rest with a restart pending is restarted where the permissives hold (R24, R27). -/
theorem prelubeEntered_comeToRest {s : State} (hr : s.rsq.restartPending = true) (hn : restState s = .autoStopped)
    (hp : Permitted s) : PrelubeEntered .auto s.rsq s (comeToRest s) := by
  have he : (rested s).rsq.engine = .autoStopped := by rw [rested_rsq]; exact hn
  have hpr : Permitted (rested s) := by
    rwa [← failingPermissive_none_iff, rested_failingPermissive, failingPermissive_none_iff]
  have hc : comeToRest s = acceptStart .auto (rested s) := by
    rw [comeToRest_eq, if_pos ⟨hn, hr⟩, ← autoRestart_of_permitted he hpr]
    rfl
  have hm := movesEngine_rested s
  have hk := acceptStart_entered .auto (rested s)
  have hi : (rested s).iru.fuelOff = s.iru.fuelOff := by simp [rested]
  unfold PrelubeEntered at *
  rw [hc, hk, hm.ins, hm.cfg, hi, rested_rsq, hn]
  simp [enterState, fuelEnableIn]

/-- … and ends in STOPPED where one fails (R27, R164). -/
theorem comeToRest_refused {s : State} {why : Reason} (hr : s.rsq.restartPending = true)
    (hn : restState s = .autoStopped) (hw : failingPermissive s = some why) :
    (comeToRest s).rsq.engine = .stopped ∧ (comeToRest s).rsq.startResult = .refused ∧
      (comeToRest s).rsq.startReason = some why ∧ (comeToRest s).iru.restartRefused = true := by
  have he : (rested s).rsq.engine = .autoStopped := by rw [rested_rsq]; exact hn
  have hc : comeToRest s = autoRestart (rested s) := by
    rw [comeToRest_eq, if_pos ⟨hn, hr⟩]
    rfl
  rw [hc, autoRestart_of_failing he (by rw [rested_failingPermissive, hw])]
  simp [noteRefusal, changeEngine_rsq_of_new _ (show Engine.stopped ≠ .rundown by decide), enterState]

/-! ### The end of UNLOADING (R21, R147) -/

@[simp] theorem withdrawCondition_condition (e : Entry) (p : Pru) :
    ((withdrawCondition e p).entry e).condition = false := by
  simp [withdrawCondition]

/-- Entries 8 and 9 are judged in RUNNING and UNLOADING alone (R80). -/
theorem changeEngine_leave_conditions {new : Engine} {s : State} (ho : s.rsq.engine.runningFamily = true)
    (hn : new.runningFamily = false) :
    ((changeEngine new s).pru.entry 8).condition = false ∧ ((changeEngine new s).pru.entry 9).condition = false := by
  simp [changeEngine_pru, Pru.engineChanged, ho, hn, withdrawCondition_other _ (show (8 : Entry) ≠ 9 by decide)]

/-- The fuel-off of an auto stop is counted and its time kept (R21, R161). -/
def fuelOffNoted (s : State) : State :=
  if s.rsq.stopCause = .autoStop then
    (s.mapRsq fun r =>
      { r with counters := { r.counters with autoStops := satInc 65535 r.counters.autoStops } }).mapIru fun i =>
        { i with fuelOff := if s.rsq.minute = 65535 then none else some s.rsq.minute }
  else s

theorem fuelOff_eq (s : State) : fuelOff s = enterRundown (fuelOffNoted s) := rfl

theorem fuelOffNoted_rsq (s : State) :
    (fuelOffNoted s).rsq =
      { s.rsq with
        counters :=
          if s.rsq.stopCause = .autoStop then
            { s.rsq.counters with autoStops := min 65535 (s.rsq.counters.autoStops + 1) }
          else s.rsq.counters } := by
  unfold fuelOffNoted
  split <;> simp [satInc_eq_min]

theorem fuelOffNoted_fuelOff (s : State) :
    (fuelOffNoted s).iru.fuelOff =
      if s.rsq.stopCause = .autoStop then (if s.rsq.minute = 65535 then none else some s.rsq.minute)
      else s.iru.fuelOff := by
  unfold fuelOffNoted
  split <;> rfl

theorem fuelOffNoted_iru (s : State) : (fuelOffNoted s).iru = { s.iru with fuelOff := (fuelOffNoted s).iru.fuelOff } := by
  unfold fuelOffNoted
  split <;> rfl

theorem fuelOffNoted_blocks (s : State) :
    (fuelOffNoted s).spd = s.spd ∧ (fuelOffNoted s).pru = s.pru ∧ (fuelOffNoted s).ntu = s.ntu ∧
      (fuelOffNoted s).cfg = s.cfg := by
  unfold fuelOffNoted
  split <;> exact ⟨rfl, rfl, rfl, rfl⟩

theorem enterRundown_rsq (s : State) :
    (enterRundown s).rsq =
      { enterState .rundown s.rsq with
        timers := { stoppedTimers with zeroHold := if s.spd.measured = 0 then some 2000 else none }
        restartPending :=
          s.rsq.restartPending || (handsRestart .rundown s && decide (s.rsq.stopCause = .autoStop)) } := by
  simp [enterRundown, changeEngine_rsq, enterState, fuelEnableIn, stoppedTimers]

theorem exec_zeroHoldExpiryRundown {s : State} (he : s.rsq.engine = .rundown)
    (ht : s.rsq.timers.zeroHold.isSome = true) :
    exec .zeroHoldExpiryRundown s = .next (finish s false (comeToRest s)) := by
  change Host.Outcome.next (if _ then _ else _) = _
  rw [if_pos ⟨he, ht⟩]

theorem exec_unloadTimerExpiry {s : State} (he : s.rsq.engine = .unloading) (ht : s.rsq.timers.unload.isSome = true) :
    exec .unloadTimerExpiry s = .next (finish s false (fuelOff s)) := by
  change Host.Outcome.next (if _ then _ else _) = _
  rw [if_pos ⟨he, ht⟩]

/-- The zero hold ends RUNDOWN. -/
theorem rundownEnds {s : State} (hs : Sound s) (he : s.rsq.engine = .rundown) :
    let t := finish s false (comeToRest s)
    Settled t ∧ Unchanged [.ins, .pru, .aut, .links, .cfg] s t ∧ t.spd = { s.spd with senseLost := false } ∧
      (s.rsq.restartPending = false ∨ restState s ≠ .autoStopped →
        t.rsq = { enterState (restState s) s.rsq with restartPending := false }) ∧
      (s.rsq.restartPending = true → restState s = .autoStopped →
        (Permitted s → PrelubeEntered .auto s.rsq s t) ∧
          (¬Permitted s → t.rsq.engine = .stopped ∧ t.rsq.startResult = .refused ∧
            t.rsq.startReason.isSome = true ∧ t.rsq.startReason = failingPermissive s ∧
            t.iru.restartRefused = true)) := by
  have hr : s.rsq.engine.atRest = false := by simp [he, Engine.atRest]
  have hq : Quiet s := hs.quiet (by simp [he, fuelEnableIn]) (by simp [he, Engine.runningFamily])
  obtain ⟨hqt, -⟩ := staysQuiet_comeToRest s hq
  obtain ⟨hset, hun, hrsq, hspd⟩ := quietEvent hs hr hq (movesEngine_comeToRest s) (staysQuiet_comeToRest s) s false
  have hrefused := finish_iru_of (s0 := s) (test := false) judgeIdle_restartRefused hqt.engine_ne
  refine ⟨hset, hun, hspd.trans (comeToRest_spd s), fun h => ?_, fun hp hn => ⟨fun hper => ?_, fun hper => ?_⟩⟩
  · rw [hrsq, comeToRest_eq, if_neg, ← rested_rsq]
    · rfl
    · rintro ⟨hn, hp⟩
      rcases h with h | h
      · simp [hp] at h
      · exact h hn
  · exact hrsq.trans (prelubeEntered_comeToRest hp hn hper)
  · rw [← failingPermissive_none_iff] at hper
    obtain ⟨why, hw⟩ := Option.ne_none_iff_exists'.1 hper
    obtain ⟨h1, h2, h3, h4⟩ := comeToRest_refused hp hn hw
    rw [hrsq, hw, h3]
    exact ⟨h1, h2, rfl, rfl, hrefused.trans h4⟩

/-- Fuel off ends UNLOADING. -/
theorem unloadingEnds {s : State} (hs : Sound s) (he : s.rsq.engine = .unloading) :
    let t := finish s false (fuelOff s)
    Unchanged [.spd, .ins, .aut, .links, .cfg] s t ∧
      t.rsq =
        { enterState .rundown (fuelOffNoted s).rsq with
          timers := { stoppedTimers with zeroHold := if s.spd.measured = 0 then some 2000 else none }
          restartPending := t.rsq.restartPending } ∧
      (s.iru.state ≠ .stopping → t.rsq.restartPending = s.rsq.restartPending) ∧
      t.iru.fuelOff = (fuelOffNoted s).iru.fuelOff ∧ t.ntu.AtRest ∧
      ((t.pru.entry 8).condition = false ∧ (t.pru.entry 9).condition = false) ∧
      ∀ e : Entry, e ≠ 4 → e ≠ 8 → e ≠ 9 → t.pru.entry e = s.pru.entry e := by
  have hr : s.rsq.engine.atRest = false := by simp [he, Engine.atRest]
  have hm := movesEngine_fuelOff s
  obtain ⟨hbs, hbp, hbn, hbc⟩ := fuelOffNoted_blocks s
  have hx := enterRundown_rsq (fuelOffNoted s)
  rw [← fuelOff_eq, hbs] at hx
  have heng : (fuelOff s).rsq.engine = .rundown := by
    rw [hx]
    rfl
  have hne : (fuelOff s).rsq.engine ≠ .unloading := by simp [heng]
  have heno : (fuelOffNoted s).rsq.engine = .unloading := by rw [fuelOffNoted_rsq]; exact he
  have hfam : (fuelOffNoted s).rsq.engine.runningFamily = true := by simp [heno, Engine.runningFamily]
  obtain ⟨hfr, hfs, hfp, -⟩ := finish_of_ne (s0 := s) (test := false) hne
  have hspd : (fuelOff s).spd = s.spd := by
    simp [fuelOff_eq, enterRundown, changeEngine_spd, Engine.atRest, hbs]
  dsimp only
  refine ⟨(hm.unchanged (hs.unclaimed hr) s false).with .spd (hfs.trans hspd), ?_, fun hi => ?_, ?_, ?_, ?_, ?_⟩
  · rw [hfr, hx]
  · have hi' : (fuelOffNoted s).iru.state ≠ .stopping := by rwa [fuelOffNoted_iru]
    rw [hfr, hx, fuelOffNoted_rsq, handsRestart_of_iru _ hi']
    simp
  · rw [finish_iru_of judgeIdle_fuelOff hne]
    simp [fuelOff_eq, enterRundown]
  · refine finish_ntu_atRest (by simp [heng, Engine.runningFamily]) ?_ s false
    obtain ⟨ha, -, hp, hl, hi, -⟩ := changeEngine_ntu_of_leave (new := .rundown) hfam rfl
    exact ⟨ha, hl, hp, hi⟩
  · rw [hfp]
    exact changeEngine_leave_conditions (new := .rundown) hfam rfl
  · intro e h4 h8 h9
    rw [hfp]
    exact hm.entry e h4 h8 h9

/-- Settles O42: the two ends, each of an engine that is moving when it begins. -/
theorem rundownAndUnloadEnd : Obligations.RundownAndUnloadEnd := by
  intro s hs
  refine ⟨fun he ht => ⟨_, exec_zeroHoldExpiryRundown he ht, rundownEnds hs he⟩,
    fun he ht => ⟨_, exec_unloadTimerExpiry he ht, settled_finish _ _ _, ?_⟩⟩
  have h := unloadingEnds hs he
  rw [fuelOffNoted_rsq, fuelOffNoted_fuelOff] at h
  exact h

end Sys2Proof.Machine
end

section
/-! SUPPORT. The holder's DEMAND, its START and its STOP (R4 to R7, R19, R20, R22, R24, R110). -/

namespace Sys2Proof.Machine

/-! ### The end of an event, once more -/

/-- The end of an event reads of the state it began in only E, the engine state and LOW IDLE. -/
theorem settle_origin {s0 s1 : State} (hn : s0.ntu = s1.ntu) (hr : s0.rsq = s1.rsq) (test : Bool) (s : State) :
    settle s0 test s = settle s1 test s := by
  have hd : ∀ x, stepDue s0 x = stepDue s1 x := fun x => by simp only [stepDue, hn, hr]
  simp only [settle, hd]

theorem le_stepChannel_applied (s : State) : s.ntu.applied ≤ (stepChannel s).ntu.applied + 1 := by
  unfold stepChannel
  dsimp only
  (repeat' split) <;> simp <;> omega

/-- With two notches to go, the unloading is not complete in this event (R145, R148). -/
theorem settle_rsq_of_applied {s : State} (h : 2 ≤ s.ntu.applied) (s0 : State) (test : Bool) :
    (settle s0 test s).rsq = s.rsq := by
  obtain ⟨x, hx, hc⟩ := settle_form s0 test s
  have hxa : 1 ≤ x.ntu.applied ∧ x.rsq = s.rsq := by
    rcases hc with rfl | rfl
    · exact ⟨by omega, rfl⟩
    · have := le_stepChannel_applied (settleInputs s)
      rw [settleInputs_applied] at this
      exact ⟨by omega, by simp⟩
  obtain ⟨ha, hr⟩ := hxa
  rw [hx]
  unfold reportUnload
  rw [if_neg]
  · simp [hr]
  · rintro ⟨-, h0, -, -⟩
    simp only [refreshGovernor_applied, settleInputs_applied] at h0
    omega

/-! ### The holder's DEMAND (R110) -/

/-- A source's entry after a DEMAND of the holder within or beyond its envelope (R109, R110). -/
def FramedSource.demanded (notch maxNotch : Nat) (run : RunRequest) (f : FramedSource) : FramedSource :=
  { f with demand := min notch maxNotch, run := run, limited := decide (maxNotch < notch), fresh := true }

/-- The state in which the holder's DEMAND reaches RSQ and IRU. -/
def demanded (l : Link) (notch maxNotch : Nat) (run : RunRequest) (s : State) : State :=
  (dequeued l s).mapSource l (FramedSource.demanded notch maxNotch run)

theorem maxNotch_of_envelope {f : FramedSource} {e : Envelope} (h : f.envelope = some e) : f.maxNotch = e.maxNotch := by
  simp [FramedSource.maxNotch, h]

theorem setSource_setSource (a : Aut) (l : Link) (f g : FramedSource) :
    (a.setSource l f).setSource l g = a.setSource l g := by
  cases l <;> rfl

theorem demanded_eq {l : Link} {s : State} {m : Nat} (hm : (s.aut.source l).maxNotch = m) (notch : Nat)
    (run : RunRequest) :
    (((dequeued l s).mapSource l (FramedSource.recorded notch run)).mapSource l fun f => { f with fresh := true }) =
      demanded l notch m run s := by
  simp [demanded, State.mapSource, State.mapAut, setSource_setSource, FramedSource.recorded, FramedSource.demanded, hm]

theorem demanded_source (l : Link) (notch maxNotch : Nat) (run : RunRequest) (s : State) :
    (demanded l notch maxNotch run s).aut.source l = (s.aut.source l).demanded notch maxNotch run := by
  simp [demanded]

theorem demanded_aut (l : Link) (notch maxNotch : Nat) (run : RunRequest) (s : State) :
    (demanded l notch maxNotch run s).aut = s.aut.setSource l ((s.aut.source l).demanded notch maxNotch run) := rfl

theorem demanded_claimedBy (l : Link) (notch maxNotch : Nat) (run : RunRequest) (s : State) (k : Link) :
    (demanded l notch maxNotch run s).aut.claimedBy k = s.aut.claimedBy k := by
  simp [demanded_aut, Aut.claimedBy]

theorem demanded_failingPermissive (l : Link) (notch maxNotch : Nat) (run : RunRequest) (s : State) :
    failingPermissive (demanded l notch maxNotch run s) = failingPermissive s :=
  failingPermissive_congr rfl rfl (by simp [demanded_aut]) rfl rfl

theorem knownKind_demand : knownKind kindDemand = true := by decide

theorem serviceKind_demand : serviceKind kindDemand = false := by decide

/-- The holder's DEMAND: it is recorded, RSQ takes the run request and IRU the arrival, and the end of the event follows. -/
theorem exec_demand_of_holder {l : Link} {seq notch code : Byte} {run : RunRequest} {m : Nat} {s : State}
    (h : Ready l ⟨kindDemand, seq, [notch, code]⟩ s) (hl : s.aut.holds l = true) (hn : notch.toNat ≤ 8)
    (hrun : runOperand code = some run) (hm : (s.aut.source l).maxNotch = m) :
    let u := demanded l notch.toNat m run s
    let r := runRequest l run u
    let v := settle s false (demandArrival (min notch.toNat m) run r.1)
    exec (.demand l seq [notch, code]) s = .next (conclude l ⟨kindDemand, seq, [notch, code]⟩
      (match r.2 with
        | some (result, reason) => answer result [byte (min notch.toNat m), byte reason] v
        | none =>
          answer (if m < notch.toNat then .doneLimited else .done) [byte (min notch.toNat m), 0]
            v)) := by
  intro u r v
  have hop : demandOperand [notch, code] = some (notch.toNat, run) := by simp [demandOperand, hn, hrun]
  have hx : exec (.demand l seq [notch, code]) s =
      .next (conclude l ⟨kindDemand, seq, [notch, code]⟩ (ownerDemand l [notch, code] (dequeued l s))) :=
    congrArg Host.Outcome.next
      (request_of_ready _ h knownKind_demand (by simp [serviceKind_demand]))
  have hu : u.aut.source l = (s.aut.source l).demanded notch.toNat m run := demanded_source _ _ _ _ _
  have ho : ownerDemand l [notch, code] (dequeued l s) =
      (match r.2 with
        | some (result, reason) => answer result [byte (min notch.toNat m), byte reason] v
        | none =>
          answer (if m < notch.toNat then .doneLimited else .done) [byte (min notch.toNat m), 0]
            v) := by
    unfold ownerDemand
    rw [hop]
    dsimp only
    rw [if_pos (by simpa using hl)]
    unfold holderDemandEvent
    rw [demanded_eq hm]
    dsimp only
    rw [settle_origin (s0 := (dequeued l s).mapSource l (FramedSource.recorded notch.toNat run)) (s1 := s) rfl rfl, hu]
    simp only [FramedSource.demanded, decide_eq_true_eq]
    rfl
  rw [hx, ho]


/-! ### The holder's STOP (R19, R20, R22, R24, R27) -/

theorem demandArrival_stop (notch : Nat) (s : State) : demandArrival notch .stop s = s := by
  unfold demandArrival
  cases s.iru.state <;> simp [asksForEngine]

theorem restEngine_ne_unloading (s : State) : restEngine s ≠ .unloading := by
  rcases restEngine_cases s with h | h
  · simp [h]
  · intro w
    simp [w, Engine.atRest] at h

/-- A start in progress that the holder stops, on its way to rest. -/
def stoppedStart (s : State) : State :=
  (setStopCause .command (cutAttempt .command s)).mapRsq fun r => { r with startResult := .stoppedByCommand }

theorem stoppedStart_rsq (s : State) :
    (stoppedStart s).rsq =
      { (cutAttempt .command s).rsq with startResult := .stoppedByCommand, stopCause := .command } := by
  simp [stoppedStart, setStopCause_rsq]

theorem stoppedStart_spd (s : State) : (stoppedStart s).spd = s.spd := by simp [stoppedStart]

theorem stoppedStart_pru (s : State) : (stoppedStart s).pru = s.pru := by simp [stoppedStart]

theorem holderStop_of_starting {s : State} (h : s.rsq.engine.starting = true) :
    holderStop s = toRest (stoppedStart s) := by
  unfold holderStop
  cases he : s.rsq.engine <;> simp only [he, Engine.starting, Bool.false_eq_true] at h ⊢ <;> rfl

/-- A start in progress that the holder stops goes to rest by R3 (R19). -/
theorem settle_holderStop_of_starting {s : State} (h : s.rsq.engine.starting = true) (s0 : State) (test : Bool) :
    (settle s0 test (holderStop s)).rsq =
      { enterState (restEngine s)
          { (cutAttempt .command s).rsq with startResult := .stoppedByCommand, stopCause := .command } with
        timers := stoppedTimers
        restartPending := (cutAttempt .command s).rsq.restartPending && decide (0 < s.spd.measured) } := by
  have hc : (stoppedStart s).rsq.stopCause ≠ .autoStop := by simp [stoppedStart_rsq]
  have hr : restEngine (stoppedStart s) = restEngine s :=
    restEngine_congr (by rw [stoppedStart_spd]) (by rw [stoppedStart_pru])
  have hrsq := toRest_rsq hc
  have hne : (toRest (stoppedStart s)).rsq.engine ≠ .unloading := by
    rw [hrsq]
    exact restEngine_ne_unloading _
  obtain ⟨hsr, -⟩ := settle_of_ne (s0 := s0) (test := test) hne
  rw [holderStop_of_starting h, hsr, hrsq, hr, stoppedStart_spd, stoppedStart_rsq]

theorem cutAttempt_of_idle (o : CrankOutcome) {s : State} (hc : s.rsq.engine ≠ .cranking)
    (ha : s.rsq.engine ≠ .accelerating) : cutAttempt o s = s := by
  unfold cutAttempt
  split
  · next h => exact absurd h hc
  · next h => exact absurd h ha
  · rfl

theorem cutAttempt_of_cranking {o : CrankOutcome} (ho : o ≠ .fired) {s : State} {older : List CrankRecord}
    {r : CrankRecord} (he : s.rsq.engine = .cranking) (hh : s.rsq.history = older ++ [r]) (hi : r.isOpen = true)
    (hp : r.outcome = .inProgress) : (cutAttempt o s).rsq = s.rsq.attemptEnded older r o r.duration := by
  simp only [cutAttempt, he, State.mapRsq_rsq, hh, elapsedCranking_append older hi hp]
  exact writeAttempt_eq hh ho _

theorem cutAttempt_of_accelerating (o : CrankOutcome) {s : State} {older : List CrankRecord} {r : CrankRecord}
    (he : s.rsq.engine = .accelerating) (hh : s.rsq.history = older ++ [r]) :
    (cutAttempt o s).rsq = { s.rsq with history := older ++ [{ r with outcome := o, isOpen := false }] } := by
  have hc : cutAttempt o s = s.mapRsq (closeFired o) := by simp [cutAttempt, he]
  rw [hc, State.mapRsq_rsq, closeFired_eq hh o]

theorem beginUnloading_rsq (c : StopCause) (s : State) :
    (beginUnloading c s).rsq =
      { enterState .unloading { s.rsq with stopCause := c } with
        timers :=
          { stoppedTimers with
            lubeArming := s.rsq.timers.lubeArming, unload := some (tenthsMs s.cfg.active.unloadLimit) } } := by
  simp [beginUnloading, changeEngine_rsq_of_new _ (show Engine.unloading ≠ .rundown by decide), setStopCause_rsq,
    enterState, fuelEnableIn, stoppedTimers]

theorem beginUnloading_applied {c : StopCause} {s : State} (he : s.rsq.engine = .running) :
    (beginUnloading c s).ntu.applied = s.ntu.applied := by
  simp only [beginUnloading, State.mapTimers_ntu]
  rw [changeEngine_ntu]
  simp [Ntu.engineChanged, he, setStopCause_rsq, Engine.runningFamily]

/-- In RUNNING and UNLOADING, with two notches to go, a STOP leaves the engine in UNLOADING (R20, R22). -/
theorem settle_holderStop_of_running {s : State} (he : s.rsq.engine = .running) (h : 2 ≤ s.ntu.applied) (s0 : State)
    (test : Bool) : (settle s0 test (holderStop s)).rsq = (beginUnloading .command s).rsq := by
  have hs : holderStop s = beginUnloading .command s := by simp [holderStop, he]
  rw [hs, settle_rsq_of_applied (by rwa [beginUnloading_applied he])]

theorem settle_holderStop_of_unloading {s : State} (he : s.rsq.engine = .unloading) (h : 2 ≤ s.ntu.applied)
    (s0 : State) (test : Bool) : (settle s0 test (holderStop s)).rsq = { s.rsq with stopCause := .command } := by
  have hs : holderStop s = setStopCause .command s := by simp [holderStop, he]
  rw [hs, settle_rsq_of_applied (by rwa [setStopCause_ntu]), setStopCause_rsq]

theorem settle_holderStop_of_rundown {s : State} (he : s.rsq.engine = .rundown) (s0 : State) (test : Bool) :
    (settle s0 test (holderStop s)).rsq =
      { s.rsq with
        restartPending := false
        stopCause := if s.rsq.stopCause = .autoStop then .command else s.rsq.stopCause } := by
  have hr : (holderStop s).rsq =
      { s.rsq with
        restartPending := false
        stopCause := if s.rsq.stopCause = .autoStop then .command else s.rsq.stopCause } := by
    unfold holderStop
    rw [he]
    dsimp only
    split
    · simp [setStopCause_rsq]
    · rfl
  rw [(settle_of_ne (by simp [hr, he])).1, hr]

theorem settle_holderStop_of_autoStopped {s : State} (he : s.rsq.engine = .autoStopped) (s0 : State) (test : Bool) :
    (settle s0 test (holderStop s)).rsq = { enterState .stopped s.rsq with stopCause := .none } := by
  have hr : (holderStop s).rsq = { enterState .stopped s.rsq with stopCause := .none } := by
    simp [holderStop, he, changeEngine_rsq_of_new s (show Engine.stopped ≠ .rundown by decide)]
  rw [(settle_of_ne (by simp [hr, enterState])).1, hr]

/-- AUT keeps its own counsel at a STOP: no handover to SERVICE is in flight, or the engine stays at rest. -/
theorem settle_holderStop_aut {s : State} (h : s.rsq.engine.atRest = false → s.aut.claimedBy .service = false)
    (s0 : State) (test : Bool) : (settle s0 test (holderStop s)).aut = s.aut := by
  cases hr : s.rsq.engine.atRest
  · exact ((movesEngine_holderStop s).trans (movesEngine_settle s0 test _)).aut (h hr)
  · have hk : (holderStop s).aut = s.aut ∧ (holderStop s).rsq.engine.atRest = true := by
      unfold holderStop
      cases he : s.rsq.engine <;> simp only [he, Engine.atRest, Bool.false_eq_true] at hr ⊢
      case autoStopped => simp [changeEngine_aut_of_rest s (show Engine.stopped.atRest = true by rfl)]
      all_goals exact ⟨trivial, trivial⟩
    obtain ⟨ha, hre⟩ := hk
    rw [(settle_of_ne fun w => by simp [w, Engine.atRest] at hre).2.2.2, ha]

/-- A reply touches its own link alone. -/
theorem agreesOn_conclude {b : Block} {s v : State} (h : AgreesOn s v b) (l : Link) (f : Frame) (r : Result)
    (p : List Byte) (hb : b ≠ .links := by decide) : AgreesOn s (conclude l f (answer r p v)) b := by
  cases b
  case links => exact absurd rfl hb
  all_goals exact h

/-- Settles O29: the STOP, whatever the engine state, is one of RSQ's own operations. -/
theorem aHolderStopIsObeyedByTheEngineState : Obligations.AHolderStopIsObeyedByTheEngineState := by
  intro l seq notch e s hready hl hn he hmay hs
  dsimp only
  have hx := exec_demand_of_holder (run := .stop) hready hl hn rfl (maxNotch_of_envelope he)
  have hms : ((demanded l notch.toNat e.maxNotch .stop s).aut.source l).mayStop = true := by
    simp [demanded_source, FramedSource.mayStop, FramedSource.demanded, he, hmay]
  simp only [runRequest, hms, if_true, demandArrival_stop] at hx
  generalize hu : demanded l notch.toNat e.maxNotch .stop s = u at hx
  have hrsq : u.rsq = s.rsq := by rw [← hu]; rfl
  have hntu : u.ntu = s.ntu := by rw [← hu]; rfl
  have hrest : restEngine u = restEngine s := by rw [← hu]; rfl
  have hm : MovesEngine u (settle s false (holderStop u)) :=
    (movesEngine_holderStop u).trans (movesEngine_settle _ _ _)
  have hlinks : (settle s false (holderStop u)).links = (dequeued l s).links := hm.links.trans (by rw [← hu]; rfl)
  have haut : (settle s false (holderStop u)).aut = u.aut := by
    refine settle_holderStop_aut (fun hr => ?_) _ _
    rw [← hu, demanded_claimedBy]
    exact hs.unclaimed (by rwa [hrsq] at hr)
  have hcfg : u.cfg = s.cfg := by rw [← hu]; rfl
  have hins : AgreesOn s (settle s false (holderStop u)) .ins := hm.ins.trans (by rw [← hu]; rfl)
  have hcf : AgreesOn s (settle s false (holderStop u)) .cfg := hm.cfg.trans hcfg
  have hpend : (settle s false (holderStop u)).pending = s.pending := hm.pending.trans (by rw [← hu]; rfl)
  have hspd : u.spd = s.spd := by rw [← hu]; rfl
  have hpru : u.pru = s.pru := by rw [← hu]; rfl
  refine ⟨_, hx, settled_conclude _ _ _ _ _ _ _, ?_, replied_conclude hlinks, ?_, ?_, ?_, ?_, ?_, ?_, ?_, ?_, ?_, ?_, ?_⟩
  · exact unchanged_cons (agreesOn_conclude hins _ _ _ _) (unchanged_cons (agreesOn_conclude hcf _ _ _ _)
      (unchanged_nil hpend))
  all_goals simp only [conclude_answer_rsq, conclude_answer_spd, conclude_answer_pru, conclude_answer_aut]
  · rw [hm.spd, hspd]
  · exact fun k h4 h8 h9 => (hm.entry k h4 h8 h9).trans (by rw [hpru])
  · rw [haut, ← hu, demanded_aut]
    rfl
  · intro heng
    rw [settle_holderStop_of_starting (by rw [hrsq]; rcases heng with h | h | h <;> simp [h, Engine.starting]),
      cutAttempt_of_idle, hrest, hrsq, hspd]
    · rfl
    · rw [hrsq]; rcases heng with h | h | h <;> simp [h]
    · rw [hrsq]; rcases heng with h | h | h <;> simp [h]
  · intro older r hh heng ho hp
    rw [settle_holderStop_of_starting (by rw [hrsq]; simp [heng, Engine.starting]),
      cutAttempt_of_cranking (by decide) (by rwa [hrsq]) (by rwa [hrsq]) ho hp, hrest, hrsq, hspd]
    rfl
  · intro older r hh heng
    rw [settle_holderStop_of_starting (by rw [hrsq]; simp [heng, Engine.starting]),
      cutAttempt_of_accelerating _ (by rwa [hrsq]) (by rwa [hrsq]), hrest, hrsq, hspd]
    rfl
  · intro heng h2
    rw [settle_holderStop_of_running (by rwa [hrsq]) (by rwa [hntu]), beginUnloading_rsq, hrsq, hcfg]
  · intro heng h2
    rw [settle_holderStop_of_unloading (by rwa [hrsq]) (by rwa [hntu]), hrsq]
  · intro heng
    rw [settle_holderStop_of_rundown (by rwa [hrsq]), hrsq]
  · intro heng
    rw [settle_holderStop_of_autoStopped (by rwa [hrsq]), hrsq]
  · intro heng
    have hk : holderStop u = u := by
      unfold holderStop
      rcases heng with h | h <;> simp [hrsq, h]
    rw [hk, (settle_of_ne (by rw [hrsq]; rcases heng with h | h <;> simp [h])).1, hrsq]


/-! ### The holder's START (R4 to R7, R22, R24) -/

/-- A START reaches IRU only in STOPPING (R159 to R163). -/
theorem demandArrival_start (notch : Nat) {s : State} (h : s.iru.state ≠ .stopping) :
    demandArrival notch .start s = s := by
  unfold demandArrival
  cases hs : s.iru.state <;> simp [hs] at h ⊢

/-- The engine states in which a START is tested. -/
def startsFrom (e : Engine) : Bool := decide (e = .stopped) || decide (e = .autoStopped)

/-- What RSQ answers to a START (R4, R5, R22, R24). -/
def startAnswer (s : State) : Option Reason :=
  if startsFrom s.rsq.engine = true then failingPermissive s
  else if s.rsq.engine = .unloading then none
  else some .engineState

theorem holderStart_refused {s : State} {why : Reason} (h : startAnswer s = some why) :
    holderStart s = (if startsFrom s.rsq.engine = true then noteRefusal why s else s, some why) ∧
      s.rsq.engine ≠ .unloading := by
  unfold startAnswer at h
  unfold holderStart
  cases he : s.rsq.engine <;> simp [he, startsFrom] at h ⊢
  case stopped | autoStopped => simp [h]
  all_goals exact h

theorem holderStart_accepted {s : State} (h : startAnswer s = none) (hf : startsFrom s.rsq.engine = true) :
    holderStart s = (acceptStart .commanded s, none) := by
  rw [startAnswer, if_pos hf] at h
  unfold holderStart
  cases he : s.rsq.engine <;> simp [he, startsFrom] at hf ⊢ <;> simp [h]

theorem holderStart_of_unloading {s : State} (he : s.rsq.engine = .unloading) : holderStart s = (cancelStop s, none) := by
  simp [holderStart, he]

theorem startAnswer_none {s : State} (h : startAnswer s = none) :
    startsFrom s.rsq.engine = true ∨ s.rsq.engine = .unloading := by
  unfold startAnswer at h
  split at h
  · next hf => exact .inl hf
  · split at h
    · next hu => exact .inr hu
    · simp at h

theorem runRequest_start {l : Link} {s : State} (h : (s.aut.source l).mayStart = true) :
    runRequest l .start s = ((holderStart s).1, (holderStart s).2.map fun why => (.refusedState, why.code)) := by
  simp only [runRequest, h, if_true]
  cases hs : holderStart s with
  | mk s1 o => cases o <;> rfl

/-- A state of the engine that neither STOPPING nor WATCH goes with takes them from IRU (R161, R163). -/
theorem changeEngine_iru_state {new : Engine} (hn : new = .prelube ∨ new = .running) (s : State) :
    (changeEngine new s).iru.state ≠ .stopping ∧ (changeEngine new s).iru.state ≠ .watch := by
  rw [changeEngine_iru]
  unfold Iru.engineChanged
  rcases hn with rfl | rfl <;> cases hs : s.iru.state <;> simp [hs, iruOff]

theorem acceptStart_iru_state (k : StartKind) (s : State) : (acceptStart k s).iru.state ≠ .stopping := by
  have := (changeEngine_iru_state (new := .prelube) (.inl rfl)
    ((s.mapRsq fun r =>
      { r with
        startKind := k, cold := decide (s.ins.coolant.given < 0), attempt := 1, startResult := .inProgress
        startReason := none, stopCause := .none, restartPending := false
        counters :=
          { r.counters with
            startsRequested := satInc 65535 r.counters.startsRequested
            autoRestarts :=
              if k = .auto then satInc 65535 r.counters.autoRestarts else r.counters.autoRestarts } }).mapIru fun i =>
        { i with restartRefused := false })).1
  exact this

theorem cancelStop_rsq (s : State) : (cancelStop s).rsq = { enterState .running s.rsq with stopCause := .none } := by
  simp [cancelStop, changeEngine_rsq_of_new s (show Engine.running ≠ .rundown by decide)]

/-- Back from UNLOADING to RUNNING, PRU hears nothing (R80, R81). -/
theorem cancelStop_pru {s : State} (hb : BellLaw s) (he : s.rsq.engine = .unloading) : (cancelStop s).pru = s.pru :=
  changeEngine_pru_of_quiet (new := .running) hb (.inr rfl) (fun _ => rfl) fun _ => by simp [he, Engine.runningFamily]

/-- AUT at an accepted start: a handover to SERVICE ends (R132). -/
theorem acceptStart_aut (k : StartKind) (s : State) :
    (acceptStart k s).aut =
      if s.aut.claimedBy .service = true then s.aut.ended .service .refused else s.aut := by
  simp [acceptStart, enterPrelube, changeEngine_aut, Engine.atRest]

/-- The end of an event leaves alone what a reply's event is asked about, outside UNLOADING. -/
theorem unchanged_conclude_settle {s x : State} (hne : x.rsq.engine ≠ .unloading) (hspd : x.spd = s.spd)
    (hpru : x.pru = s.pru) (hins : x.ins = s.ins) (hcfg : x.cfg = s.cfg) (hp : x.pending = s.pending) (s0 : State)
    (test : Bool) (l : Link) (f : Frame) (r : Result) (p : List Byte) :
    Unchanged [.spd, .ins, .pru, .cfg] s (conclude l f (answer r p (settle s0 test x))) := by
  obtain ⟨-, hs, hq, -⟩ := settle_of_ne (s0 := s0) (test := test) hne
  have h1 : AgreesOn s (settle s0 test x) .spd := hs.trans hspd
  have h2 : AgreesOn s (settle s0 test x) .ins := (settle_ins s0 test x).trans hins
  have h3 : AgreesOn s (settle s0 test x) .pru := hq.trans hpru
  have h4 : AgreesOn s (settle s0 test x) .cfg := (settle_cfg s0 test x).trans hcfg
  have h5 : (settle s0 test x).pending = s.pending := (settle_pending s0 test x).trans hp
  exact unchanged_cons (agreesOn_conclude h1 _ _ _ _) (unchanged_cons (agreesOn_conclude h2 _ _ _ _)
    (unchanged_cons (agreesOn_conclude h3 _ _ _ _) (unchanged_cons (agreesOn_conclude h4 _ _ _ _) (unchanged_nil h5))))

/-- Settles O28: the START is refused with its reason, begins a start, or cancels the stop. -/
theorem aHolderStartIsAcceptedOrRefused : Obligations.AHolderStartIsAcceptedOrRefused := by
  intro l seq notch e s hready hl hn he hmay hs
  dsimp only
  have hx := exec_demand_of_holder (run := .start) hready hl hn rfl (maxNotch_of_envelope he)
  have hms : ((demanded l notch.toNat e.maxNotch .start s).aut.source l).mayStart = true := by
    simp [demanded_source, FramedSource.mayStart, FramedSource.demanded, he, hmay]
  simp only [runRequest_start hms] at hx
  generalize hwhy : (if (decide (s.rsq.engine = .stopped) || decide (s.rsq.engine = .autoStopped)) = true then _
    else _ : Option Reason) = why
  have hfp := demanded_failingPermissive l notch.toNat e.maxNotch .start s
  have hclaim := demanded_claimedBy l notch.toNat e.maxNotch .start s .service
  have haut : (demanded l notch.toNat e.maxNotch .start s).aut =
      s.aut.setSource l { s.aut.source l with demand := min notch.toNat e.maxNotch, run := .start
                                              limited := decide (e.maxNotch < notch.toNat), fresh := true } := rfl
  generalize hu : demanded l notch.toNat e.maxNotch .start s = u at hx hfp hclaim haut
  have hrsq : u.rsq = s.rsq := by rw [← hu]; rfl
  have hspd : u.spd = s.spd := by rw [← hu]; rfl
  have hpru : u.pru = s.pru := by rw [← hu]; rfl
  have hins : u.ins = s.ins := by rw [← hu]; rfl
  have hcfg : u.cfg = s.cfg := by rw [← hu]; rfl
  have hiru : u.iru = s.iru := by rw [← hu]; rfl
  have hpend : u.pending = s.pending := by rw [← hu]; rfl
  have hlinks : u.links = (dequeued l s).links := by rw [← hu]; rfl
  have hans : startAnswer u = why := by
    rw [startAnswer, hfp, hrsq]
    exact hwhy
  have hat : (decide (s.rsq.engine = .stopped) || decide (s.rsq.engine = .autoStopped)) = startsFrom u.rsq.engine := by
    rw [hrsq]
    rfl
  rw [hat]
  clear hwhy hat
  cases why with
  | some r =>
    obtain ⟨hst, hne⟩ := holderStart_refused hans
    rw [hst] at hx
    dsimp only [Option.map_some] at hx
    generalize hxs : (if startsFrom u.rsq.engine = true then noteRefusal r u else u) = x at hx
    have hxr : x.rsq = if startsFrom u.rsq.engine = true then
        { s.rsq with startResult := .refused, startReason := some r } else s.rsq := by
      rw [← hxs, ← hrsq]
      split <;> rfl
    have hxo : x.rsq.engine = u.rsq.engine ∧ x.spd = u.spd ∧ x.pru = u.pru ∧ x.ins = u.ins ∧ x.cfg = u.cfg ∧
        x.iru = u.iru ∧ x.aut = u.aut ∧ x.links = u.links ∧ x.pending = u.pending := by
      rw [← hxs]
      split <;> exact ⟨rfl, rfl, rfl, rfl, rfl, rfl, rfl, rfl, rfl⟩
    obtain ⟨hxe, hx1, hx2, hx3, hx4, hx5, hx6, hx7, hx8⟩ := hxo
    have hxne : x.rsq.engine ≠ .unloading := by rwa [hxe]
    refine ⟨_, hx, settled_conclude _ _ _ _ _ _ _, fun r' hr' => ?_, fun w => by simp at w⟩
    cases hr'
    refine ⟨replied_conclude ?_, fun hi => ?_⟩
    · have hm := (movesEngine_demandArrival (min notch.toNat e.maxNotch) .start x).trans (movesEngine_settle s false _)
      exact hm.links.trans (hx7.trans hlinks)
    · rw [demandArrival_start _ (by rwa [hx5, hiru])]
      obtain ⟨hsr, -, -, hsa⟩ := settle_of_ne (s0 := s) (test := false) hxne
      refine ⟨unchanged_conclude_settle hxne (hx1.trans hspd) (hx2.trans hpru) (hx3.trans hins) (hx4.trans hcfg)
        (hx8.trans hpend) _ _ _ _ _ _, ?_, ?_⟩
      · rw [conclude_answer_aut, hsa, hx6, haut]
      · rw [conclude_answer_rsq, hsr, hxr]
  | none =>
    by_cases hf : startsFrom u.rsq.engine = true
    · rw [holderStart_accepted hans hf] at hx
      dsimp only [Option.map_none] at hx
      rw [demandArrival_start _ (acceptStart_iru_state _ _)] at hx
      have hrest : s.rsq.engine = .stopped ∨ s.rsq.engine = .autoStopped := by
        rw [hrsq] at hf
        simpa [startsFrom] using hf
      have hq : Quiet s := hs.quiet (by rcases hrest with h | h <;> simp [h, fuelEnableIn])
        (by rcases hrest with h | h <;> simp [h, Engine.runningFamily])
      have hqu : Quiet u := ((StaysQuiet.of_eq hpru (by rw [hrsq]) (by rw [hrsq]) : StaysQuiet s u) hq).1
      obtain ⟨hqt, hpt⟩ := staysQuiet_acceptStart .commanded u hqu
      obtain ⟨hsr, -, -, hsa⟩ := settle_of_ne (s0 := s) (test := false) hqt.engine_ne
      have hm := movesEngine_acceptStart .commanded u
      refine ⟨_, hx, settled_conclude _ _ _ _ _ _ _, fun r' hr' => by simp at hr', fun _ => ⟨replied_conclude ?_, ?_,
        fun _ => ⟨?_, ?_, ?_⟩, fun w => ?_⟩⟩
      · exact (hm.trans (movesEngine_settle s false _)).links.trans hlinks
      · exact unchanged_conclude_settle hqt.engine_ne ((acceptStart_spd _ u).trans hspd) (hpt.trans hpru)
          (hm.ins.trans hins) (hm.cfg.trans hcfg) (hm.pending.trans hpend) _ _ _ _ _ _
      · have hk := acceptStart_entered .commanded u
        unfold PrelubeEntered at hk ⊢
        rw [conclude_answer_rsq, hsr, hk, hrsq, hins, hcfg, hiru]
      · rw [conclude_answer_iru]
        exact (finish_iru_of judgeIdle_restartRefused hqt.engine_ne).trans (acceptStart_restartRefused _ _)
      · rw [conclude_answer_aut, hsa, acceptStart_aut, haut]
      · rcases hrest with h | h <;> simp [h] at w
    · have hun : u.rsq.engine = .unloading := (startAnswer_none hans).resolve_left hf
      rw [holderStart_of_unloading hun] at hx
      dsimp only [Option.map_none] at hx
      have hne : (cancelStop u).rsq.engine ≠ .unloading := by simp [cancelStop_rsq, enterState]
      rw [demandArrival_start (s := cancelStop u) _ (changeEngine_iru_state (.inr rfl) u).1] at hx
      have hb : BellLaw u := by
        obtain ⟨-, -, hb, -⟩ := hs
        simpa only [BellLaw, hpru] using hb
      have hs1 : (cancelStop u).spd = u.spd := by simp [cancelStop, changeEngine_spd, Engine.atRest]
      have hm := movesEngine_cancelStop u
      obtain ⟨hsr, -, -, hsa⟩ := settle_of_ne (s0 := s) (test := false) hne
      refine ⟨_, hx, settled_conclude _ _ _ _ _ _ _, fun r' hr' => by simp at hr', fun _ => ⟨replied_conclude ?_, ?_,
        fun w => absurd w hf, fun w => ⟨?_, ?_⟩⟩⟩
      · exact (hm.trans (movesEngine_settle s false _)).links.trans hlinks
      · exact unchanged_conclude_settle hne (hs1.trans hspd) ((cancelStop_pru hb hun).trans hpru)
          (hm.ins.trans hins) (hm.cfg.trans hcfg) (hm.pending.trans hpend) _ _ _ _ _ _
      · rw [conclude_answer_rsq, hsr, cancelStop_rsq, hrsq]
      · have hc : u.aut.claimedBy .service = false := by
          rw [hclaim]
          exact hs.unclaimed (by simp [w, Engine.atRest])
        rw [conclude_answer_aut, hsa, hm.aut hc, haut]

end Sys2Proof.Machine
end

section
/-! SUPPORT. A SHUTDOWN entry entering service, and the filter that expires (R25, R75, R77, R78, R84). -/

namespace Sys2Proof.Machine

/-! ### The condition that becomes true (R75, R78) -/

/-- An entry's record after its condition, false so far, has become true (R75, R77, R78). -/
def EntryRec.afterTrue (r : EntryRec) : EntryRec :=
  { r with
    condition := true, filter := none
    state :=
      match r.state with
      | .idle => if r.masked = true then .pending else .active
      | .held => .active
      | other => other
    tripCount := if r.state = .idle ∧ r.masked = false then min 65535 (r.tripCount + 1) else r.tripCount
    acknowledged := if r.state = .idle ∧ r.masked = false then false else r.acknowledged }

theorem setCondition_true {e : Entry} {p : Pru} (h : (p.entry e).condition = false) :
    setCondition e true p = p.setEntry e (p.entry e).afterTrue := by
  unfold setCondition EntryRec.withCondition EntryRec.afterTrue
  rw [if_neg (by simp [h])]
  cases hs : (p.entry e).state <;> cases hm : (p.entry e).masked <;>
    simp_all [EntryRec.entered, satInc_eq_min]

theorem afterTrue_inService {r : EntryRec} (hs : r.state = .idle) (hm : r.masked = false) :
    r.afterTrue.inService = true := by
  simp [EntryRec.afterTrue, EntryRec.inService, hs, hm]

/-! ### A SHUTDOWN that takes the engine to rest (R25, R3) -/

/-- A start or a run that a SHUTDOWN has cut off, on its way to rest. -/
def cutOff (s : State) : State := stopByProtection (noteProtection (cutAttempt .protection s))

/-- The stop cause that R25 gives. -/
def protectionCause (c : StopCause) : StopCause := if c = .startFailure then .startFailure else .protection

/-- The start result that R25 gives. -/
def protectionResult (x : Rsq) : StartResult :=
  if x.engine.starting = true ∧ x.startResult = .inProgress then .stoppedByProtection else x.startResult

theorem cutAttempt_keeps (o : CrankOutcome) (s : State) :
    (cutAttempt o s).rsq.startResult = s.rsq.startResult ∧ (cutAttempt o s).rsq.stopCause = s.rsq.stopCause := by
  unfold cutAttempt
  split <;> exact ⟨rfl, rfl⟩

theorem noteProtection_rsq (s : State) :
    (noteProtection s).rsq = { s.rsq with startResult := protectionResult s.rsq } := by
  unfold noteProtection protectionResult
  split <;> rfl

theorem stopByProtection_rsq (s : State) :
    (stopByProtection s).rsq = { s.rsq with stopCause := protectionCause s.rsq.stopCause } := by
  unfold stopByProtection protectionCause
  split
  · next h => rw [← h]
  · rw [setStopCause_rsq]

theorem cutOff_rsq (s : State) :
    (cutOff s).rsq =
      { (cutAttempt .protection s).rsq with
        stopCause := protectionCause s.rsq.stopCause, startResult := protectionResult s.rsq } := by
  obtain ⟨hr, hc⟩ := cutAttempt_keeps .protection s
  simp [cutOff, stopByProtection_rsq, noteProtection_rsq, protectionResult, hr, hc]

theorem cutOff_spd (s : State) : (cutOff s).spd = s.spd := by simp [cutOff]

theorem cutOff_pru (s : State) : (cutOff s).pru = s.pru := by simp [cutOff]

theorem protectionCause_ne (c : StopCause) : protectionCause c ≠ .autoStop := by
  unfold protectionCause
  split <;> decide

/-- With any stop cause but AUTO STOP, "to rest by R3" is one change of engine state. -/
theorem toRest_blocks {s : State} (hc : s.rsq.stopCause ≠ .autoStop) :
    (toRest s).pru = (changeEngine (restEngine s) s).pru ∧ (toRest s).ntu = (changeEngine (restEngine s) s).ntu := by
  unfold toRest restEngine
  split
  · exact ⟨rfl, rfl⟩
  · rw [comeToRest_of_cause hc, restState_of_cause hc]
    exact ⟨rfl, rfl⟩

/-- Where the engine goes by R3 with a SHUTDOWN in service. -/
def outEngine (s : State) : Engine := if 0 < s.spd.measured then .rundown else .lockedOut

theorem restEngine_of_shutdown {s : State} (h : s.pru.shutdownInService = true) : restEngine s = outEngine s := by
  simp [restEngine, outEngine, h]

theorem outEngine_runningFamily (s : State) : (outEngine s).runningFamily = false := by
  unfold outEngine
  split <;> rfl

/-- A moving engine that a SHUTDOWN takes (R25). -/
theorem takeShutdown_moving {s : State} (hc : s.cfg.checking = false) (hr : s.rsq.engine.atRest = false)
    (hd : s.rsq.engine ≠ .rundown) (hs : s.pru.shutdownInService = true) :
    (takeShutdown s).rsq =
        { enterState (outEngine s)
            { (cutAttempt .protection s).rsq with
              stopCause := protectionCause s.rsq.stopCause, startResult := protectionResult s.rsq } with
          timers := stoppedTimers
          restartPending := (cutAttempt .protection s).rsq.restartPending && decide (0 < s.spd.measured) } ∧
      (takeShutdown s).pru = (changeEngine (outEngine s) (cutOff s)).pru ∧
      (takeShutdown s).ntu = (changeEngine (outEngine s) (cutOff s)).ntu := by
  have ht : takeShutdown s = toRest (cutOff s) := takeShutdown_of_moving hc hr hd
  have hcause : (cutOff s).rsq.stopCause ≠ .autoStop := by
    rw [cutOff_rsq]
    exact protectionCause_ne _
  have hout : restEngine (cutOff s) = outEngine s := by
    rw [restEngine_of_shutdown (by rwa [cutOff_pru]), outEngine, outEngine, cutOff_spd]
  obtain ⟨hp, hn⟩ := toRest_blocks hcause
  rw [ht, toRest_rsq hcause, hp, hn, hout, cutOff_spd, cutOff_rsq]
  exact ⟨rfl, rfl, rfl⟩

theorem takeShutdown_of_rest {s : State} (hc : s.cfg.checking = false)
    (he : s.rsq.engine = .stopped ∨ s.rsq.engine = .autoStopped) : takeShutdown s = changeEngine .lockedOut s := by
  rcases he with he | he <;> simp [takeShutdown, hc, he]

theorem takeShutdown_of_lockedOut {s : State} (he : s.rsq.engine = .lockedOut) : takeShutdown s = s := by
  simp [takeShutdown, he]

theorem takeShutdown_of_rundown {s : State} (hc : s.cfg.checking = false) (he : s.rsq.engine = .rundown) :
    (takeShutdown s).rsq =
        { s.rsq with stopCause := protectionCause s.rsq.stopCause, restartPending := false } ∧
      (takeShutdown s).pru = s.pru := by
  have ht : takeShutdown s = (stopByProtection s).mapRsq fun r => { r with restartPending := false } := by
    simp [takeShutdown, hc, he]
  rw [ht]
  simp [stopByProtection_rsq]

/-- A SHUTDOWN takes the engine out of RUNNING and UNLOADING, and PRU's SHUTDOWN entries stay as they are. -/
theorem takeShutdown_engine {s : State} (hc : s.cfg.checking = false) (hs : s.pru.shutdownInService = true) :
    (takeShutdown s).rsq.engine =
        (if s.rsq.engine.atRest = true ∨ (s.rsq.engine ≠ .rundown ∧ s.spd.measured = 0) then .lockedOut
          else .rundown) ∧
      ∀ e : Entry, classOf e = .shutdown → ((takeShutdown s).pru.entry e).inService = (s.pru.entry e).inService := by
  by_cases hl : s.rsq.engine = .lockedOut
  · rw [takeShutdown_of_lockedOut hl]
    exact ⟨by simp [hl, Engine.atRest], fun _ _ => rfl⟩
  by_cases hst : s.rsq.engine = .stopped ∨ s.rsq.engine = .autoStopped
  · rw [takeShutdown_of_rest hc hst, changeEngine_rsq_of_new _ (by decide)]
    refine ⟨?_, fun e he => changeEngine_inService _ _ he⟩
    rcases hst with h | h <;> simp [h, Engine.atRest, enterState]
  by_cases hd : s.rsq.engine = .rundown
  · obtain ⟨hr, hp⟩ := takeShutdown_of_rundown hc hd
    rw [hr, hp]
    exact ⟨by simp [hd, Engine.atRest], fun _ _ => rfl⟩
  have hr : s.rsq.engine.atRest = false := by
    cases he : s.rsq.engine <;> simp [he] at hl hst ⊢ <;> rfl
  obtain ⟨hrsq, hp, -⟩ := takeShutdown_moving hc hr hd hs
  rw [hrsq, hp]
  refine ⟨?_, fun e he => ?_⟩
  · by_cases hm : s.spd.measured = 0
    · simp [enterState, outEngine, hm, hd]
    · have : 0 < s.spd.measured := by omega
      simp [enterState, outEngine, hm, this, hr]
  · rw [changeEngine_inService _ _ he, cutOff_pru]

/-- A SHUTDOWN that takes an engine out of RUNNING or UNLOADING drops the load and the notch (R147). -/
theorem takeShutdown_ntu {s : State} (hc : s.cfg.checking = false) (hf : s.rsq.engine.runningFamily = true)
    (hs : s.pru.shutdownInService = true) :
    (takeShutdown s).ntu.AtRest ∧ (takeShutdown s).ntu.loadTarget = 0 ∧ (takeShutdown s).ntu.excitationRef = 0 := by
  have hr : s.rsq.engine.atRest = false := by
    cases he : s.rsq.engine <;> simp [he, Engine.runningFamily] at hf <;> rfl
  have hd : s.rsq.engine ≠ .rundown := fun w => by simp [w, Engine.runningFamily] at hf
  obtain ⟨-, -, hn⟩ := takeShutdown_moving hc hr hd hs
  have hcf : (cutOff s).rsq.engine.runningFamily = true := by
    simpa [cutOff_rsq] using hf
  rw [hn, changeEngine_ntu]
  simp [Ntu.engineChanged, hcf, outEngine_runningFamily, Ntu.AtRest, dropLoad]

theorem idleDownJump_ntu (s : State) :
    (idleDownJump s).ntu =
      { dropLoad s.ntu with
        applied := 0, dwell := none, setpoint := (idleDownJump s).ntu.setpoint
        governorRef := (idleDownJump s).ntu.governorRef } := by
  unfold idleDownJump
  rw [refreshGovernor_ntu]
  rfl

/-- What the idle-down jump leaves as it is, an event at the table leaves as RSQ has made it. -/
theorem handOff_ntu_of_entered {before : Pru} {s : State} (h : shutdownEntered before s.pru = true)
    (P : Ntu → Prop) (hj : ∀ u : State, P u.ntu → P (idleDownJump u).ntu) (ht : P (takeShutdown s).ntu) :
    P (handOff before s).ntu := by
  unfold handOff
  simp only [h, if_true, shutdownInService_of_entered h, Bool.not_true, Bool.and_false, Bool.false_eq_true, if_false]
  split
  · exact hj _ ht
  · exact ht


/-! ### FILTER_TIMER_EXPIRY (R78) -/

/-- The state in which the event at the table is handed on. -/
def conditionTrue (e : Entry) (s : State) : State := s.mapPru fun p => ringBell (setCondition e true p)

theorem conditionTrue_pru {e : Entry} {s : State} (h : (s.pru.entry e).condition = false) :
    (conditionTrue e s).pru = ringBell (s.pru.setEntry e (s.pru.entry e).afterTrue) :=
  congrArg ringBell (setCondition_true h)

theorem exec_filterTimerExpiry {e : Entry} {s : State} (h : (s.pru.entry e).filter.isSome = true) :
    exec (.filterTimerExpiry e) s = .next (finish s false (handOff s.pru (conditionTrue e s))) := by
  change Host.Outcome.next (if _ then _ else _) = _
  rw [if_pos h]
  rfl

theorem movesEngine_filterEvent (e : Entry) (s : State) :
    MovesEngine (conditionTrue e s) (handOff s.pru (conditionTrue e s)) := movesEngine_handOff _ _

/-- An entry of another class takes no SHUTDOWN into service or out of it. -/
theorem sameShutdown_setEntry {e : Entry} {p : Pru} {r : EntryRec} (h : classOf e ≠ .shutdown) :
    shutdownEntered p (ringBell (p.setEntry e r)) = false ∧
      (p.shutdownInService = true → (ringBell (p.setEntry e r)).shutdownInService = true) := by
  have hk : ∀ k : Entry, classOf k = .shutdown → ((ringBell (p.setEntry e r)).entry k) = p.entry k := by
    intro k hk
    rw [ringBell_entry, Pru.entry_setEntry_other]
    rintro rfl
    exact h hk
  constructor
  · rw [← Bool.not_eq_true, shutdownEntered_iff]
    rintro ⟨k, hc, hf, ht⟩
    rw [hk k hc, hf] at ht
    simp at ht
  · rw [shutdownInService_iff, shutdownInService_iff]
    rintro ⟨k, hc, hs⟩
    exact ⟨k, hc, by rwa [hk k hc]⟩

/-- An entry below SHUTDOWN that becomes true reaches nobody but PRU and NTU. -/
theorem filterEvent_below {e : Entry} {s : State} (hf : (s.pru.entry e).condition = false)
    (hc : classOf e ≠ .shutdown) : OnlyNtu (conditionTrue e s) (handOff s.pru (conditionTrue e s)) := by
  obtain ⟨hn, hl⟩ := sameShutdown_setEntry (p := s.pru) (r := (s.pru.entry e).afterTrue) hc
  rw [← conditionTrue_pru hf] at hn hl
  exact handOff_of_not_entered hn hl

/-- A SHUTDOWN entry that becomes true, IDLE and unmasked so far, enters service. -/
theorem filterEvent_entered {e : Entry} {s : State} (hf : (s.pru.entry e).condition = false)
    (hc : classOf e = .shutdown) (hi : (s.pru.entry e).state = .idle) (hm : (s.pru.entry e).masked = false) :
    ((conditionTrue e s).pru.entry e).inService = true ∧ shutdownEntered s.pru (conditionTrue e s).pru = true := by
  have hin : ((conditionTrue e s).pru.entry e).inService = true := by
    rw [conditionTrue_pru hf, ringBell_entry, Pru.entry_setEntry_same]
    exact afterTrue_inService hi hm
  exact ⟨hin, (shutdownEntered_iff _ _).2 ⟨e, hc, by simp [EntryRec.inService, hi], hin⟩⟩

/-- IRU leaves WATCH when the engine is locked out (R163). -/
theorem changeEngine_lockedOut_watch {s : State} (h : s.iru.state = .watch) :
    (changeEngine .lockedOut s).iru.state = .off := by
  simp [changeEngine_iru, Iru.engineChanged, h, iruOff]

/-- Away from RUNNING, IRU in OFF stays there. -/
theorem judgeIdle_of_off {s : State} (hr : s.rsq.engine ≠ .running) (hi : s.iru.state = .off) : judgeIdle s = s := by
  simp [judgeIdle, hi, idleConditions, hr]

theorem onlyNtu_iru {s t : State} (h : OnlyNtu s t) : t.iru = s.iru := by rw [h]

/-- A SHUTDOWN entering service, in every state of the engine (R25). -/
theorem shutdownEvent {e : Entry} {s : State} (hf : (s.pru.entry e).condition = false) (hc : classOf e = .shutdown)
    (hi : (s.pru.entry e).state = .idle) (hm : (s.pru.entry e).masked = false) (hk : s.cfg.checking = false) :
    let u := conditionTrue e s
    let t := finish s false (handOff s.pru u)
    (t.pru.entry e).inService = true ∧ t.rsq = (takeShutdown u).rsq ∧
      t.rsq.engine =
        (if s.rsq.engine.atRest = true ∨ (s.rsq.engine ≠ .rundown ∧ s.spd.measured = 0) then .lockedOut
          else .rundown) ∧
      (s.rsq.engine.runningFamily = true →
        t.ntu.AtRest ∧ t.ntu.loadTarget = 0 ∧ t.ntu.excitationRef = 0) ∧
      (s.rsq.engine = .stopped ∨ s.rsq.engine = .autoStopped → s.iru.state = .watch → t.iru.state = .off) := by
  dsimp only
  obtain ⟨hin, hent⟩ := filterEvent_entered hf hc hi hm
  have hsd := shutdownInService_of_entered hent
  have ho : OnlyNtu (takeShutdown (conditionTrue e s)) (handOff s.pru (conditionTrue e s)) := handOff_of_entered hent
  obtain ⟨heng, hkeep⟩ := takeShutdown_engine (s := conditionTrue e s) hk hsd
  have hout : (handOff s.pru (conditionTrue e s)).rsq.engine = .lockedOut ∨
      (handOff s.pru (conditionTrue e s)).rsq.engine = .rundown := by
    rw [ho.rsq, heng]
    split
    · exact .inl rfl
    · exact .inr rfl
  have hne : (handOff s.pru (conditionTrue e s)).rsq.engine ≠ .unloading := by
    rcases hout with h | h <;> simp [h]
  have hfam : (handOff s.pru (conditionTrue e s)).rsq.engine.runningFamily = false := by
    rcases hout with h | h <;> simp [h, Engine.runningFamily]
  obtain ⟨hfr, -, hfp, -⟩ := finish_of_ne (s0 := s) (test := false) hne
  refine ⟨?_, hfr.trans ho.rsq, ?_, fun hrun => ?_, fun hrest hw => ?_⟩
  · rw [hfp, ho.pru, hkeep e hc, hin]
  · rw [hfr, ho.rsq, heng]
    rfl
  · obtain ⟨⟨ha, hl, hp, hlow⟩, ht, hx⟩ := handOff_ntu_of_entered hent
      (fun n => n.AtRest ∧ n.loadTarget = 0 ∧ n.excitationRef = 0)
      (fun u ⟨⟨_, _, _, hlow⟩, _⟩ => by
        rw [idleDownJump_ntu]
        exact ⟨⟨rfl, rfl, rfl, hlow⟩, rfl, rfl⟩)
      (takeShutdown_ntu (s := conditionTrue e s) hk hrun hsd)
    rw [finish_ntu_of_family hfam hp hlow]
    exact ⟨⟨ha, hl, hp, hlow⟩, ht, hx⟩
  · have hoff : (handOff s.pru (conditionTrue e s)).iru.state = .off := by
      rw [onlyNtu_iru ho, takeShutdown_of_rest (s := conditionTrue e s) hk hrest]
      exact changeEngine_lockedOut_watch hw
    rw [finish_iru_of_fixed (fun x hxe hxi => judgeIdle_of_off ?_ (by rw [hxi, hoff])) hne, hoff]
    rw [hxe]
    rcases hout with h | h <;> simp [h]

theorem filterTimer_unchanged (e : Entry) (s : State) :
    Unchanged [.ins, .links, .cfg] s (finish s false (handOff s.pru (conditionTrue e s))) := by
  obtain ⟨hp, hi, hk, hl⟩ := (movesEngine_filterEvent e s).finish s false
  exact unchanged_cons hi (unchanged_cons hl (unchanged_cons hk (unchanged_nil hp)))

/-- Settles O49: the condition is one write to the table; a SHUTDOWN is handed on to RSQ. -/
theorem aFilterExpiryMakesTheConditionTrue : Obligations.AFilterExpiryMakesTheConditionTrue := by
  intro e s hfil hf
  dsimp only
  refine ⟨_, exec_filterTimerExpiry hfil, settled_finish _ _ _, filterTimer_unchanged e s, fun hc hne => ?_,
    fun hc hi hm hk _ => ?_, fun hc hi hm hk => ?_⟩
  · have ho := filterEvent_below hf hc
    obtain ⟨hfr, hfs, hfp, hfa⟩ := finish_of_ne (s0 := s) (test := false) (s := handOff s.pru (conditionTrue e s))
      (by rw [ho.rsq]; exact hne)
    refine ⟨unchanged_cons (hfr.trans ho.rsq) (unchanged_cons (hfs.trans ho.spd) (unchanged_cons (hfa.trans ho.aut)
      (unchanged_nil (filterTimer_unchanged e s).1))), ?_⟩
    rw [hfp, ho.pru, conditionTrue_pru hf]
    rfl
  · obtain ⟨hin, -, heng, -⟩ := shutdownEvent hf hc hi hm hk
    exact ⟨hin, heng⟩
  · obtain ⟨-, hrsq, -, hntu, hiru⟩ := shutdownEvent hf hc hi hm hk
    have hsd := shutdownInService_of_entered (filterEvent_entered hf hc hi hm).2
    have hmove := takeShutdown_moving (s := conditionTrue e s) hk
    refine ⟨fun older n hh he hop hout => ?_, fun older n hh he => ?_, fun he => ?_, fun hr hd => ?_, fun hr => ?_,
      fun hr => ⟨?_, hiru hr⟩, fun he => ?_, fun he => ?_⟩
    · have hx : (conditionTrue e s).rsq.engine = .cranking := he
      rw [hrsq, (hmove (by simp [hx, Engine.atRest]) (by simp [hx]) hsd).1,
        cutAttempt_of_cranking (s := conditionTrue e s) (by decide) hx hh hop hout]
      rfl
    · have hx : (conditionTrue e s).rsq.engine = .accelerating := he
      rw [hrsq, (hmove (by simp [hx, Engine.atRest]) (by simp [hx]) hsd).1,
        cutAttempt_of_accelerating (s := conditionTrue e s) _ hx hh]
      rfl
    · have hx : (conditionTrue e s).rsq.engine.atRest = false ∧ (conditionTrue e s).rsq.engine ≠ .rundown ∧
          (conditionTrue e s).rsq.engine ≠ .cranking ∧ (conditionTrue e s).rsq.engine ≠ .accelerating := by
        change s.rsq.engine.atRest = false ∧ s.rsq.engine ≠ _ ∧ s.rsq.engine ≠ _ ∧ s.rsq.engine ≠ _
        rcases he with h | h | h | h | h <;> simp [h, Engine.atRest]
      obtain ⟨hr, hd, hcr, hac⟩ := hx
      rw [hrsq, (hmove hr hd hsd).1, cutAttempt_of_idle _ hcr hac]
      rfl
    · rw [hrsq, (hmove hr hd hsd).1]
      unfold outEngine
      split <;> exact ⟨rfl, rfl, rfl, rfl⟩
    · obtain ⟨⟨ha, hl, hp, -⟩, ht, hx⟩ := hntu hr
      exact ⟨ha, hl, ht, hx, hp⟩
    · rw [hrsq, takeShutdown_of_rest (s := conditionTrue e s) hk hr, changeEngine_rsq_of_new _ (by decide)]
      rfl
    · rw [hrsq, (takeShutdown_of_rundown (s := conditionTrue e s) hk he).1]
      rfl
    · rw [hrsq, takeShutdown_of_lockedOut (s := conditionTrue e s) he]
      rfl

end Sys2Proof.Machine
end

section
/-! SUPPORT. RESET PROTECTION and RESET ALL (R26, R91 to R93). -/

namespace Sys2Proof.Machine

/-! ### Entries leaving service (R77) -/

@[simp] theorem leaveService_entry_same (e : Entry) (p : Pru) : (leaveService e p).entry e = (p.entry e).left := by
  simp [leaveService]

theorem leaveService_entry_other {d e : Entry} (p : Pru) (h : d ≠ e) : (leaveService e p).entry d = p.entry d := by
  simp [leaveService, Pru.entry_setEntry_other, h]

/-- The entries of a list leave service, one after another. -/
def leaveAll (es : List Entry) (p : Pru) : Pru := es.foldl (fun q e => leaveService e q) p

theorem leaveAll_entry (es : List Entry) (p : Pru) (k : Entry) :
    (leaveAll es p).entry k = if k ∈ es then (p.entry k).left else p.entry k := by
  induction es generalizing p with
  | nil => simp [leaveAll]
  | cons e es ih =>
    have hstep : leaveAll (e :: es) p = leaveAll es (leaveService e p) := rfl
    rw [hstep, ih]
    by_cases hk : k = e
    · subst hk
      simp [EntryRec.left]
    · simp [leaveService_entry_other _ hk, hk]

theorem leaveAll_pct (es : List Entry) (p : Pru) :
    (leaveAll es p).coolantPct = p.coolantPct ∧ (leaveAll es p).intakePct = p.intakePct := by
  induction es generalizing p with
  | nil => exact ⟨rfl, rfl⟩
  | cons e es ih => exact ih (leaveService e p)

theorem left_inService (r : EntryRec) : r.left.inService = false := rfl

/-- No entry enters service where entries leave it. -/
theorem shutdownEntered_leaveAll (es : List Entry) (p : Pru) : shutdownEntered p (ringBell (leaveAll es p)) = false := by
  rw [← Bool.not_eq_true, shutdownEntered_iff]
  rintro ⟨e, -, hf, ht⟩
  rw [ringBell_entry, leaveAll_entry] at ht
  split at ht
  · simp [left_inService] at ht
  · simp [hf] at ht

/-! ### The event of a reset -/

/-- The table after a reset, before anything is handed on. -/
def entriesLeft (es : List Entry) (s : State) : State := s.mapPru fun p => ringBell (leaveAll es p)

/-- A reset reaches RSQ where the last SHUTDOWN entry leaves service of an engine LOCKED OUT (R26). -/
def afterReset (es : List Entry) (s : State) : State :=
  if s.rsq.engine = .lockedOut ∧ s.pru.shutdownInService = true ∧ (leaveAll es s.pru).shutdownInService = false ∧
      s.cfg.checking = false then
    (changeEngine .stopped (entriesLeft es s)).mapRsq fun r => { r with stopCause := .none }
  else entriesLeft es s

theorem takeLastLeft_eq (s : State) :
    takeLastLeft s =
      if s.rsq.engine = .lockedOut ∧ s.cfg.checking = false then
        (changeEngine .stopped s).mapRsq fun r => { r with stopCause := .none }
      else s := by
  split
  · next h => exact takeLastLeft_of_lockedOut h.2 h.1
  · next h =>
    by_cases hl : s.rsq.engine = .lockedOut
    · have hc : s.cfg.checking = true := by
        rw [← Bool.not_eq_false]
        exact fun w => h ⟨hl, w⟩
      exact takeLastLeft_of_checking hc
    · exact takeLastLeft_of_ne hl

theorem pruEvent_leaveAll (es : List Entry) (s : State) :
    OnlyNtu (afterReset es s) (pruEvent (leaveAll es) s) := by
  have hent : shutdownEntered s.pru (entriesLeft es s).pru = false := shutdownEntered_leaveAll es s.pru
  have hsd : (entriesLeft es s).pru.shutdownInService = (leaveAll es s.pru).shutdownInService := rfl
  have hstep : (if (s.pru.shutdownInService && !(entriesLeft es s).pru.shutdownInService) = true then
      takeLastLeft (entriesLeft es s) else entriesLeft es s) = afterReset es s := by
    have hlast : takeLastLeft (entriesLeft es s) =
        if s.rsq.engine = .lockedOut ∧ s.cfg.checking = false then
          (changeEngine .stopped (entriesLeft es s)).mapRsq fun r => { r with stopCause := .none }
        else entriesLeft es s := takeLastLeft_eq _
    rw [hlast, hsd]
    unfold afterReset
    cases s.pru.shutdownInService <;> cases (leaveAll es s.pru).shutdownInService <;> simp
  change OnlyNtu _ (handOff s.pru (entriesLeft es s))
  unfold handOff
  simp only [hent, Bool.false_eq_true, if_false, hstep]
  split
  · exact onlyNtu_idleDownJump _
  · exact .refl _

/-- A reset leaves PRU with its entries left, whatever RSQ makes of it. -/
theorem afterReset_blocks {es : List Entry} {s : State} (hs : Sound s) :
    (afterReset es s).pru = ringBell (leaveAll es s.pru) ∧ (afterReset es s).aut = s.aut ∧
      (s.rsq.engine ≠ .unloading → (afterReset es s).rsq.engine ≠ .unloading) := by
  unfold afterReset
  split
  · next h =>
    obtain ⟨hl, -, -, -⟩ := h
    obtain ⟨ha, -⟩ := hs.unarmed (by simp [hl, fuelEnableIn])
    refine ⟨?_, ?_, fun _ => ?_⟩
    · exact changeEngine_pru_of_quiet (s := entriesLeft es s) (new := .stopped) rfl (.inl ha)
        (fun w => by simp [entriesLeft, hl, Engine.runningFamily] at w) (fun w => by simp at w)
    · exact changeEngine_aut_of_rest (entriesLeft es s) (new := .stopped) rfl
    · simp [changeEngine_rsq_of_new _ (show Engine.stopped ≠ .rundown by decide), enterState]
  · exact ⟨rfl, rfl, id⟩

theorem movesEngine_resetEvent (es : List Entry) (s : State) :
    MovesEngine (entriesLeft es s) (pruEvent (leaveAll es) s) := movesEngine_handOff s.pru _

theorem afterReset_rsq (es : List Entry) (s : State) :
    if s.rsq.engine = .lockedOut ∧ s.pru.shutdownInService = true ∧ (leaveAll es s.pru).shutdownInService = false ∧
        s.cfg.checking = false then
      (afterReset es s).rsq = { enterState .stopped s.rsq with stopCause := .none }
    else (afterReset es s).rsq = s.rsq ∧ (afterReset es s).spd = s.spd := by
  split
  · next h =>
    rw [afterReset, if_pos h]
    simp [changeEngine_rsq_of_new _ (show Engine.stopped ≠ .rundown by decide), entriesLeft]
  · next h =>
    rw [afterReset, if_neg h]
    exact ⟨rfl, rfl⟩

/-! ### The requests (R91 to R93) -/

/-- What a reset leaves of a state (R26, R91). -/
theorem resetEvent {s d : State} {es : List Entry} {gone : Entry → Bool} (hg : ∀ e, gone e = true ↔ e ∈ es)
    (hs : Sound s) (hr : d.rsq = s.rsq) (hspd : d.spd = s.spd) (hins : d.ins = s.ins) (hpru : d.pru = s.pru) (haut : d.aut = s.aut) (hcfg : d.cfg = s.cfg)
    (hpend : d.pending = s.pending) (s0 : State) (l : Link) (f : Frame) (r : Result) (p : List Byte) :
    let t := conclude l f (answer r p (settle s0 false (pruEvent (leaveAll es) d)))
    Settled t ∧ Unchanged [.ins, .aut, .cfg] s t ∧
      (s.rsq.engine ≠ .unloading →
        (∀ e : Entry, t.pru.entry e =
          if gone e = true then { s.pru.entry e with state := .idle, acknowledged := true } else s.pru.entry e) ∧
        (t.pru.coolantPct = s.pru.coolantPct ∧ t.pru.intakePct = s.pru.intakePct ∧ BellLaw t) ∧
        (if s.rsq.engine = .lockedOut ∧ s.pru.shutdownInService = true ∧ t.pru.shutdownInService = false ∧
              s.cfg.checking = false then
            t.rsq = { enterState .stopped s.rsq with stopCause := .none }
          else Unchanged [.rsq, .spd] s t)) := by
  have hsd : Sound d := by
    obtain ⟨h1, h2, h3, h4⟩ := hs
    exact ⟨by simpa only [OutputsLaw, hr] using h1, by simpa only [TimerLaw, hr] using h2,
      by simpa only [BellLaw, hpru] using h3, by simpa only [ClaimLaw, haut, hr] using h4⟩
  have ho := pruEvent_leaveAll es d
  obtain ⟨hbp, hba, hbe⟩ := afterReset_blocks (es := es) hsd
  have hm := movesEngine_resetEvent es d
  have hms := hm.trans (movesEngine_settle s0 false _)
  have hA : (settle s0 false (pruEvent (leaveAll es) d)).aut = s.aut := by
    cases hrest : d.rsq.engine.atRest
    · exact (hms.aut (hsd.unclaimed hrest)).trans haut
    · have hne := hbe (fun w => by simp [w, Engine.atRest] at hrest)
      rw [(settle_of_ne (by rwa [ho.rsq])).2.2.2, ho.aut, hba, haut]
  have hI : AgreesOn s (settle s0 false (pruEvent (leaveAll es) d)) .ins := hms.ins.trans hins
  have hC : AgreesOn s (settle s0 false (pruEvent (leaveAll es) d)) .cfg := hms.cfg.trans hcfg
  have hP : (settle s0 false (pruEvent (leaveAll es) d)).pending = s.pending := hms.pending.trans hpend
  refine ⟨settled_conclude _ _ _ _ _ _ _, unchanged_cons (agreesOn_conclude hI _ _ _ _)
    (unchanged_cons (agreesOn_conclude (b := .aut) hA _ _ _ _) (unchanged_cons (agreesOn_conclude hC _ _ _ _)
      (unchanged_nil hP))), fun hne => ?_⟩
  obtain ⟨hsr, hss, hsp, -⟩ := settle_of_ne (s0 := s0) (test := false) (s := pruEvent (leaveAll es) d)
    (by rw [ho.rsq]; exact hbe (by rwa [hr]))
  have hpt : (settle s0 false (pruEvent (leaveAll es) d)).pru = ringBell (leaveAll es s.pru) := by
    rw [hsp, ho.pru, hbp, hpru]
  obtain ⟨hc1, hc2⟩ := leaveAll_pct es s.pru
  refine ⟨fun e => ?_, ⟨?_, ?_, ?_⟩, ?_⟩
  · rw [conclude_answer_pru, hpt, ringBell_entry, leaveAll_entry]
    simp only [hg e]
    rfl
  · rw [conclude_answer_pru, hpt, ringBell_coolantPct, hc1]
  · rw [conclude_answer_pru, hpt, ringBell_intakePct, hc2]
  · rw [BellLaw, conclude_answer_pru, hpt]
    rfl
  · have hrs := afterReset_rsq es d
    rw [hr, hpru, hcfg] at hrs
    rw [conclude_answer_pru, hpt, ringBell_shutdownInService]
    split
    · next h =>
      rw [if_pos h] at hrs
      rw [conclude_answer_rsq, hsr, ho.rsq, hrs]
    · next h =>
      rw [if_neg h] at hrs
      have hR : AgreesOn s (settle s0 false (pruEvent (leaveAll es) d)) .rsq := (hsr.trans ho.rsq).trans hrs.1
      have hS : AgreesOn s (settle s0 false (pruEvent (leaveAll es) d)) .spd :=
        ((hss.trans ho.spd).trans hrs.2).trans hspd
      exact unchanged_cons (agreesOn_conclude hR _ _ _ _) (unchanged_cons (agreesOn_conclude hS _ _ _ _)
        (unchanged_nil hP))

theorem resetEvent_links (es : List Entry) (s0 d : State) :
    (settle s0 false (pruEvent (leaveAll es) d)).links = d.links :=
  ((movesEngine_resetEvent es d).trans (movesEngine_settle s0 false _)).links

/-- A reset that is refused replies and changes nothing else. -/
theorem refused_conclude (l : Link) (f : Frame) (r : Result) (p : List Byte) (s : State) :
    Unchanged [.rsq, .spd, .ins, .pru, .aut, .ntu, .iru, .cfg] s (conclude l f (answer r p (dequeued l s))) ∧
      Replied l f r p s (conclude l f (answer r p (dequeued l s))) := by
  refine ⟨⟨rfl, fun b hb => ?_⟩, replied_conclude rfl⟩
  have hk : AgreesOn s (dequeued l s) b := by
    cases b <;> simp at hb ⊢ <;> rfl
  exact agreesOn_conclude hk _ _ _ _ (by rintro rfl; simp at hb)

theorem entryOperand_byte (e : Entry) : entryOperand [byte e.val] = some e := by
  revert e
  decide

theorem entryOperand_none {payload : List Byte} (h : ∀ e : Entry, payload ≠ [byte e.val]) :
    entryOperand payload = none := by
  unfold entryOperand
  split
  · next b =>
    split
    · next hb =>
      refine absurd ?_ (h ⟨b.toNat, hb⟩)
      simp [byte]
    · rfl
  · rfl

/-- Whether a trip limit holds an entry (R93), entry by entry. -/
theorem heldByLimit_iff (l : Link) (s : State) (e : Entry) :
    heldByLimit l s e = true ↔
      l ≠ .service ∧
        ((e = 1 ∧ s.cfg.active.overspeedTripLimit ≤ (s.pru.entry e).tripCount) ∨
          (e = 7 ∧ s.cfg.active.groundTripLimit ≤ (s.pru.entry e).tripCount)) := by
  unfold heldByLimit overTripLimit tripLimit
  by_cases h1 : e = 1
  · subst h1
    simp
  · by_cases h7 : e = 7
    · subst h7
      simp
    · have h1' : e.val ≠ 1 := fun w => h1 (Fin.ext w)
      have h7' : e.val ≠ 7 := fun w => h7 (Fin.ext w)
      simp [h1, h7, h1', h7']

theorem exec_resetProtection {l : Link} {seq : Byte} {payload : List Byte} {s : State}
    (h : Ready l ⟨kindResetProtection, seq, payload⟩ s) :
    exec (.resetProtection l seq payload) s = .next
      (conclude l ⟨kindResetProtection, seq, payload⟩ (ownerResetProtection l payload (dequeued l s))) :=
  congrArg Host.Outcome.next (request_of_ready _ h (by decide : knownKind kindResetProtection = true)
    (fun w => absurd w (by decide : ¬serviceKind kindResetProtection = true)))

theorem exec_resetAll {l : Link} {seq : Byte} {payload : List Byte} {s : State}
    (h : Ready l ⟨kindResetAll, seq, payload⟩ s) :
    exec (.resetAll l seq payload) s = .next
      (conclude l ⟨kindResetAll, seq, payload⟩ (ownerResetAll l (dequeued l s))) :=
  congrArg Host.Outcome.next (request_of_ready _ h (by decide : knownKind kindResetAll = true)
    (fun w => absurd w (by decide : ¬serviceKind kindResetAll = true)))

/-- The HELD entries are parted by the trip limits (R92). -/
theorem resettable_eq (l : Link) (s : State) :
    resettable l s =
      (allEntries.filter fun e => decide ((s.pru.entry e).state = .held)).filter fun e => !heldByLimit l s e := by
  simp only [resettable, List.filter_filter, Bool.and_comm]

theorem leftByLimit_eq (l : Link) (s : State) :
    leftByLimit l s =
      (allEntries.filter fun e => decide ((s.pru.entry e).state = .held)).filter fun e => heldByLimit l s e := by
  simp only [leftByLimit, List.filter_filter, Bool.and_comm]

theorem ownerResetAll_of_none {l : Link} {s : State} (hm : mayReset l s = true) (h : resettable l s = []) :
    ownerResetAll l s = answer .refusedState [byte 0, byte (leftByLimit l s).length] s := by
  simp [ownerResetAll, hm, h]

theorem ownerResetAll_of_some {l : Link} {s : State} (hm : mayReset l s = true) (h : resettable l s ≠ []) :
    ownerResetAll l s =
      answer .done [byte (resettable l s).length, byte (leftByLimit l s).length]
        (settle s false (pruEvent (leaveAll (resettable l s)) s)) := by
  have he : (resettable l s).isEmpty = false := by simpa using h
  simp only [ownerResetAll, hm, he, Bool.true_eq_false, Bool.false_eq_true, if_false]
  rfl

/-- Settles O50: the tests of R91 in their order; what passes them leaves service. -/
theorem resetsReturnHeldEntries : Obligations.ResetsReturnHeldEntries := by
  intro l seq payload s mayReset byLimit refused reset
  have hlim : ∀ e, heldByLimit l (dequeued l s) e = byLimit e := fun e => by
    rw [Bool.eq_iff_iff, heldByLimit_iff]
    simp [byLimit]
  have hmay : Machine.mayReset l (dequeued l s) = mayReset := rfl
  have hreset : ∀ (es : List Entry) (gone : Entry → Bool), (∀ e, gone e = true ↔ e ∈ es) → Sound s → ∀ f r p,
      reset gone (conclude l f (answer r p (settle (dequeued l s) false (pruEvent (leaveAll es) (dequeued l s))))) :=
    fun es gone hg hs f r p => resetEvent (d := dequeued l s) hg hs rfl rfl rfl rfl rfl rfl rfl (dequeued l s) l f r p
  have hgone : resettable l (dequeued l s) =
      (allEntries.filter fun e => decide ((s.pru.entry e).state = .held)).filter fun e => !byLimit e :=
    (resettable_eq l (dequeued l s)).trans (List.filter_congr fun e _ => by rw [hlim e])
  have hleft : leftByLimit l (dequeued l s) =
      (allEntries.filter fun e => decide ((s.pru.entry e).state = .held)).filter byLimit :=
    (leftByLimit_eq l (dequeued l s)).trans (List.filter_congr fun e _ => hlim e)
  refine ⟨fun hready hs => ⟨_, exec_resetProtection hready, fun hp => ?_, ?_⟩,
    fun hready hs => ⟨_, exec_resetAll hready, fun hm hg => ?_, fun hm hg => ?_, fun hm => ?_⟩⟩
  · rw [ownerResetProtection, entryOperand_none hp]
    exact refused_conclude _ _ _ _ _
  · rintro e rfl
    rw [ownerResetProtection, entryOperand_byte]
    simp only [hmay, hlim, dequeued_pru]
    by_cases hno : mayReset = false
    · simp only [if_pos hno]
      exact refused_conclude _ _ _ _ _
    by_cases hst : (s.pru.entry e).state ≠ .held
    · simp only [if_neg hno, if_pos hst]
      exact refused_conclude _ _ _ _ _
    by_cases hl : byLimit e = true
    · simp only [if_neg hno, if_neg hst, if_pos hl]
      exact refused_conclude _ _ _ _ _
    simp only [if_neg hno, if_neg hst, if_neg hl]
    exact ⟨replied_conclude (resetEvent_links [e] _ _), hreset [e] _ (fun k => by simp) hs _ _ _⟩
  · rw [← hgone] at hg
    rw [ownerResetAll_of_none (s := dequeued l s) hm hg, ← hgone, ← hleft, hg]
    exact refused_conclude _ _ _ _ _
  · rw [← hgone] at hg
    rw [ownerResetAll_of_some (s := dequeued l s) hm hg, ← hgone, ← hleft]
    exact ⟨replied_conclude (resetEvent_links _ _ _), hreset _ _ (fun k => by simp) hs _ _ _⟩
  · have hown : ownerResetAll l (dequeued l s) = answer .notHolder [] (dequeued l s) := if_pos hm
    obtain ⟨h1, h2⟩ := refused_conclude l ⟨kindResetAll, seq, payload⟩ .notHolder [] s
    rw [hown]
    exact ⟨h1, _, h2⟩

end Sys2Proof.Machine
end

section
/-! SUPPORT. The scan of the analog channels moves at CONVERSION, POWER_ON and RESET_LINE alone (R57). -/

namespace Sys2Proof.Machine

/-! ### The operations that hand on -/

/-- The scan stands at the same channel in both states. -/
def SameScan (s t : State) : Prop := t.ins.scanNext = s.ins.scanNext

theorem sameScan_of_ins {s t : State} (h : t.ins = s.ins) : SameScan s t := congrArg Ins.scanNext h

theorem SameScan.trans {s t u : State} (h : SameScan s t) (k : SameScan t u) : SameScan s u := Eq.trans k h

theorem SameScan.finish {s t : State} (h : SameScan s t) (s0 : State) (test : Bool) :
    SameScan s (Machine.finish s0 test t) := h.trans (sameScan_of_ins (finish_ins s0 test t))

theorem SameScan.settle {s t : State} (h : SameScan s t) (s0 : State) (test : Bool) :
    SameScan s (Machine.settle s0 test t) := h.trans (sameScan_of_ins (settle_ins s0 test t))

theorem sameScan_afterHolderChange (old : Option Source) (s : State) : SameScan s (afterHolderChange old s) := by
  unfold SameScan afterHolderChange
  dsimp only
  (repeat' split) <;> simp

theorem sameScan_trainlineEvent (f : Trainline → Trainline) (s : State) : SameScan s (trainlineEvent f s) := by
  have h : SameScan s (trainlineChange f s) := sameScan_of_ins (by simp)
  unfold trainlineEvent
  dsimp only
  (repeat' split) <;> try exact h
  · exact h.trans (sameScan_of_ins (by simp))
  · exact h.trans (sameScan_afterHolderChange _ _)

theorem sameScan_grantLink (l : Link) (s : State) : SameScan s (grantLink l s) :=
  SameScan.trans (sameScan_of_ins rfl) (sameScan_afterHolderChange _ _)

theorem sameScan_releaseHolder (s : State) : SameScan s (releaseHolder s) :=
  SameScan.trans (sameScan_of_ins rfl) (sameScan_afterHolderChange _ _)

theorem sameScan_endHandover (o : ClaimOutcome) (s : State) : SameScan s (endHandover o s) := sameScan_of_ins (by simp)

theorem sameScan_leaveActive (l : Link) (st : LinkState) (s : State) : SameScan s (leaveActive l st s) := by
  have h : SameScan s (s.mapSource l (FramedSource.dropped st)) := sameScan_of_ins rfl
  unfold leaveActive lapse
  dsimp only
  split
  · refine h.trans (SameScan.trans ?_ (sameScan_releaseHolder _))
    exact SameScan.trans (sameScan_of_ins rfl) (sameScan_endHandover _ _)
  · split
    · split
      · exact h.trans (sameScan_endHandover _ _)
      · exact h
    · exact h

theorem sameScan_holderStart (s : State) : SameScan s (holderStart s).1 := by
  refine sameScan_of_ins ?_
  unfold holderStart
  (repeat' split) <;> simp

theorem rsqValue_ins (c : Channel) (s : State) : (rsqValue c s).ins = s.ins := by
  unfold rsqValue
  dsimp only
  (repeat' split) <;> simp

theorem iruValue_ins (c : Channel) (s : State) : (iruValue c s).ins = s.ins := by
  unfold iruValue coolantTrigger batteryWatch
  (repeat' split) <;> simp

theorem handOn_ins (c : Channel) (s : State) : (handOn c s).ins = s.ins := by
  simp [handOn, rsqValue_ins, iruValue_ins]

theorem rsqWindow_ins (s : State) : (rsqWindow s).ins = s.ins := by
  unfold rsqWindow crankingWindow crankingThresholds acceleratingWindow
  dsimp only
  (repeat' split) <;> simp [fireAttempt, latchCrankFuel, succeedStart, crankRestWindow, rundownWindow]

theorem sameScan_applyForce (v : ForceValue) (s : State) : SameScan s (applyForce v s) := by
  unfold SameScan applyForce
  split <;> simp

theorem sameScan_releaseTarget (n : Nat) (s : State) : SameScan s (releaseTarget n s) := by
  unfold SameScan releaseTarget
  (repeat' split) <;> simp

theorem sameScan_releaseInputs (s : State) : SameScan s (releaseInputs s) := by
  simp [SameScan, releaseInputs]

/-! ### The owners of the requests -/

/-- An owner whose answer leaves the scan where it was. -/
def KeepsScan (owner : State → Answer) : Prop := ∀ u, SameScan u (owner u).state

theorem sameScan_request {owner : State → Answer} (h : KeepsScan owner) (l : Link) (f : Frame) (s : State) :
    SameScan s (request l f owner s) := request_scanNext l f h s

theorem keepsScan_ownerEnrol (l : Link) (payload : List Byte) : KeepsScan (ownerEnrol l payload) := by
  intro s
  unfold ownerEnrol
  split
  · rfl
  · split
    · exact sameScan_of_ins (by simp [answer])
    · have h : SameScan s ((leaveActive l .inert s).mapLink l LinkIf.discardQueue) :=
        (sameScan_leaveActive l .inert s).trans (sameScan_of_ins rfl)
      exact h.settle _ _

theorem sameScan_runRequest (l : Link) (run : RunRequest) (s : State) : SameScan s (runRequest l run s).1 := by
  have hs := sameScan_holderStart s
  unfold runRequest
  split
  · rfl
  · split
    · split
      · next w => rwa [w] at hs
      · next w => rwa [w] at hs
    · rfl
  · split
    · exact sameScan_of_ins (by simp)
    · rfl

theorem keepsScan_ownerDemand (l : Link) (payload : List Byte) : KeepsScan (ownerDemand l payload) := by
  intro s
  unfold ownerDemand
  split
  · rfl
  · dsimp only
    split
    · unfold holderDemandEvent
      extract_lets s1 f r s2
      have h1 : SameScan s s1 := sameScan_of_ins rfl
      have h2 : SameScan s s2 :=
        ((h1.trans (sameScan_runRequest l _ s1)).trans (sameScan_of_ins (demandArrival_ins _ _ _))).settle _ _
      split <;> exact h2
    · exact sameScan_of_ins rfl

theorem sameScan_beginHandover (l : Link) (holder : Source) (override : Bool) (s : State) :
    SameScan s (beginHandover l holder override s) := sameScan_of_ins (by simp [beginHandover])

theorem keepsScan_ownerClaim (l : Link) (payload : List Byte) : KeepsScan (ownerClaim l payload) := by
  intro s
  unfold ownerClaim
  dsimp only
  (repeat' split) <;> try rfl
  · exact (sameScan_grantLink l s).settle _ _
  · exact (sameScan_beginHandover l _ _ s).settle _ _

theorem keepsScan_ownerYield (l : Link) (payload : List Byte) : KeepsScan (ownerYield l payload) := by
  intro s
  unfold ownerYield
  (repeat' split) <;> try rfl
  · exact (sameScan_releaseHolder s).settle _ _
  · have h : SameScan s (yieldToTrainline s) := SameScan.trans (sameScan_of_ins rfl) (sameScan_afterHolderChange _ _)
    exact h.settle _ _
  · exact SameScan.settle (sameScan_of_ins rfl) _ _

theorem keepsScan_ownerTake (l : Link) (payload : List Byte) : KeepsScan (ownerTake l payload) := by
  intro s
  unfold ownerTake
  (repeat' split) <;> try rfl
  exact (sameScan_grantLink l s).settle _ _

theorem keepsScan_ownerKeep (l : Link) : KeepsScan (ownerKeep l) := by
  intro s
  unfold ownerKeep
  (repeat' split) <;> try rfl
  exact (sameScan_endHandover _ s).settle _ _

theorem keepsScan_ownerResetProtection (l : Link) (payload : List Byte) : KeepsScan (ownerResetProtection l payload) := by
  intro s
  refine sameScan_of_ins ?_
  unfold ownerResetProtection
  (repeat' split) <;> simp [answer]

theorem keepsScan_ownerResetAll (l : Link) : KeepsScan (ownerResetAll l) := by
  intro s
  refine sameScan_of_ins ?_
  unfold ownerResetAll
  dsimp only
  (repeat' split) <;> simp [answer]

theorem keepsScan_ownerMask (payload : List Byte) : KeepsScan (ownerMask payload) := by
  intro s
  unfold ownerMask
  split <;> rfl

theorem keepsScan_ownerUnmask (payload : List Byte) : KeepsScan (ownerUnmask payload) := by
  intro s
  refine sameScan_of_ins ?_
  unfold ownerUnmask
  split <;> simp [answer]

theorem keepsScan_ownerClearTripCount (payload : List Byte) : KeepsScan (ownerClearTripCount payload) := by
  intro s
  unfold ownerClearTripCount
  split <;> rfl

theorem keepsScan_ownerWriteEntry (payload : List Byte) : KeepsScan (ownerWriteEntry payload) := by
  intro s
  unfold ownerWriteEntry
  (repeat' split) <;> rfl

theorem keepsScan_ownerApply : KeepsScan ownerApply := by
  intro s
  unfold ownerApply
  (repeat' split) <;> try rfl
  have h : SameScan s (s.mapCfg fun c => { c with active := c.edited, writing := true }) := sameScan_of_ins rfl
  exact (h.trans (sameScan_trainlineEvent _ _)).settle _ _

theorem keepsScan_groupRequest (allowed : GroupState → Bool) (act : Fin 5 → Cfg → Cfg) (payload : List Byte) :
    KeepsScan (groupRequest allowed act payload) := by
  intro s
  unfold groupRequest
  (repeat' split) <;> rfl

theorem keepsScan_ownerForce (payload : List Byte) : KeepsScan (ownerForce payload) := by
  intro s
  unfold ownerForce
  (repeat' split) <;> try rfl
  exact (sameScan_applyForce _ s).settle _ _

theorem keepsScan_ownerReleaseForce (payload : List Byte) : KeepsScan (ownerReleaseForce payload) := by
  intro s
  unfold ownerReleaseForce
  (repeat' split) <;> try rfl
  · exact ((sameScan_releaseInputs s).trans (sameScan_of_ins (forceWires_ins _ _))).settle _ _
  · exact (sameScan_releaseTarget _ s).settle _ _

theorem keepsScan_ownerLatch (l : Link) (payload : List Byte) : KeepsScan (ownerLatch l payload) := by
  intro s
  unfold ownerLatch
  dsimp only
  (repeat' split) <;> rfl

theorem keepsScan_status : KeepsScan (answer .done []) := fun _ => rfl

theorem keepsScan_ownerAcknowledge : KeepsScan ownerAcknowledge := fun _ => rfl

/-! ### The reads -/

theorem sameScan_readRequest (t : ReadTarget) (l : Link) (seq : Byte) (payload : List Byte) {owner : State → Answer}
    (h : KeepsScan owner) (s : State) : SameScan s (readRequest t l seq payload owner s) := by
  unfold readRequest
  split
  · exact sameScan_request h l _ s
  · rfl

theorem keepsScan_ownerReadLatched (l : Link) (payload : List Byte) : KeepsScan (ownerReadLatched l payload) := by
  intro s
  unfold ownerReadLatched
  (repeat' split) <;> rfl

theorem keepsScan_ownerReadCrankHistory (payload : List Byte) : KeepsScan (ownerReadCrankHistory payload) := by
  intro s
  unfold ownerReadCrankHistory
  (repeat' split) <;> rfl

theorem keepsScan_ownerReadProtectionTable (payload : List Byte) : KeepsScan (ownerReadProtectionTable payload) := by
  intro s
  unfold ownerReadProtectionTable
  (repeat' split) <;> rfl

theorem keepsScan_ownerReadAnalogChannelRecords (payload : List Byte) : KeepsScan (ownerReadAnalogChannelRecords payload) := by
  intro s
  unfold ownerReadAnalogChannelRecords
  (repeat' split) <;> rfl

theorem keepsScan_ownerReadSourceTableSummary (payload : List Byte) : KeepsScan (ownerReadSourceTableSummary payload) := by
  intro s
  unfold ownerReadSourceTableSummary
  (repeat' split) <;> rfl

theorem keepsScan_ownerReadConfigurationEntry (payload : List Byte) : KeepsScan (ownerReadConfigurationEntry payload) := by
  intro s
  unfold ownerReadConfigurationEntry
  (repeat' split) <;> rfl

theorem keepsScan_ownerReadEngineRunRecord (payload : List Byte) : KeepsScan (ownerReadEngineRunRecord payload) := by
  intro s
  unfold ownerReadEngineRunRecord
  (repeat' split) <;> rfl

/-! ### Every other command -/

/-- An outcome whose next state has the scan at the same channel. -/
def ScanStays (s : State) (o : Host.Outcome State Fault Refusal) : Prop := ∀ t, o = .next t → SameScan s t

theorem scanStays_next {s t : State} (h : SameScan s t) : ScanStays s (.next t) := by
  intro u hu
  cases hu
  exact h

/-- An event that leaves INS alone, where it comes about. -/
theorem sameScan_event {s u : State} {p : Prop} [Decidable p] (test : Bool) (h : SameScan s u) :
    SameScan s (if p then finish s test u else s) := by
  split
  · exact h.finish s test
  · rfl

theorem sameScan_ite {s t u : State} {p : Prop} [Decidable p] (h : SameScan s t) (k : SameScan s u) :
    SameScan s (if p then t else u) := by
  split
  · exact h
  · exact k

theorem scanStays_request {owner : State → Answer} (h : KeepsScan owner) (l : Link) (f : Frame) (s : State) :
    ScanStays s (.next (request l f owner s)) := scanStays_next (sameScan_request h l f s)

theorem scanStays_read {owner : State → Answer} (h : KeepsScan owner) (t : ReadTarget) (l : Link) (q : Byte)
    (p : List Byte) (s : State) : ScanStays s (.next (readRequest t l q p owner s)) :=
  scanStays_next (sameScan_readRequest t l q p h s)

theorem sameScan_takeGoodFrame (l : Link) (k q : Byte) (p : List Byte) (s : State) :
    ScanStays s (execGoodFrame l k q p s) := by
  refine scanStays_next ?_
  split
  · unfold takeGoodFrame
    split <;> exact sameScan_of_ins rfl
  · exact sameScan_of_ins rfl

theorem firstEngineState_ins (s : State) : (firstEngineState s).ins = s.ins := by
  unfold firstEngineState
  (repeat' split) <;> simp

theorem sameScan_execSelfCheckEnd (s : State) : ScanStays s (execSelfCheckEnd s) := by
  refine scanStays_next (sameScan_event false ?_)
  have h : SameScan s (firstEngineState (s.mapCfg checkedCfg)) := sameScan_of_ins (firstEngineState_ins _)
  exact h.trans (sameScan_trainlineEvent _ _)

theorem sameScan_execHoldTimerExpiry (c : Channel) (s : State) : ScanStays s (execHoldTimerExpiry c s) := by
  refine scanStays_next (sameScan_event false (sameScan_ite ?_ ?_)) <;>
    simp [SameScan, reportSensorRange, handOn_ins, State.mapChannel]

theorem sameScan_execDebouncedChange (d : Discrete) (s : State) : ScanStays s (execDebouncedChange d s) := by
  refine scanStays_next (sameScan_event false (sameScan_ite ?_ ?_)) <;> simp [SameScan, State.mapDiscrete]

theorem sameScan_execYieldStageExpiry (s : State) : ScanStays s (execYieldStageExpiry s) := by
  refine scanStays_next ?_
  split
  · exact sameScan_event false (sameScan_ite (sameScan_of_ins rfl) (sameScan_endHandover _ s))
  · rfl

theorem sameScan_execTakeStageExpiry (s : State) : ScanStays s (execTakeStageExpiry s) := by
  refine scanStays_next ?_
  split
  · exact sameScan_event false (sameScan_endHandover _ s)
  · rfl

theorem sameScan_execUnknownKind (l : Link) (k q : Byte) (p : List Byte) (s : State) :
    ScanStays s (execUnknownKind l k q p s) := by
  have h : KeepsScan (answer .badField []) := fun _ => rfl
  refine scanStays_next ?_
  split
  · rfl
  · exact sameScan_request h l _ s

/-- Every command but CONVERSION, POWER_ON and RESET_LINE leaves the scan where it is (R57). -/
theorem scanStays_exec {k : Instr} (hc : ∀ d v, k ≠ .conversion d v) (hp : k ≠ .powerOn) (hr : k ≠ .resetLine)
    (s : State) : ScanStays s (exec k s) := by
  cases k with
  | powerOn => exact absurd rfl hp
  | resetLine => exact absurd rfl hr
  | conversion c raw => exact absurd rfl (hc c raw)
  | selfCheckEnd => exact sameScan_execSelfCheckEnd s
  | linkBreak l =>
    have h : SameScan s (s.mapLink l (LinkIf.broken (s.cfg.active.baudOf l))) := sameScan_of_ins rfl
    exact scanStays_next ((h.trans (sameScan_leaveActive l _ _)).finish s false)
  | goodFrame l k q p => exact sameScan_takeGoodFrame l k q p s
  | badFrame l | interByteGap l | replySent l => exact scanStays_next (sameScan_of_ins rfl)
  | unknownKind l k q p => exact sameScan_execUnknownKind l k q p s
  | enrol l q p => exact scanStays_request (keepsScan_ownerEnrol l p) _ _ s
  | status l q p => exact scanStays_request keepsScan_status _ _ s
  | demand l q p => exact scanStays_request (keepsScan_ownerDemand l p) _ _ s
  | claim l q p => exact scanStays_request (keepsScan_ownerClaim l p) _ _ s
  | yield l q p => exact scanStays_request (keepsScan_ownerYield l p) _ _ s
  | take l q p => exact scanStays_request (keepsScan_ownerTake l p) _ _ s
  | keep l q p => exact scanStays_request (keepsScan_ownerKeep l) _ _ s
  | resetProtection l q p => exact scanStays_request (keepsScan_ownerResetProtection l p) _ _ s
  | resetAll l q p => exact scanStays_request (keepsScan_ownerResetAll l) _ _ s
  | acknowledge l q p => exact scanStays_request keepsScan_ownerAcknowledge _ _ s
  | latch l q p => exact scanStays_request (keepsScan_ownerLatch l p) _ _ s
  | readLatched l q p => exact scanStays_read (keepsScan_ownerReadLatched l p) _ l q p s
  | readCrankHistory l q p => exact scanStays_read (keepsScan_ownerReadCrankHistory p) _ l q p s
  | readProtectionTable l q p => exact scanStays_read (keepsScan_ownerReadProtectionTable p) _ l q p s
  | readAnalogChannelRecords l q p => exact scanStays_read (keepsScan_ownerReadAnalogChannelRecords p) _ l q p s
  | readSourceTableSummary l q p => exact scanStays_read (keepsScan_ownerReadSourceTableSummary p) _ l q p s
  | readConfigurationEntry l q p => exact scanStays_read (keepsScan_ownerReadConfigurationEntry p) _ l q p s
  | readEngineRunRecord l q p => exact scanStays_read (keepsScan_ownerReadEngineRunRecord p) _ l q p s
  | force l q p => exact scanStays_request (keepsScan_ownerForce p) _ _ s
  | releaseForce l q p => exact scanStays_request (keepsScan_ownerReleaseForce p) _ _ s
  | mask l q p => exact scanStays_request (keepsScan_ownerMask p) _ _ s
  | unmask l q p => exact scanStays_request (keepsScan_ownerUnmask p) _ _ s
  | writeEntry l q p => exact scanStays_request (keepsScan_ownerWriteEntry p) _ _ s
  | applyTable l q p => exact scanStays_request keepsScan_ownerApply _ _ s
  | lockGroup l q p | unlockGroup l q p | fixGroup l q p =>
    exact scanStays_request (keepsScan_groupRequest _ _ p) _ _ s
  | clearTripCount l q p => exact scanStays_request (keepsScan_ownerClearTripCount p) _ _ s
  | pickupPulse k | minuteTick => exact scanStays_next (sameScan_of_ins rfl)
  | trainlineWireLevelChange x level => exact scanStays_next (sameScan_of_ins rfl)
  | windowCompletes =>
    have h : SameScan s (rsqWindow { s with spd := (windowWork s.cfg.active (fuelled s) s.spd).1 }) :=
      sameScan_of_ins (rsqWindow_ins _)
    exact scanStays_next ((h.trans (sameScan_of_ins (pruEvent_ins _ _))).finish s true)
  | holdTimerExpiry c => exact sameScan_execHoldTimerExpiry c s
  | discreteInputLevelChange d level => exact scanStays_next (by simp [SameScan, State.mapDiscrete])
  | debouncedChange d => exact sameScan_execDebouncedChange d s
  | filterTimerExpiry e => exact scanStays_next (sameScan_event false (sameScan_of_ins (by simp)))
  | prelubeMinimumExpiry | restTimerExpiry | zeroHoldExpiryCrankRest =>
    exact scanStays_next (sameScan_event false (sameScan_ite (sameScan_of_ins (by simp)) (sameScan_of_ins rfl)))
  | prelubeLimitExpiry | primeTimerExpiry | engageTimerExpiry | crankLimitExpiry | batteryDropoutExpiry
  | budgetTimerExpiry | accelerationTimerExpiry | stallTimerExpiry | zeroHoldExpiryRundown | unloadTimerExpiry =>
    exact scanStays_next (sameScan_event false (sameScan_of_ins (by simp)))
  | lubeArmingExpiry => exact scanStays_next (sameScan_ite (sameScan_of_ins rfl) rfl)
  | freshnessTimerExpiry l => exact scanStays_next (sameScan_event false (sameScan_leaveActive l _ s))
  | trainlineDebouncedChange x | settleTimerExpiry | invalidTimerExpiry =>
    exact scanStays_next (sameScan_event false (sameScan_trainlineEvent _ s))
  | stopHoldExpiry =>
    exact scanStays_next (sameScan_event false (sameScan_ite (sameScan_of_ins (by simp)) (sameScan_of_ins rfl)))
  | yieldStageExpiry => exact sameScan_execYieldStageExpiry s
  | takeStageExpiry => exact sameScan_execTakeStageExpiry s
  | dwellTimerExpiry => exact scanStays_next (sameScan_event true (sameScan_of_ins rfl))
  | rampInterval => exact scanStays_next (SameScan.finish (sameScan_of_ins rfl) s true)
  | idleDwellExpiry =>
    exact scanStays_next (sameScan_event false (sameScan_ite (sameScan_of_ins (by simp [endLowIdleDwell]))
      (sameScan_of_ins rfl)))
  | lowIdleDwellExpiry => exact scanStays_next (sameScan_event false (sameScan_of_ins (by simp [endLowIdleDwell])))
  | autoStopTimerExpiry | batteryLowRestartExpiry =>
    exact scanStays_next (sameScan_event false (sameScan_of_ins (by simp)))
  | storeWriteCompletion => exact scanStays_next (sameScan_ite (sameScan_of_ins rfl) rfl)

end Sys2Proof.Machine
end

section
/-! SUPPORT. CONVERSION and HOLD_TIMER_EXPIRY (R8, R9, R12, R33, R57 to R66). -/

namespace Sys2Proof.Machine

/-! ### What PRU makes of a value -/

/-- The entries that a channel's values are judged for (R78). -/
def judgedBy : Channel → List Entry
  | .lube => [4]
  | .coolant => [6, 9, 10]
  | .fuel => [8]
  | .battery => [12]
  | .intake => [11]
  | .crankcase => [3]

/-- The percentages are no part of any entry. -/
theorem sameDown_of_entries {p q r : Pru} (h : SameDown p q) (he : r.entries = q.entries) : SameDown p r := by
  intro k hk
  have : r.entry k = q.entry k := by simp only [Pru.entry, he]
  rw [this]
  exact h k hk

/-- A value takes no SHUTDOWN and no IDLE-DOWN entry into service or out of it: those are judged through a filter (R78). -/
theorem sameDown_pruValue (c : Channel) (s : State) (p : Pru) : SameDown p (pruValue c s p) := by
  unfold pruValue
  cases c <;> dsimp only
  case lube =>
    split
    · exact sameDown_judge_filtered _ _ _ _ p
    · exact .refl p
  case coolant =>
    refine sameDown_of_entries (SameDown.trans ?_ (sameDown_judge_of_high _ _ _ _ (by decide))) rfl
    split
    · exact (sameDown_judge_filtered _ _ _ _ p).trans (sameDown_judge_of_high _ _ _ _ (by decide))
    · exact sameDown_judge_filtered _ _ _ _ p
  case fuel =>
    split
    · exact sameDown_judge_of_high _ _ _ _ (by decide)
    · exact .refl p
  case battery => exact sameDown_judge_of_high _ _ _ _ (by decide)
  case intake => exact sameDown_of_entries (sameDown_judge_of_high _ _ _ _ (by decide)) rfl
  case crankcase => exact sameDown_judge_filtered _ _ _ _ p

theorem entry_of_entries {p q : Pru} (h : q.entries = p.entries) (e : Entry) : q.entry e = p.entry e := by
  simp only [Pru.entry, h]

/-- A value reaches the entries judged for its channel alone. -/
theorem pruValue_entry_other {c : Channel} {e : Entry} (h : e ∉ judgedBy c) (s : State) (p : Pru) :
    (pruValue c s p).entry e = p.entry e := by
  unfold pruValue
  cases c <;> dsimp only <;>
    simp only [judgedBy, List.mem_cons, List.not_mem_nil, or_false, not_or] at h
  case lube =>
    split
    · exact judge_other _ _ _ _ h
    · rfl
  case coolant =>
    obtain ⟨h6, h9, h10⟩ := h
    refine (entry_of_entries rfl e).trans ((judge_other _ _ _ _ h10).trans ?_)
    split
    · exact (judge_other _ _ _ _ h9).trans (judge_other _ _ _ _ h6)
    · exact judge_other _ _ _ _ h6
  case fuel =>
    split
    · exact judge_other _ _ _ _ h
    · rfl
  case battery => exact judge_other _ _ _ _ h
  case intake => exact (entry_of_entries rfl e).trans (judge_other _ _ _ _ h)
  case crankcase => exact judge_other _ _ _ _ h

/-! ### Handing a value on (R65) -/

theorem movesEngine_rsqValue (c : Channel) (s : State) : MovesEngine s (rsqValue c s) := by
  unfold rsqValue
  dsimp only
  split
  · exact .refl s
  · split
    · split
      · exact movesEngine_enterPriming s
      · exact .refl s
    · split
      · exact movesEngine_enterCranking s
      · exact .refl s
    · exact movesEngine_mapRsq _ s
    · exact .refl s

theorem movesEngine_iruValue (c : Channel) (s : State) : MovesEngine s (iruValue c s) := by
  unfold iruValue
  split
  · unfold coolantTrigger
    split
    · split
      · split
        · exact movesEngine_handRestartTrigger s
        · exact .refl s
      · exact movesEngine_watchTrigger s
      all_goals exact .refl s
    · exact .refl s
  · unfold batteryWatch
    split
    · exact movesEngine_mapIru _ s
    · exact .refl s
  all_goals exact .refl s

/-- RSQ and PRU have taken a channel's value. -/
def valueJudged (c : Channel) (s : State) : State :=
  (rsqValue c s).mapPru fun p => ringBell (pruValue c (rsqValue c s) p)

theorem handOn_eq (c : Channel) (s : State) : handOn c s = iruValue c (valueJudged c s) := by
  unfold handOn valueJudged
  dsimp only
  rw [pruEvent_of_same (sameDown_pruValue c _ _)]

theorem valueJudged_rsq (c : Channel) (s : State) : (valueJudged c s).rsq = (rsqValue c s).rsq := rfl

/-- SENSOR RANGE as INS reports it. -/
def rangeReported (s : State) : State := s.mapPru fun p => ringBell (setCondition 14 s.ins.sensorRange p)

theorem reportSensorRange_eq (s : State) : reportSensorRange s = rangeReported s :=
  pruEvent_setCondition_of_high _ s (by decide)

theorem sensorRange_iff (i : Ins) : i.sensorRange = true ↔ ∃ k : Channel, (i.channel k).state = .substituted := by
  constructor
  · intro h
    simp only [Ins.sensorRange, Bool.or_eq_true, decide_eq_true_eq, or_assoc] at h
    obtain h | h | h | h | h | h := h
    exacts [⟨.lube, h⟩, ⟨.coolant, h⟩, ⟨.fuel, h⟩, ⟨.battery, h⟩, ⟨.intake, h⟩, ⟨.crankcase, h⟩]
  · rintro ⟨k, hk⟩
    simp only [Ins.sensorRange, Bool.or_eq_true, decide_eq_true_eq, or_assoc]
    cases k <;> simp only [Ins.channel] at hk <;> simp [hk]

/-- What an event at a channel leaves of the link interfaces, CFG, the holder and SENSOR RANGE. -/
structure Reports (u v : State) : Prop where
  ins : v.ins = u.ins
  links : v.links = u.links
  cfg : v.cfg = u.cfg
  pending : v.pending = u.pending
  holder : v.aut.holder = u.aut.holder
  range : (v.pru.entry 14).condition = u.ins.sensorRange

theorem reports_rangeReported (u : State) : Reports u (rangeReported u) :=
  ⟨rfl, rfl, rfl, rfl, rfl, by simp [rangeReported]⟩

theorem Reports.moves {u v w : State} (h : Reports u v) (m : MovesEngine v w) : Reports u w where
  ins := m.ins.trans h.ins
  links := m.links.trans h.links
  cfg := m.cfg.trans h.cfg
  pending := m.pending.trans h.pending
  holder := m.holder.trans h.holder
  range := by rw [m.entry 14 (by decide) (by decide) (by decide), h.range]

theorem Reports.handOn {u v : State} (h : Reports u v) (c : Channel) : Reports u (Machine.handOn c v) := by
  have hr := h.moves (movesEngine_rsqValue c v)
  have hp : Reports u (valueJudged c v) :=
    ⟨hr.ins, hr.links, hr.cfg, hr.pending, hr.holder, by
      have h14 : (14 : Entry) ∉ judgedBy c := by cases c <;> decide
      rw [valueJudged, State.mapPru_pru, ringBell_entry, pruValue_entry_other h14, hr.range]⟩
  rw [handOn_eq]
  exact hp.moves (movesEngine_iruValue c _)

/-- What the end of the event shows of it. -/
theorem Reports.shown {s u v : State} (h : Reports u v) (hl : u.links = s.links) (hc : u.cfg = s.cfg)
    (hp : u.pending = s.pending) (ha : u.aut.holder = s.aut.holder) (s0 : State) (test : Bool) :
    Settled (finish s0 test v) ∧ Unchanged [.links, .cfg] s (finish s0 test v) ∧
      (finish s0 test v).aut.holder = s.aut.holder ∧
      (((finish s0 test v).pru.entry 14).condition = true ↔
        ∃ k : Channel, ((finish s0 test v).ins.channel k).state = .substituted) := by
  have m := movesEngine_settle s0 test v
  refine ⟨settled_finish _ _ _, unchanged_cons (agreesOn_links_finish s0 test (h.links.trans hl)) (unchanged_cons
    ((finish_cfg s0 test v).trans (h.cfg.trans hc)) (unchanged_nil ?_)), ?_, ?_⟩
  · exact (finish_pending s0 test v).trans (h.pending.trans hp)
  · exact (m.holder.trans h.holder).trans ha
  · have h14 : ((finish s0 test v).pru.entry 14).condition = u.ins.sensorRange := by
      change ((settle s0 test v).pru.entry 14).condition = _
      rw [m.entry 14 (by decide) (by decide) (by decide), h.range]
    rw [h14, sensorRange_iff, finish_ins, h.ins]


/-! ### The channel's record (R58 to R63, R66) -/

theorem convert_raw (t : Table) (c : Channel) (raw : Nat) (r : ChannelRec) : (convert t c raw r).raw = raw := by
  unfold convert convertValid convertDoubtful ChannelRec.give
  cases r.state <;> dsimp only <;> (repeat' split) <;> rfl

theorem convert_forced (t : Table) (c : Channel) (raw : Nat) (r : ChannelRec) :
    (convert t c raw r).forced = r.forced := by
  unfold convert convertValid convertDoubtful ChannelRec.give
  cases r.state <;> dsimp only <;> (repeat' split) <;> rfl

theorem convert_given (t : Table) (c : Channel) (raw : Nat) (r : ChannelRec) :
    (convert t c raw r).given = r.forced.getD (convert t c raw r).eng := by
  rw [← convert_forced t c raw r]
  rfl

theorem rawInRange_eq (raw : Nat) : rawInRange raw = (decide (40 ≤ raw) && decide (raw ≤ 4055)) :=
  Bool.decide_and _ _

/-- A conversion in VALID (R60). -/
theorem convert_of_valid {r : ChannelRec} (h : r.state = .valid) (t : Table) (c : Channel) (raw : Nat) :
    convert t c raw r = (convertValid t c raw { r with raw := raw }).give := by
  simp [convert, h]

/-- A conversion in HELD and SUBSTITUTED (R61 to R63). -/
theorem convert_of_doubtful {r : ChannelRec} (h : r.state ≠ .valid) (t : Table) (c : Channel) (raw : Nat) :
    convert t c raw r = (convertDoubtful t c raw { r with raw := raw }).give := by
  cases hs : r.state <;> simp [convert, hs] at h ⊢

/-- A conversion moves the record by its state, its history and the range of the value. -/
theorem convert_moves (t : Table) (c : Channel) (raw : Nat) (r : ChannelRec) :
    let x := convert t c raw r
    (r.state = .valid → rawInRange raw = true →
        x.state = .valid ∧ x.eng = scaled t c raw ∧ x.goodSeen = true ∧ x.goodCount = r.goodCount ∧
          x.holdTimer = r.holdTimer) ∧
      (r.state = .valid → rawInRange raw = false → r.goodSeen = true →
        x.state = .held ∧ x.eng = r.eng ∧ x.goodSeen = true ∧ x.goodCount = 0 ∧ x.holdTimer = some 5000) ∧
      (r.state = .valid → rawInRange raw = false → r.goodSeen = false →
        x.state = .substituted ∧ x.eng = substituteOf c ∧ x.goodSeen = false ∧ x.goodCount = 0 ∧
          x.holdTimer = r.holdTimer) ∧
      (r.state ≠ .valid → rawInRange raw = true → 2 ≤ r.goodCount →
        x.state = .valid ∧ x.eng = scaled t c raw ∧ x.goodSeen = true ∧ x.goodCount = 0 ∧ x.holdTimer = none) ∧
      (r.state ≠ .valid → rawInRange raw = true → r.goodCount < 2 →
        x.state = r.state ∧ x.eng = r.eng ∧ x.goodSeen = r.goodSeen ∧ x.goodCount = r.goodCount + 1 ∧
          x.holdTimer = r.holdTimer) ∧
      (r.state ≠ .valid → rawInRange raw = false →
        x.state = r.state ∧ x.eng = r.eng ∧ x.goodSeen = r.goodSeen ∧ x.goodCount = 0 ∧
          x.holdTimer = r.holdTimer) := by
  dsimp only
  refine ⟨fun h hr => ?_, fun h hr hg => ?_, fun h hr hg => ?_, fun h hr hg => ?_, fun h hr hg => ?_, fun h hr => ?_⟩
  · rw [convert_of_valid h]
    simp [convertValid, hr, ChannelRec.give, h]
  · rw [convert_of_valid h]
    simp [convertValid, hr, hg, ChannelRec.give]
  · rw [convert_of_valid h]
    simp [convertValid, hr, hg, ChannelRec.give]
  · rw [convert_of_doubtful h]
    simp [convertDoubtful, hr, hg, ChannelRec.give]
  · rw [convert_of_doubtful h]
    have hg' : ¬2 ≤ r.goodCount := by omega
    simp [convertDoubtful, hr, hg', ChannelRec.give]
  · rw [convert_of_doubtful h]
    simp [convertDoubtful, hr, ChannelRec.give]

/-! ### RSQ and IRU at a value -/

theorem rsqValue_of_calm {c : Channel} {s : State} (h1 : s.rsq.engine ≠ .prelube) (h2 : s.rsq.engine ≠ .priming)
    (h3 : s.rsq.engine ≠ .cranking) : rsqValue c s = s := by
  unfold rsqValue
  dsimp only
  split
  · rfl
  · split
    · next h => exact absurd h h1
    · next h => exact absurd h h2
    · next h => exact absurd h h3
    · rfl

theorem iruValue_of_calm (c : Channel) {s : State} (h1 : s.iru.state ≠ .stopping) (h2 : s.iru.state ≠ .watch) :
    iruValue c s = s := by
  unfold iruValue coolantTrigger batteryWatch
  split
  · split
    · split
      · next h => exact absurd h h1
      · next h => exact absurd h h2
      all_goals rfl
    · rfl
  · rw [if_neg h2]
  all_goals rfl

theorem batteryWatch_rsq (v : Int) (s : State) : (batteryWatch v s).rsq = s.rsq := by
  unfold batteryWatch
  split <;> rfl

/-- The part has taken a conversion in its turn and reported SENSOR RANGE. -/
def convertedState (c : Channel) (raw : Nat) (s : State) : State :=
  rangeReported (s.mapIns (Ins.converted s.cfg.active c raw))

theorem exec_conversion {c : Channel} {raw : BitVec 12} {s : State} (h : s.ins.scanNext = c) :
    exec (.conversion c raw) s = .next (finish s false (handOn c (convertedState c raw.toNat s))) := by
  change execConversion c raw s = _
  rw [execConversion_in_turn raw h, reportSensorRange_eq]
  rfl

theorem reports_conversion (c d : Channel) (raw : Nat) (s : State) :
    Reports (s.mapIns (Ins.converted s.cfg.active c raw)) (handOn d (convertedState c raw s)) :=
  (reports_rangeReported _).handOn d

/-- Outside PRELUBE, PRIMING and CRANKING, with IRU outside STOPPING and WATCH, a value moves PRU alone. -/
theorem handOn_of_calm (c : Channel) {s : State} (h1 : s.rsq.engine ≠ .prelube) (h2 : s.rsq.engine ≠ .priming)
    (h3 : s.rsq.engine ≠ .cranking) (h4 : s.iru.state ≠ .stopping) (h5 : s.iru.state ≠ .watch) :
    handOn c s = s.mapPru fun p => ringBell (pruValue c s p) := by
  have hr : rsqValue c s = s := rsqValue_of_calm h1 h2 h3
  have hv : valueJudged c s = s.mapPru fun p => ringBell (pruValue c s p) := by rw [valueJudged, hr]
  rw [handOn_eq, hv]
  exact iruValue_of_calm c h4 h5

/-- A BATTERY value in CRANKING (R12, R33). -/
theorem handOn_battery_rsq {s : State} (hc : s.cfg.checking = false) (he : s.rsq.engine = .cranking) :
    (handOn .battery s).rsq = batteryInCranking s.cfg.active.crankDropout s.ins.battery.given s.rsq := by
  have hr : rsqValue .battery s = s.mapRsq (batteryInCranking s.cfg.active.crankDropout s.ins.battery.given) := by
    simp [rsqValue, hc, he, Ins.channel]
  rw [handOn_eq]
  change (batteryWatch _ (valueJudged .battery s)).rsq = _
  rw [batteryWatch_rsq, valueJudged_rsq, hr]
  rfl

theorem batteryInCranking_eq {x : Rsq} {older : List CrankRecord} {n : CrankRecord} (h : x.history = older ++ [n])
    (ho : n.isOpen = true) (hp : n.outcome = .inProgress) (dropout v : Int) :
    batteryInCranking dropout v x =
      { x with
        history := older ++ [{ n with batteryMin := n.batteryMin.map (min v) }]
        timers :=
          { x.timers with
            batteryDropout :=
              if v < dropout then (if x.timers.batteryDropout = none then some 1000 else x.timers.batteryDropout)
              else none } } := by
  simp only [batteryInCranking, h, modifyNewest_append, CrankRecord.cranking, ho, hp, Option.isNone_iff_eq_none]
  simp

/-- A LUBE PRESSURE value after the minimum prelube (R8). -/
theorem handOn_lube_rsq {s : State} (hc : s.cfg.checking = false) (he : s.rsq.engine = .prelube)
    (hm : s.rsq.timers.prelubeMinimum = none) (hl : s.cfg.active.prelubePressure ≤ s.ins.lube.given) :
    (handOn .lube s).rsq = (enterPriming s).rsq := by
  have hr : rsqValue .lube s = enterPriming s := by
    simp [rsqValue, hc, he, Ins.channel, hm, hl]
  rw [handOn_eq]
  change (valueJudged .lube s).rsq = _
  rw [valueJudged_rsq, hr]

/-- A FUEL PRESSURE value in PRIMING (R9). -/
theorem handOn_fuel_rsq {s : State} (hc : s.cfg.checking = false) (he : s.rsq.engine = .priming)
    (hf : s.cfg.active.primePressure ≤ s.ins.fuel.given) : (handOn .fuel s).rsq = (enterCranking s).rsq := by
  have hr : rsqValue .fuel s = enterCranking s := by
    simp [rsqValue, hc, he, Ins.channel, hf]
  rw [handOn_eq]
  change (valueJudged .fuel s).rsq = _
  rw [valueJudged_rsq, hr]

/-- A conversion of FUEL PRESSURE is nothing to the permissives. -/
theorem failingPermissive_converted_fuel (raw : Nat) (s : State) :
    failingPermissive (convertedState .fuel raw s) = failingPermissive s := by
  have hf : (convertedState .fuel raw s).ins.fuel.forced = s.ins.fuel.forced := convert_forced _ _ _ _
  have hforces : forcesActive (convertedState .fuel raw s) = forcesActive s := by
    unfold forcesActive
    rw [hf]
    rfl
  unfold failingPermissive
  rw [hforces]
  rfl

/-- HOLD_TIMER_EXPIRY: the channel is SUBSTITUTED, and hands its value on where it is not forced (R61, R66). -/
theorem exec_holdTimerExpiry {c : Channel} {s : State} (hs : (s.ins.channel c).state = .held)
    (ht : (s.ins.channel c).holdTimer.isSome = true) :
    exec (.holdTimerExpiry c) s = .next (finish s false
      (if (s.ins.channel c).forced.isSome = true then rangeReported (s.mapChannel c (substituted c))
        else handOn c (rangeReported (s.mapChannel c (substituted c))))) := by
  change Host.Outcome.next (if _ then _ else _) = _
  rw [if_pos ⟨hs, ht⟩, reportSensorRange_eq]

/-- Settles O46: a conversion in its turn moves its record, and its consumers take the value one after another. -/
theorem conversionsMoveTheChannel : Obligations.ConversionsMoveTheChannel := by
  intro c raw s
  dsimp only
  refine ⟨fun hc => ?_, fun hs ht => ?_, fun hn => execConversion_out_of_turn raw hn,
    fun k t hx h1 h2 h3 => scanStays_exec h1 h2 h3 s t hx⟩
  · have hrep := reports_conversion c c raw.toNat s
    have hins : (finish s false (handOn c (convertedState c raw.toNat s))).ins =
        Ins.converted s.cfg.active c raw.toNat s.ins := (finish_ins _ _ _).trans hrep.ins
    have hch : (finish s false (handOn c (convertedState c raw.toNat s))).ins.channel c =
        convert s.cfg.active c raw.toNat (s.ins.channel c) := by
      rw [hins]
      cases c <;> rfl
    refine ⟨_, exec_conversion hc, hrep.shown (s := s) rfl rfl rfl rfl s false, ?_⟩
    rw [hch, hins, ← rawInRange_eq]
    obtain ⟨m1, m2, m3, m4, m5, m6⟩ := convert_moves s.cfg.active c raw.toNat (s.ins.channel c)
    refine ⟨by cases c <;> rfl, convert_raw _ _ _ _, convert_forced _ _ _ _, convert_given _ _ _ _, m1, m2, m3, m4,
      m5, m6, fun e1 e2 e3 e4 i1 i2 => ?_, fun hk hsound => ⟨fun older n hh hb he ho hp => ?_,
        fun hl he hm hpre hf => ?_, fun hfu he hpr hper => ?_⟩⟩
    · have hcalm := handOn_of_calm c (s := convertedState c raw.toNat s) e1 e2 e3 i1 i2
      obtain ⟨hfr, hfs, hfp, hfa⟩ := finish_of_ne (s0 := s) (test := false)
        (s := handOn c (convertedState c raw.toNat s)) (by rw [hcalm]; exact e4)
      refine ⟨unchanged_cons (hfr.trans (by rw [hcalm]; rfl)) (unchanged_cons (hfs.trans (by rw [hcalm]; rfl))
        (unchanged_cons (hfa.trans (by rw [hcalm]; rfl)) (unchanged_nil (hrep.shown (s := s) rfl rfl rfl rfl s false).2.1.1))),
        fun e he => ?_⟩
      have hne : e ≠ 14 ∧ e ∉ judgedBy c := by
        cases c <;> simp only [List.mem_cons, List.not_mem_nil, or_false, not_or] at he <;> simp [judgedBy, he]
      rw [hfp, hcalm, State.mapPru_pru, ringBell_entry, pruValue_entry_other hne.2]
      exact setCondition_other _ _ hne.1
    · subst hb
      have hx := handOn_battery_rsq (s := convertedState .battery raw.toNat s) hk he
      obtain ⟨hfr, -⟩ := finish_of_ne (s0 := s) (test := false) (s := handOn .battery (convertedState .battery raw.toNat s))
        (by rw [hx]; change s.rsq.engine ≠ _; simp [he])
      rw [hfr, hx]
      exact batteryInCranking_eq hh ho hp _ _
    · subst hl
      have hx := handOn_lube_rsq (s := convertedState .lube raw.toNat s) hk he hm hpre
      have hpm : enterPriming (convertedState .lube raw.toNat s) = primed (convertedState .lube raw.toNat s) := by
        rw [enterPriming_eq]
        exact if_neg (Int.not_le.2 hf)
      rw [hpm, primed_rsq] at hx
      obtain ⟨hfr, -⟩ := finish_of_ne (s0 := s) (test := false) (s := handOn .lube (convertedState .lube raw.toNat s))
        (by rw [hx]; simp [enterState])
      rw [hfr, hx]
      rfl
    · subst hfu
      have hx := handOn_fuel_rsq (s := convertedState .fuel raw.toNat s) hk he hpr
      have hper' : Permitted (convertedState .fuel raw.toNat s) := by
        rwa [← failingPermissive_none_iff, failingPermissive_converted_fuel, failingPermissive_none_iff]
      have hent := crankingEntered_beginCranking (convertedState .fuel raw.toNat s)
      rw [enterCranking_of_permitted hper', hent] at hx
      obtain ⟨hfr, -⟩ := finish_of_ne (s0 := s) (test := false) (s := handOn .fuel (convertedState .fuel raw.toNat s))
        (by rw [hx]; simp [enterState])
      unfold CrankingEntered
      rw [hfr, hx]
      rfl
  · have hrep : Reports (s.mapChannel c (substituted c))
        (if (s.ins.channel c).forced.isSome = true then rangeReported (s.mapChannel c (substituted c))
          else handOn c (rangeReported (s.mapChannel c (substituted c)))) := by
      split
      · exact reports_rangeReported _
      · exact (reports_rangeReported _).handOn c
    refine ⟨_, exec_holdTimerExpiry hs ht, hrep.shown (s := s) rfl rfl rfl rfl s false, ?_⟩
    exact (finish_ins _ _ _).trans hrep.ins

end Sys2Proof.Machine
end

section
/-! SUPPORT. WINDOW_COMPLETES at RSQ (R11, R13, R14, R16, R23, R29, R34). -/

namespace Sys2Proof.Machine

/-! ### The run accumulator (R29) -/

/-- The run accumulator after a window of measured speed `v`. -/
def EngineCounters.counted (fire v : Int) (k : EngineCounters) : EngineCounters :=
  if v < fire then k
  else if 3600 ≤ k.runAcc + 1 then { k with runAcc := 0, runTime := min 4294967295 (k.runTime + 1) }
  else { k with runAcc := k.runAcc + 1 }

/-- RSQ with its run accumulator counted. -/
def runCounted (s : State) : State :=
  if s.cfg.active.fireSpeed ≤ (s.spd.measured : Int) then
    s.mapRsq fun r => { r with counters := runAccumulate r.counters }
  else s

theorem runCounted_eq (s : State) :
    runCounted s =
      s.mapRsq fun r => { r with counters := r.counters.counted s.cfg.active.fireSpeed s.spd.measured } := by
  unfold runCounted EngineCounters.counted
  by_cases h : s.cfg.active.fireSpeed ≤ (s.spd.measured : Int)
  · have h' : ¬(s.spd.measured : Int) < s.cfg.active.fireSpeed := by omega
    simp only [if_pos h, if_neg h', runAccumulate, satInc_eq_min]
  · have h' : (s.spd.measured : Int) < s.cfg.active.fireSpeed := by omega
    simp only [if_neg h, if_pos h']
    rfl

theorem rsqWindow_eq {s : State} (h : s.cfg.checking = false) :
    rsqWindow s =
      match s.rsq.engine with
      | .cranking => crankingWindow (runCounted s)
      | .accelerating => acceleratingWindow (runCounted s)
      | .crankRest => crankRestWindow (runCounted s)
      | .rundown => rundownWindow (runCounted s)
      | .stopped | .autoStopped | .lockedOut | .prelube | .priming | .running | .unloading => runCounted s := by
  unfold rsqWindow
  rw [if_neg (by simp [h])]
  rfl

theorem movesEngine_runCounted (s : State) : MovesEngine s (runCounted s) := by
  rw [runCounted_eq]
  exact movesEngine_mapRsq _ s

/-- RSQ with the attempt's record written FIRED and the crank fuel latch set. -/
def firedRsq (r : Rsq) : Rsq := writeAttempt .fired (elapsedCranking r.history) { r with crankFuelLatch := true }

theorem fireAttempt_eq (s : State) :
    fireAttempt s =
      (changeEngine .accelerating (s.mapRsq firedRsq)).mapTimers fun x =>
        { x with acceleration := some (tenthsMs s.cfg.active.accelLimit), lubeArming := some 10000 } := rfl

theorem movesEngine_fireAttempt (s : State) : MovesEngine s (fireAttempt s) := by
  rw [fireAttempt_eq]
  exact ((movesEngine_mapRsq firedRsq s).trans (movesEngine_changeEngine _ _)).trans (movesEngine_mapTimers _ _)

theorem movesEngine_crankingWindow (s : State) : MovesEngine s (crankingWindow s) := by
  refine (movesEngine_mapRsq tickCranking s).trans ?_
  change MovesEngine _ (crankingThresholds (s.mapRsq tickCranking))
  generalize s.mapRsq tickCranking = u
  unfold crankingThresholds
  split
  · exact movesEngine_fireAttempt u
  · split
    · exact movesEngine_mapRsq _ u
    · exact .refl u

theorem movesEngine_acceleratingWindow (s : State) : MovesEngine s (acceleratingWindow s) := by
  unfold acceleratingWindow
  split
  · exact (movesEngine_mapRsq _ s).trans (movesEngine_changeEngine _ _)
  · exact movesEngine_mapTimers _ s

theorem movesEngine_rsqWindow (s : State) : MovesEngine s (rsqWindow s) := by
  cases hc : s.cfg.checking
  · rw [rsqWindow_eq hc]
    have h := movesEngine_runCounted s
    split
    · exact h.trans (movesEngine_crankingWindow _)
    · exact h.trans (movesEngine_acceleratingWindow _)
    · exact h.trans (movesEngine_mapRsq _ _)
    · exact h.trans (movesEngine_mapTimers _ _)
    all_goals exact h
  · have h : rsqWindow s = s := by simp [rsqWindow, hc]
    rw [h]
    exact .refl s

/-! ### What the window reports (R46, R48, R50) -/

theorem reportEvent_other {d e : Entry} (p : Pru) (h : d ≠ e) : (reportEvent e p).entry d = p.entry d := by
  unfold reportEvent
  dsimp only
  split
  · exact Pru.entry_setEntry_other _ _ h
  · rfl

/-- Besides OVERSPEED and SPEED SENSE LOST a window reports PICKUP FAULT alone. -/
theorem windowReports_entry (fault isOver isLost : Bool) (p : Pru) {e : Entry} (h1 : e ≠ 1) (h2 : e ≠ 2)
    (h13 : e ≠ 13) : (windowReports fault isOver isLost p).entry e = p.entry e := by
  have hp : (setCondition 13 fault p).entry e = p.entry e := setCondition_other _ _ h13
  unfold windowReports
  dsimp only
  cases isOver <;> cases isLost <;> simp [reportEvent_other _ h1, reportEvent_other _ h2, hp]

/-- A window that leaves OVERSPEED and SPEED SENSE LOST alone hands nothing on. -/
theorem sameDown_windowReports {fault isOver isLost : Bool} {p : Pru}
    (h1 : (windowReports fault isOver isLost p).entry 1 = p.entry 1)
    (h2 : (windowReports fault isOver isLost p).entry 2 = p.entry 2) :
    SameDown p (windowReports fault isOver isLost p) := by
  intro k hk
  by_cases hk1 : k = 1
  · rw [hk1, h1]
  · by_cases hk2 : k = 2
    · rw [hk2, h2]
    · rw [windowReports_entry _ _ _ _ hk1 hk2]
      rintro rfl
      revert hk
      decide

/-! ### The window -/

/-- SPD after the window's work, and what it reports. -/
def windowSpd (s : State) : Spd × Bool := windowWork s.cfg.active (fuelled s) s.spd

/-- The part after SPD's work and RSQ's. -/
def windowRsq (s : State) : State := rsqWindow { s with spd := (windowSpd s).1 }

/-- What the window reports to PRU. -/
def windowPru (s : State) : Pru → Pru :=
  windowReports (windowSpd s).1.pickupFault
    (decide (s.cfg.active.overspeedLimit ≤ ((windowSpd s).1.overspeed : Int))) (windowSpd s).2

theorem exec_windowCompletes (s : State) :
    exec .windowCompletes s = .next (finish s true (pruEvent (windowPru s) (windowRsq s))) := rfl

theorem movesEngine_windowRsq (s : State) : MovesEngine { s with spd := (windowSpd s).1 } (windowRsq s) :=
  movesEngine_rsqWindow _

/-- The event at the table, and the settling, leave SPD's measured speed and entries 1 and 2 alone. -/
theorem windowEvent_moves (s : State) :
    MovesEngine ((windowRsq s).mapPru fun p => ringBell (windowPru s p))
      (settle s true (pruEvent (windowPru s) (windowRsq s))) :=
  (movesEngine_handOff (windowRsq s).pru ((windowRsq s).mapPru fun p => ringBell (windowPru s p))).trans
    (movesEngine_settle s true _)

theorem window_measured (s : State) :
    (finish s true (pruEvent (windowPru s) (windowRsq s))).spd.measured = (windowSpd s).1.measured := by
  have h := (windowEvent_moves s).measured
  exact h.trans (movesEngine_windowRsq s).measured

theorem finish_pru_eq (s0 : State) (test : Bool) (s : State) : (finish s0 test s).pru = (settle s0 test s).pru := rfl

/-- Where neither OVERSPEED nor SPEED SENSE LOST has moved, the window moves no entry but 13, and hands nothing on. -/
theorem window_quiet {s : State}
    (h1 : (finish s true (pruEvent (windowPru s) (windowRsq s))).pru.entry 1 = s.pru.entry 1)
    (h2 : (finish s true (pruEvent (windowPru s) (windowRsq s))).pru.entry 2 = s.pru.entry 2) :
    pruEvent (windowPru s) (windowRsq s) = (windowRsq s).mapPru fun p => ringBell (windowPru s p) := by
  have hm := windowEvent_moves s
  have hr := movesEngine_windowRsq s
  have hfin : (finish s true (pruEvent (windowPru s) (windowRsq s))).pru =
      (settle s true (pruEvent (windowPru s) (windowRsq s))).pru := finish_pru_eq _ _ _
  have hkeep : ∀ e : Entry, e ≠ 4 → e ≠ 8 → e ≠ 9 →
      (settle s true (pruEvent (windowPru s) (windowRsq s))).pru.entry e = s.pru.entry e →
      (windowPru s (windowRsq s).pru).entry e = (windowRsq s).pru.entry e := fun e h4 h8 h9 h =>
    ((hm.entry e h4 h8 h9).symm.trans h).trans (hr.entry e h4 h8 h9).symm
  rw [hfin] at h1 h2
  exact pruEvent_of_same (sameDown_windowReports (hkeep 1 (by decide) (by decide) (by decide) h1)
    (hkeep 2 (by decide) (by decide) (by decide) h2))


/-! ### RSQ's work, state by state -/

/-- RSQ's record with the run accumulator counted. -/
def Rsq.counted (fire v : Int) (x : Rsq) : Rsq := { x with counters := x.counters.counted fire v }

theorem runCounted_rsq (s : State) :
    (runCounted s).rsq = s.rsq.counted s.cfg.active.fireSpeed s.spd.measured := by
  rw [runCounted_eq]
  rfl

theorem tickCranking_eq {x : Rsq} {older : List CrankRecord} {r : CrankRecord} (h : x.history = older ++ [r]) :
    ∃ d, (d = r.duration ∨ d = r.duration + 1) ∧
      tickCranking x = { x with history := older ++ [{ r with duration := d }] } := by
  by_cases hc : (r.cranking && decide (r.duration < crankingDue x)) = true
  · exact ⟨r.duration + 1, .inr rfl, by simp only [tickCranking, h, modifyNewest_append, if_pos hc]⟩
  · exact ⟨r.duration, .inl rfl, by simp only [tickCranking, h, modifyNewest_append, if_neg hc]⟩

/-- The attempt fires (R11, R34): its record is FIRED and stays open. -/
theorem firedRsq_eq {x : Rsq} {older : List CrankRecord} {r : CrankRecord} (h : x.history = older ++ [r])
    (ho : r.isOpen = true) (hp : r.outcome = .inProgress) :
    firedRsq x =
      { x.attemptEnded older r .fired r.duration with
        crankFuelLatch := true, history := older ++ [{ r with outcome := .fired }] } := by
  simp [firedRsq, writeAttempt, Rsq.attemptEnded, addCrankTime, h, modifyNewest_append,
    elapsedCranking_append older ho hp, ho]

theorem fireAttempt_rsq (s : State) :
    (fireAttempt s).rsq =
      { enterState .accelerating (firedRsq s.rsq) with
        timers :=
          { stoppedTimers with acceleration := some (tenthsMs s.cfg.active.accelLimit), lubeArming := some 10000 } } := by
  simp [fireAttempt_eq, changeEngine_rsq_of_new _ (show Engine.accelerating ≠ .rundown by decide), enterState,
    fuelEnableIn, stoppedTimers]

/-- A window in CRANKING (R11, R33, R34). -/
theorem crankingWindow_rsq {s : State} {older : List CrankRecord} {r : CrankRecord}
    (h : s.rsq.history = older ++ [r]) (ho : r.isOpen = true) (hp : r.outcome = .inProgress) :
    ∃ d, (d = r.duration ∨ d = r.duration + 1) ∧
      (s.cfg.active.fireSpeed ≤ (s.spd.measured : Int) → (crankingWindow s).rsq =
        { enterState .accelerating
            { s.rsq.attemptEnded older r .fired d with
              crankFuelLatch := true, history := older ++ [{ r with duration := d, outcome := .fired }] } with
          timers :=
            { stoppedTimers with
              acceleration := some (tenthsMs s.cfg.active.accelLimit), lubeArming := some 10000 } }) ∧
      (¬s.cfg.active.fireSpeed ≤ (s.spd.measured : Int) → (crankingWindow s).rsq =
        { s.rsq with
          crankFuelLatch := decide (s.cfg.active.crankFuelSpeed ≤ (s.spd.measured : Int)) || s.rsq.crankFuelLatch
          fuelEnable := decide (s.cfg.active.crankFuelSpeed ≤ (s.spd.measured : Int)) || s.rsq.fuelEnable
          history := older ++ [{ r with duration := d }] }) := by
  obtain ⟨d, hd, ht⟩ := tickCranking_eq h
  have hu : (s.mapRsq tickCranking).rsq = { s.rsq with history := older ++ [{ r with duration := d }] } := ht
  refine ⟨d, hd, fun hf => ?_, fun hf => ?_⟩
  · have hw : crankingWindow s = fireAttempt (s.mapRsq tickCranking) := if_pos hf
    rw [hw, fireAttempt_rsq, hu, firedRsq_eq (r := { r with duration := d }) rfl ho hp]
    rfl
  · have hw : crankingWindow s =
        if s.cfg.active.crankFuelSpeed ≤ (s.spd.measured : Int) then latchCrankFuel (s.mapRsq tickCranking)
        else s.mapRsq tickCranking := if_neg hf
    rw [hw]
    split
    · next hc => simp [latchCrankFuel, ht, hc]
    · next hc => simp [ht, hc]

/-- A window in ACCELERATING at the idle speed less BAND (R14). -/
theorem acceleratingWindow_success {s : State} {older : List CrankRecord} {r : CrankRecord}
    (h : s.rsq.history = older ++ [r])
    (hv : (s.cfg.active.speedAt 0 : Int) - s.cfg.active.band ≤ (s.spd.measured : Int)) :
    (acceleratingWindow s).rsq =
      enterState .running
        { s.rsq with
          startResult := .started, history := older ++ [{ r with outcome := .fired, isOpen := false }]
          counters :=
            { s.rsq.counters with successfulStarts := min 65535 (s.rsq.counters.successfulStarts + 1) } } := by
  have hw : acceleratingWindow s = succeedStart s := if_pos hv
  rw [hw, succeedStart, changeEngine_rsq_of_new _ (by decide), State.mapRsq_rsq]
  simp only [closeFired, h, modifyNewest_append, satInc_eq_min]

/-- RUNNING begins with the up dwell of notch 0 (R147). -/
theorem acceleratingWindow_ntu {s : State} (he : s.rsq.engine = .accelerating)
    (hv : (s.cfg.active.speedAt 0 : Int) - s.cfg.active.band ≤ (s.spd.measured : Int)) :
    (acceleratingWindow s).ntu.dwell = some ⟨.up, s.cfg.active.upDwell 0⟩ ∧
      (acceleratingWindow s).ntu.applied = s.ntu.applied := by
  have hw : acceleratingWindow s = succeedStart s := if_pos hv
  have hx : ∀ f : Rsq → Rsq, (f s.rsq).engine = .accelerating →
      (changeEngine .running (s.mapRsq f)).ntu.dwell = some ⟨.up, s.cfg.active.upDwell 0⟩ ∧
        (changeEngine .running (s.mapRsq f)).ntu.applied = s.ntu.applied := by
    intro f hf
    rw [changeEngine_ntu]
    simp [Ntu.engineChanged, hf, Engine.runningFamily]
  rw [hw, succeedStart]
  exact hx _ he

theorem acceleratingWindow_slow {s : State}
    (hv : ¬(s.cfg.active.speedAt 0 : Int) - s.cfg.active.band ≤ (s.spd.measured : Int)) :
    (acceleratingWindow s).rsq =
      { s.rsq with
        timers :=
          { s.rsq.timers with
            stall :=
              if (s.spd.measured : Int) < s.cfg.active.fireSpeed - 50 then
                (if s.rsq.timers.stall = none then some 1000 else s.rsq.timers.stall)
              else none } } := by
  have hw : acceleratingWindow s = s.mapTimers fun x =>
      { x with stall := stallTimerAt s.cfg.active.fireSpeed s.spd.measured x.stall } := if_neg hv
  rw [hw]
  simp only [State.mapTimers_rsq, stallTimerAt, Option.isNone_iff_eq_none]

theorem zeroHoldAt_eq (ms : Nat) (confirmed : Bool) (speed : Nat) (t : Timer) :
    zeroHoldAt ms confirmed speed t =
      if (speed : Int) = 0 then (if t = none ∧ confirmed = false then some ms else t) else none := by
  unfold zeroHoldAt
  cases t <;> cases confirmed <;> simp

/-- The zero hold timer after a window (R16, R23). -/
def zeroHoldAfter (ms : Nat) (confirmed : Bool) (v : Int) (t : Timer) : Timer :=
  if v = 0 then (if t = none ∧ confirmed = false then some ms else t) else none

theorem crankRestWindow_rsq (s : State) :
    (crankRestWindow s).rsq =
      { s.rsq with
        zeroConfirmed := s.rsq.zeroConfirmed && decide ((s.spd.measured : Int) = 0)
        timers :=
          { s.rsq.timers with
            zeroHold := zeroHoldAfter 1000 s.rsq.zeroConfirmed s.spd.measured s.rsq.timers.zeroHold } } := by
  simp only [crankRestWindow, State.mapRsq_rsq, zeroHoldAt_eq, zeroHoldAfter, Int.natCast_eq_zero]

theorem rundownWindow_rsq (s : State) :
    (rundownWindow s).rsq =
      { s.rsq with
        timers :=
          { s.rsq.timers with zeroHold := zeroHoldAfter 2000 false s.spd.measured s.rsq.timers.zeroHold } } := by
  simp only [rundownWindow, State.mapTimers_rsq, zeroHoldAt_eq, zeroHoldAfter]

/-! ### The dwell that RUNNING begins with -/

/-- At notch 0, with an up dwell running, the step channel stands still (R142 to R144). -/
theorem stepChannel_of_dwell {s : State} {ms : Nat} (hd : s.ntu.dwell = some ⟨.up, ms⟩) (ha : s.ntu.applied = 0) :
    stepChannel s = s := by
  simp [stepChannel, upStepOpen, downStepOpen, hd, ha]

theorem finish_dwell {s : State} {ms : Nat} (hd : s.ntu.dwell = some ⟨.up, ms⟩) (ha : s.ntu.applied = 0)
    (hne : s.rsq.engine ≠ .unloading) (s0 : State) (test : Bool) :
    (finish s0 test s).ntu.dwell = some ⟨.up, ms⟩ := by
  obtain ⟨x, hx, hc⟩ := settle_form s0 test s
  have hxd : x.ntu.dwell = some ⟨.up, ms⟩ ∧ x.rsq.engine = s.rsq.engine := by
    rcases hc with rfl | rfl
    · exact ⟨hd, rfl⟩
    · rw [stepChannel_of_dwell (s := settleInputs s) (by simpa using hd) (by simpa using ha)]
      exact ⟨by simpa using hd, by simp⟩
  change (settle s0 test s).ntu.dwell = _
  rw [hx, reportUnload_of_ne (by simpa [hxd.2] using hne)]
  simpa using hxd.1

/-- Settles O45: a window that trips nothing is RSQ's work in its state. -/
theorem windowsMoveTheRunSequencer : Obligations.WindowsMoveTheRunSequencer := by
  intro s hs hk
  dsimp only
  have hout : InStep (finish s true (pruEvent (windowPru s) (windowRsq s))) := by
    obtain ⟨h1, h2, -, -⟩ := hs
    exact (keepsEngine_exec .windowCompletes s _ (exec_windowCompletes s)).inStep ⟨h1, h2⟩
  refine ⟨_, exec_windowCompletes s, settled_finish _ _ _, hout.1, fun h1 h2 => ?_⟩
  have hv := window_measured s
  rw [hv]
  have hq := window_quiet h1 h2
  have hw : windowRsq s = _ := rsqWindow_eq (s := { s with spd := (windowSpd s).1 }) hk
  have hfin : ∀ r : Rsq, (windowRsq s).rsq = r → r.engine ≠ .unloading →
      (finish s true (pruEvent (windowPru s) (windowRsq s))).rsq = r := by
    intro r hr hne
    have hx : (pruEvent (windowPru s) (windowRsq s)).rsq = r := by rw [hq]; exact hr
    rw [(finish_of_ne (by rw [hx]; exact hne)).1, hx]
  have hcount := runCounted_rsq { s with spd := (windowSpd s).1 }
  generalize hd : ({ s with spd := (windowSpd s).1 } : State) = d at hw hcount
  have hdr : d.rsq = s.rsq := by rw [← hd]
  have hdc : d.cfg = s.cfg := by rw [← hd]
  have hdv : d.spd.measured = (windowSpd s).1.measured := by rw [← hd]
  rw [← hdv]
  rw [hdr, hdc] at hcount
  have hblocks : (runCounted d).cfg = s.cfg ∧ (runCounted d).spd.measured = d.spd.measured ∧
      (runCounted d).ntu = s.ntu := by
    rw [runCounted_eq, ← hd]
    exact ⟨rfl, rfl, rfl⟩
  obtain ⟨hbc, hbv, hbn⟩ := hblocks
  refine ⟨fun older r hh hlaw he => ?_, fun older r hh he => ?_, fun he => ?_, fun he => ?_, fun he => ?_⟩
  · have hwin : windowRsq s = crankingWindow (runCounted d) := by rw [hw, hdr, he]
    obtain ⟨-, -, -, -, hopen, -⟩ := hlaw
    obtain ⟨n, hn, ho, hp⟩ := hopen he
    have hnr : n = r := by simpa [newest, hh] using hn.symm
    rw [hnr] at ho hp
    obtain ⟨n, hn, hfire, hslow⟩ := crankingWindow_rsq (s := runCounted d) (by rw [hcount]; exact hh) ho hp
    rw [hbc, hbv, hcount] at hfire hslow
    refine ⟨n, hn, ?_⟩
    split
    · next hf =>
      rw [hfin _ (hwin ▸ hfire hf) (by simp [enterState])]
      rfl
    · next hf =>
      have hlt : (d.spd.measured : Int) < s.cfg.active.fireSpeed := by omega
      have hx := hslow hf
      rw [Rsq.counted, EngineCounters.counted, if_pos hlt] at hx
      exact hfin _ (hwin ▸ hx) (by simp [he])
  · have hwin : windowRsq s = acceleratingWindow (runCounted d) := by rw [hw, hdr, he]
    have hea : (runCounted d).rsq.engine = .accelerating := by rw [hcount]; exact he
    split
    · next hf =>
      rw [← hbc, ← hbv] at hf
      have hx := acceleratingWindow_success (s := runCounted d) (by rw [hcount]; exact hh) hf
      obtain ⟨hdw, hap⟩ := acceleratingWindow_ntu hea hf
      rw [hcount] at hx
      have heng : (pruEvent (windowPru s) (windowRsq s)).rsq.engine = .running := by
        rw [hq, State.mapPru_rsq, hwin, hx]
        rfl
      refine ⟨?_, fun h0 => ?_⟩
      · rw [hfin _ (hwin ▸ hx) (by simp [enterState])]
        simp only [Rsq.counted, EngineCounters.counted]
        congr 2
        (repeat' split) <;> rfl
      · rw [hbn] at hap
        rw [hbc] at hdw
        refine finish_dwell ?_ ?_ (by simp [heng]) s true
        · rw [hq, State.mapPru_ntu, hwin, hdw]
        · rw [hq, State.mapPru_ntu, hwin, hap, h0]
    · next hf =>
      rw [← hbc, ← hbv] at hf
      have hx := acceleratingWindow_slow (s := runCounted d) hf
      rw [hbc, hbv, hcount] at hx
      rw [hfin _ (hwin ▸ hx) (by simp [Rsq.counted, he])]
      rfl
  · have hwin : windowRsq s = crankRestWindow (runCounted d) := by rw [hw, hdr, he]
    have hx := crankRestWindow_rsq (runCounted d)
    rw [hbv, hcount] at hx
    rw [hfin _ (hwin ▸ hx) (by simp [Rsq.counted, he])]
    rfl
  · have hwin : windowRsq s = rundownWindow (runCounted d) := by rw [hw, hdr, he]
    have hx := rundownWindow_rsq (runCounted d)
    rw [hbv, hcount] at hx
    rw [hfin _ (hwin ▸ hx) (by simp [Rsq.counted, he])]
    rfl
  · have hwin : windowRsq s = runCounted d := by
      rw [hw, hdr]
      cases heng : s.rsq.engine <;> simp [heng, Engine.atRest] at he ⊢
    have hne : s.rsq.engine ≠ .unloading := by
      rintro h
      simp [h, Engine.atRest] at he
    rw [hfin _ (hwin ▸ hcount) (by simpa [Rsq.counted] using hne)]
    rfl

end Sys2Proof.Machine
end

section
/-! SUPPORT. The restarts of IRU, and its judgement of the idle reduction conditions (R27, R158 to R164). -/

namespace Sys2Proof.Machine

/-! ### An auto restart of IRU's (R27, R163, R164) -/

/-- The event from `s` to `t` has handed RSQ an auto restart: accepted or refused by the permissives of `u`, with AUT as
`a` before it. -/
def Restarted (s u t : State) (a : Aut) : Prop :=
  (Permitted u →
      PrelubeEntered .auto s.rsq u t ∧ t.spd = s.spd ∧ t.iru.restartRefused = false ∧ t.iru.state = .off ∧
        t.aut = if a.claimedBy .service = true then a.ended .service .refused else a) ∧
    (failingPermissive u = none ↔ Permitted u) ∧
    ∀ why, failingPermissive u = some why →
      t.rsq = { enterState .stopped s.rsq with startResult := .refused, startReason := some why } ∧
        t.spd = { s.spd with senseLost := false } ∧ t.aut = a ∧ t.iru.restartRefused = true ∧ t.iru.state = .off

theorem idleConditions_of_engine {s : State} (h : s.rsq.engine ≠ .running) : idleConditions s = false := by
  simp [idleConditions, h]

/-- Where the engine is not RUNNING, IRU in OFF stays so to the end of the event. -/
theorem finish_iru_of_off {s : State} (hi : s.iru.state = .off) (hr : s.rsq.engine ≠ .running)
    (hu : s.rsq.engine ≠ .unloading) (s0 : State) (test : Bool) : (finish s0 test s).iru = s.iru :=
  finish_iru_of_fixed (fun x he hx => judgeIdle_of_off (by rwa [he]) (by rwa [hx])) hu s0 test

theorem finish_iru_of_not_judges {s : State} (hi : s.iru.state.judges = false) (hu : s.rsq.engine ≠ .unloading)
    (s0 : State) (test : Bool) : (finish s0 test s).iru = s.iru :=
  finish_iru_of_fixed (fun x _ hx => judgeIdle_of_not_judges (by rwa [hx])) hu s0 test

theorem acceptStart_iru_off (k : StartKind) {s : State} (h : s.iru.state = .watch) :
    (acceptStart k s).iru.state = .off := by
  simp [acceptStart, enterPrelube, changeEngine_iru, Iru.engineChanged, h, iruOff]

/-- The auto restart itself, and the end of its event. -/
theorem restarted_finish {s u v : State} (he : v.rsq.engine = .autoStopped) (hw : v.iru.state = .watch)
    (hr : v.rsq = s.rsq) (hs : v.spd = s.spd) (hi : v.ins = u.ins) (hc : v.cfg = u.cfg)
    (hf : v.iru.fuelOff = u.iru.fuelOff) (hp : failingPermissive v = failingPermissive u) (s0 : State) (test : Bool) :
    Restarted s u (finish s0 test (autoRestart v)) v.aut := by
  refine ⟨fun h => ?_, failingPermissive_none_iff u, fun why h => ?_⟩
  · have hv : Permitted v := by rwa [← failingPermissive_none_iff, hp, failingPermissive_none_iff]
    have hk := acceptStart_entered .auto v
    have heng : (acceptStart .auto v).rsq.engine = .prelube := by
      rw [hk]
      rfl
    have hoff := acceptStart_iru_off .auto hw
    obtain ⟨fr, fs, -, fa⟩ := finish_of_ne (s0 := s0) (test := test) (s := acceptStart .auto v) (by simp [heng])
    have fi := finish_iru_of_off hoff (by simp [heng]) (by simp [heng]) s0 test
    rw [autoRestart_of_permitted he hv]
    refine ⟨?_, fs.trans ((acceptStart_spd _ _).trans hs), ?_, by rw [fi, hoff], fa.trans (acceptStart_aut _ _)⟩
    · unfold PrelubeEntered at *
      rw [fr, hk, hr, hi, hc, hf]
    · rw [fi, acceptStart_restartRefused]
  · have hv : failingPermissive v = some why := hp.trans h
    have heng : (autoRestart v).rsq = { enterState .stopped v.rsq with startResult := .refused, startReason := some why } := by
      rw [autoRestart_of_failing he hv, State.mapIru_rsq,
        changeEngine_rsq_of_new _ (show Engine.stopped ≠ .rundown by decide)]
      rfl
    have hstop : (autoRestart v).rsq.engine = .stopped := by
      rw [heng]
      rfl
    have hiru : (autoRestart v).iru.state = .off ∧ (autoRestart v).iru.restartRefused = true := by
      rw [autoRestart_of_failing he hv]
      exact ⟨rfl, rfl⟩
    have hblocks : (autoRestart v).spd = { v.spd with senseLost := false } ∧ (autoRestart v).aut = v.aut := by
      rw [autoRestart_of_failing he hv]
      simp [changeEngine_spd, changeEngine_aut, noteRefusal, Engine.atRest]
    obtain ⟨hoff, href⟩ := hiru
    obtain ⟨hbs, hba⟩ := hblocks
    obtain ⟨fr, fs, -, fa⟩ := finish_of_ne (s0 := s0) (test := test) (s := autoRestart v) (by simp [hstop])
    have fi := finish_iru_of_off hoff (by simp [hstop]) (by simp [hstop]) s0 test
    exact ⟨by rw [fr, heng, hr], by rw [fs, hbs, hs], by rw [fa, hba], by rw [fi, href], by rw [fi, hoff]⟩

/-- A restart trigger of WATCH (R163). -/
theorem watchTrigger_eq {s : State} (hw : s.iru.state = .watch) :
    watchTrigger s =
      if s.iru.restartSent = true then s else autoRestart (s.mapIru fun i => { i with restartSent := true }) := by
  cases h : s.iru.restartSent <;> simp [watchTrigger, hw, h]

/-- A trigger of WATCH that restarts. -/
theorem restarted_watchTrigger {s u v : State} (he : v.rsq.engine = .autoStopped) (hw : v.iru.state = .watch)
    (hsent : v.iru.restartSent = false) (hr : v.rsq = s.rsq) (hs : v.spd = s.spd) (hi : v.ins = u.ins)
    (hc : v.cfg = u.cfg) (hf : v.iru.fuelOff = u.iru.fuelOff) (hp : failingPermissive v = failingPermissive u)
    (s0 : State) (test : Bool) : Restarted s u (finish s0 test (watchTrigger v)) v.aut := by
  rw [watchTrigger_eq hw, if_neg (by simp [hsent])]
  exact restarted_finish (v := v.mapIru fun i => { i with restartSent := true }) he hw hr hs hi hc hf hp s0 test

theorem staysQuiet_watchTrigger (s : State) : StaysQuiet s (watchTrigger s) := by
  unfold watchTrigger
  split
  · exact (staysQuiet_autoRestart _).from_eq rfl rfl rfl
  · exact .refl s

/-! ### The timers of WATCH (R163) -/

theorem exec_autoStopTimerExpiry {s : State} (hw : s.iru.state = .watch) (ht : s.iru.autoStop.isSome = true) :
    exec .autoStopTimerExpiry s =
      .next (finish s false (watchTrigger (s.mapIru fun i => { i with autoStop := none }))) := by
  change Host.Outcome.next (if _ then _ else _) = _
  rw [if_pos ⟨hw, ht⟩]

theorem exec_batteryLowRestartExpiry {s : State} (hw : s.iru.state = .watch) (ht : s.iru.batteryLow.isSome = true) :
    exec .batteryLowRestartExpiry s =
      .next (finish s false (watchTrigger (s.mapIru fun i => { i with batteryLow := none }))) := by
  change Host.Outcome.next (if _ then _ else _) = _
  rw [if_pos ⟨hw, ht⟩]

/-- Either timer of WATCH, stopped by its expiry, is a restart trigger. -/
theorem watchTimerExpires {s : State} (hs : Sound s) (hw : s.iru.state = .watch) (he : s.rsq.engine = .autoStopped)
    {f : Iru → Iru} (hf : ∀ i, (f i).state = i.state ∧ (f i).restartSent = i.restartSent ∧ (f i).fuelOff = i.fuelOff) :
    let t := finish s false (watchTrigger (s.mapIru f))
    Settled t ∧ Unchanged [.ins, .pru, .links, .cfg] s t ∧
      (s.iru.restartSent = true → Unchanged [.rsq, .spd, .aut] s t ∧ t.iru = f s.iru) ∧
      (s.iru.restartSent = false → Restarted s s t s.aut) := by
  obtain ⟨hfs, hfr, hff⟩ := hf s.iru
  have hq : Quiet s := hs.quiet (by simp [he, fuelEnableIn]) (by simp [he, Engine.runningFamily])
  have hm : MovesEngine s (watchTrigger (s.mapIru f)) := (movesEngine_mapIru f s).trans (movesEngine_watchTrigger _)
  obtain ⟨hqt, hpru⟩ := ((staysQuiet_watchTrigger (s.mapIru f)).from_eq (s := s) rfl rfl rfl) hq
  obtain ⟨hp, hi, hc, hl⟩ := hm.finish s false
  obtain ⟨-, -, fp, -⟩ := finish_of_ne (s0 := s) (test := false) hqt.engine_ne
  refine ⟨settled_finish _ _ _, unchanged_cons hi (unchanged_cons (fp.trans hpru) (unchanged_cons hl (unchanged_cons hc
    (unchanged_nil hp)))), fun hsent => ?_, fun hsent => ?_⟩
  · have hx : watchTrigger (s.mapIru f) = s.mapIru f := by
      rw [watchTrigger_eq (s := s.mapIru f) (hfs.trans hw)]
      exact if_pos (hfr.trans hsent)
    rw [hx] at hp ⊢
    obtain ⟨fr, fs, -, fa⟩ := finish_of_ne (s0 := s) (test := false) (s := s.mapIru f) (by simp [he])
    have fi := finish_iru_of_not_judges (s := s.mapIru f) (by simp [hfs, hw, IruState.judges]) (by simp [he]) s false
    exact ⟨unchanged_cons fr (unchanged_cons fs (unchanged_cons fa (unchanged_nil hp))), fi⟩
  · exact restarted_watchTrigger (u := s) (v := s.mapIru f) he (hfs.trans hw) (hfr.trans hsent) rfl rfl rfl rfl hff
      (failingPermissive_congr rfl rfl rfl rfl rfl) s false

end Sys2Proof.Machine
end

section
/-! SUPPORT. IRU's judgement of the idle reduction conditions at the end of an event (R158, R160). -/

namespace Sys2Proof.Machine

/-! ### The conditions of R158 -/

theorem alarm_of_le {e k : Entry} (h : classOf e = .alarm) (hk : e ≤ k) : classOf k = .alarm := by
  revert e k
  decide

/-- The entry with the lowest number governs (R88): it is an ALARM, or there is none, exactly when every entry in service
is an ALARM. -/
theorem governing_alarm_iff (p : Pru) :
    (∀ k : Entry, p.governing = some k → classOf k = .alarm) ↔
      ∀ e : Entry, (p.entry e).inService = true → classOf e = .alarm := by
  cases hg : p.governing with
  | none =>
    have hnone : ∀ e : Entry, (p.entry e).inService = false := by
      simpa [Pru.governing, mem_allEntries] using hg
    simp [hnone]
  | some k =>
    obtain ⟨hk, as, bs, hsplit, has⟩ := List.find?_eq_some_iff_append.1 hg
    refine ⟨fun hc e he => alarm_of_le (hc k rfl) ?_, fun h j hj => Option.some.inj hj ▸ h k hk⟩
    have hsorted : (as ++ k :: bs).Pairwise (· ≤ ·) := by
      rw [← hsplit]
      decide
    have hmem : e ∈ as ++ k :: bs := by
      rw [← hsplit]
      exact mem_allEntries e
    obtain ⟨-, htail, -⟩ := List.pairwise_append.1 hsorted
    obtain hin | rfl | hin : e ∈ as ∨ e = k ∨ e ∈ bs := by simpa using hmem
    · exact absurd he (by simpa using has e hin)
    · exact le_rfl
    · exact (List.pairwise_cons.1 htail).1 e hin

/-- The idle reduction conditions, one by one (R158). -/
def Idle (t : State) : Prop :=
  t.rsq.engine = .running ∧ t.ntu.applied = 0 ∧ t.ntu.e = 0 ∧ t.ntu.loadPermit = false ∧
    t.cfg.active.airEnable = true ∧ autoStopPermitted t = true ∧ t.cfg.active.airCoolantMin ≤ t.ins.coolant.given ∧
    t.cfg.active.airBatteryMin ≤ t.ins.battery.given ∧
    (∀ e : Entry, (t.pru.entry e).inService = true → classOf e = .alarm) ∧ t.aut.handover = none ∧
    forcesActive t = false

theorem idleConditions_iff (t : State) : idleConditions t = true ↔ Idle t := by
  unfold Idle
  rw [← governing_alarm_iff]
  cases hg : t.pru.governing <;> simp [idleConditions, hg, and_assoc]

/-! ### The judgement (R160) -/

/-- IRU after it has judged the conditions, with the IDLE DWELL TIME in ms. -/
def Iru.judged (ms : Nat) (met : Bool) (i : Iru) : Iru :=
  match i.state with
  | .off => if met then { i with state := .idleDwell, idleDwell := some ms } else i
  | .idleDwell | .lowIdleDwell => if met then i else iruOff i
  | .stopping | .watch | .restartPending => i

theorem judgeIdle_iru (s : State) :
    (judgeIdle s).iru = s.iru.judged (minutesMs s.cfg.active.idleDwellTime) (idleConditions s) := by
  unfold judgeIdle Iru.judged
  cases s.iru.state <;> dsimp only <;> split <;> rfl

theorem idleConditions_settleInputs (x : State) :
    idleConditions (refreshPermit (refreshE x)) = idleConditions (settleInputs x) := by
  symm
  refine idleConditions_congr ?_ ?_ ?_ ?_ ?_ ?_ ?_ ?_ ?_ <;> simp [settleInputs]

theorem settleInputs_iru (x : State) :
    (settleInputs x).iru =
      x.iru.judged (minutesMs x.cfg.active.idleDwellTime) (idleConditions (settleInputs x)) := by
  have h : (settleInputs x).iru = (judgeIdle (refreshPermit (refreshE x))).iru := refreshLowIdle_iru _
  rw [h, judgeIdle_iru, idleConditions_settleInputs]
  simp

/-- LOW IDLE is left where the request is withdrawn (R149). -/
theorem settleInputs_lowIdle {x : State} (h : (settleInputs x).iru.lowIdleRequest = false) :
    (settleInputs x).ntu.lowIdle = false := by
  have hr : (judgeIdle (refreshPermit (refreshE x))).iru.lowIdleRequest = false := by
    simpa [settleInputs] using h
  unfold settleInputs refreshLowIdle
  generalize judgeIdle (refreshPermit (refreshE x)) = y at hr
  cases hl : y.ntu.lowIdle <;> simp [hl, hr]

/-- IRU in OFF with nothing running and nothing asked for (R160). -/
structure Iru.Cleared (i : Iru) : Prop where
  state : i.state = .off
  idleDwell : i.idleDwell = none
  lowIdleDwell : i.lowIdleDwell = none
  lowIdleRequest : i.lowIdleRequest = false
  demandSeen : i.demandSeen = false

theorem cleared_iruOff (i : Iru) : (iruOff i).Cleared := ⟨rfl, rfl, rfl, rfl, rfl⟩

/-- IRU in OFF, or in the dwell that OFF has just led to. -/
def Iru.Fresh (ms : Nat) (i : Iru) : Prop := i.state = .off ∨ (i.state = .idleDwell ∧ i.idleDwell = some ms)

/-- IRU in a dwell, or in OFF and cleared. -/
def Iru.Dwelling (i : Iru) : Prop := i.state = .idleDwell ∨ i.state = .lowIdleDwell ∨ i.Cleared

theorem Iru.judges_judged {i : Iru} (h : i.state.judges = true) (ms : Nat) (met : Bool) :
    (i.judged ms met).state.judges = true := by
  unfold judged
  cases hs : i.state <;> cases met <;> simp [hs, IruState.judges, iruOff] at h ⊢

theorem Iru.Fresh.judged {ms : Nat} {i : Iru} (h : i.Fresh ms) (met : Bool) : (i.judged ms met).Fresh ms := by
  unfold Fresh Iru.judged at *
  obtain h | ⟨h, ht⟩ := h <;> cases met <;> simp_all [iruOff]

theorem Iru.Dwelling.judged {i : Iru} (h : i.Dwelling) (ms : Nat) (met : Bool) : (i.judged ms met).Dwelling := by
  obtain h | h | h := h
  · cases met
    · exact .inr (.inr (by simpa [Iru.judged, h] using cleared_iruOff i))
    · exact .inl (by simp [Iru.judged, h])
  · cases met
    · exact .inr (.inr (by simpa [Iru.judged, h] using cleared_iruOff i))
    · exact .inr (.inl (by simp [Iru.judged, h]))
  · cases met
    · exact .inr (.inr (by simpa [Iru.judged, h.state] using h))
    · exact .inl (by simp [Iru.judged, h.state])

theorem Iru.judged_false_state {i : Iru} (h : i.state.judges = true) (ms : Nat) : (i.judged ms false).state = .off := by
  unfold judged
  cases hs : i.state <;> simp [hs, IruState.judges, iruOff] at h ⊢

theorem Iru.Dwelling.judged_false {i : Iru} (h : i.Dwelling) (ms : Nat) : (i.judged ms false).Cleared := by
  obtain h | h | h := h
  · simpa [Iru.judged, h] using cleared_iruOff i
  · simpa [Iru.judged, h] using cleared_iruOff i
  · simpa [Iru.judged, h.state] using h

theorem Iru.Fresh.judged_true {ms : Nat} {i : Iru} (h : i.Fresh ms) :
    (i.judged ms true).state = .idleDwell ∧ (i.judged ms true).idleDwell = some ms := by
  unfold Fresh at h
  obtain h | ⟨h, ht⟩ := h <;> simp [Iru.judged, h]
  exact ht

/-! ### IRU at the end of an event -/

/-- What IRU judges at last: the state before NTU's report. -/
theorem settle_judged (s0 : State) (test : Bool) (u : State) :
    ∃ (x : State) (met : Bool), settle s0 test u = reportUnload (refreshGovernor (settleInputs x)) ∧
      x.cfg = u.cfg ∧
      (x.iru = u.iru ∨ x.iru = u.iru.judged (minutesMs u.cfg.active.idleDwellTime) met) := by
  obtain ⟨x, hx, rfl | rfl⟩ := settle_form s0 test u
  · exact ⟨x, true, hx, rfl, .inl rfl⟩
  · exact ⟨_, _, hx, by simp, .inr (by rw [stepChannel_iru, settleInputs_iru])⟩

/-- IRU's judgements carry to the end of the event whatever property each of them keeps. -/
theorem settle_judged_of {P : Iru → Prop} {u : State}
    (hP : ∀ i met, P i → P (i.judged (minutesMs u.cfg.active.idleDwellTime) met)) (h : P u.iru) (s0 : State)
    (test : Bool) :
    ∃ x : State, settle s0 test u = reportUnload (refreshGovernor (settleInputs x)) ∧ x.cfg = u.cfg ∧ P x.iru := by
  obtain ⟨x, met, hx, hc, hi | hi⟩ := settle_judged s0 test u
  · exact ⟨x, hx, hc, hi ▸ h⟩
  · exact ⟨x, hx, hc, hi ▸ hP _ _ h⟩

/-- NTU's report does not reach IRU in OFF or in a dwell, save for the time of fuel off. -/
theorem reportUnload_iru {y : State} (h : y.iru.state.judges = true) :
    (reportUnload y).iru = { y.iru with fuelOff := (reportUnload y).iru.fuelOff } := by
  unfold reportUnload
  split
  · have hcalm : ∀ z : State, z.iru.state = y.iru.state → (enterRundown z).iru = z.iru := by
      intro z hz
      have : z.iru.state = .off ∨ z.iru.state = .idleDwell ∨ z.iru.state = .lowIdleDwell := by
        rw [hz]
        cases hs : y.iru.state <;> simp [hs, IruState.judges] at h ⊢
      simp [enterRundown, changeEngine_iru_of_calm _ this]
    rw [fuelOff_eq, hcalm _ (by rw [fuelOffNoted_iru]; rfl), fuelOffNoted_iru]
    rfl
  · rfl

theorem idleConditions_reportUnload (y : State) : idleConditions (reportUnload y) = idleConditions y := by
  unfold reportUnload
  split
  · next h =>
    obtain ⟨he, -⟩ := h
    rw [idleConditions_of_engine (s := y) (by simp [he]), idleConditions_of_engine (by simp [fuelOff_eq, enterRundown])]
  · rfl

theorem idleConditions_refreshGovernor (y : State) : idleConditions (refreshGovernor y) = idleConditions y := by
  refine idleConditions_congr ?_ ?_ ?_ ?_ ?_ ?_ ?_ ?_ ?_ <;> simp

theorem idleConditions_rejudgeAttn (y : State) : idleConditions (rejudgeAttn y) = idleConditions y := rfl

theorem idleConditions_finish (s0 : State) (test : Bool) (u : State) :
    idleConditions (finish s0 test u) = idleConditions (settle s0 test u) :=
  idleConditions_rejudgeAttn _

/-- The last judgement, which sees the conditions that the event leaves. -/
theorem settle_iru_of_last {s0 u x : State} {test : Bool}
    (hx : settle s0 test u = reportUnload (refreshGovernor (settleInputs x))) (hj : x.iru.state.judges = true) :
    (settle s0 test u).iru =
      { x.iru.judged (minutesMs x.cfg.active.idleDwellTime) (idleConditions (settle s0 test u)) with
        fuelOff := (settle s0 test u).iru.fuelOff } := by
  have hi := settleInputs_iru x
  have hjx : (refreshGovernor (settleInputs x)).iru.state.judges = true := by
    rw [refreshGovernor_iru, hi]
    exact Iru.judges_judged hj _ _
  have hc : idleConditions (settle s0 test u) = idleConditions (settleInputs x) := by
    rw [hx, idleConditions_reportUnload, idleConditions_refreshGovernor]
  rw [hc, ← hi, ← refreshGovernor_iru (settleInputs x), hx]
  exact reportUnload_iru hjx

theorem Iru.Fresh.judges {ms : Nat} {i : Iru} (h : i.Fresh ms) : i.state.judges = true := by
  obtain h | ⟨h, -⟩ := h <;> simp [h, IruState.judges]

theorem Iru.Dwelling.judges {i : Iru} (h : i.Dwelling) : i.state.judges = true := by
  obtain h | h | h := h
  · simp [h, IruState.judges]
  · simp [h, IruState.judges]
  · simp [h.state, IruState.judges]

/-- OFF leads to IDLE DWELL where the conditions hold at the end of the event (R160). -/
theorem settle_idleDwell {u : State} (h : u.iru.state = .off) (s0 : State) (test : Bool)
    (hc : idleConditions (settle s0 test u) = true) :
    (settle s0 test u).iru.state = .idleDwell ∧
      (settle s0 test u).iru.idleDwell = some (minutesMs u.cfg.active.idleDwellTime) := by
  obtain ⟨x, hx, hcfg, hi⟩ := settle_judged_of
    (P := Iru.Fresh (minutesMs u.cfg.active.idleDwellTime)) (fun _ met k => k.judged met) (.inl h) s0 test
  rw [settle_iru_of_last hx hi.judges, hc, hcfg]
  exact hi.judged_true

/-- Where they do not hold, IRU is OFF (R160). -/
theorem settle_off {u : State} (h : u.iru.state.judges = true) (s0 : State) (test : Bool)
    (hc : idleConditions (settle s0 test u) = false) : (settle s0 test u).iru.state = .off := by
  obtain ⟨x, hx, -, hi⟩ := settle_judged_of (P := fun i => i.state.judges = true)
    (fun _ met k => Iru.judges_judged k _ met) h s0 test
  rw [settle_iru_of_last hx hi, hc]
  exact Iru.judged_false_state hi _

theorem reportUnload_lowIdle {y : State} (h : y.ntu.lowIdle = false) : (reportUnload y).ntu.lowIdle = false := by
  unfold reportUnload
  split
  · next hr =>
    obtain ⟨he, -⟩ := hr
    have hfam : (fuelOffNoted (y.mapNtu fun n => { n with unloadReported := true })).rsq.engine.runningFamily = true := by
      rw [fuelOffNoted_rsq]
      simp [he, Engine.runningFamily]
    obtain ⟨-, -, -, -, hl, -⟩ := changeEngine_ntu_of_leave (new := .rundown) hfam rfl
    exact hl
  · exact h

/-- … its timers and its request cancelled, and LOW IDLE left (R149, R160). -/
theorem settle_cleared {u : State} (h : u.iru.Dwelling) (s0 : State) (test : Bool)
    (hc : idleConditions (settle s0 test u) = false) :
    (settle s0 test u).iru.Cleared ∧ (settle s0 test u).ntu.lowIdle = false := by
  obtain ⟨x, hx, -, hi⟩ := settle_judged_of (P := Iru.Dwelling) (fun _ met k => k.judged _ met) h s0 test
  have hcx : idleConditions (settleInputs x) = false := by
    rwa [hx, idleConditions_reportUnload, idleConditions_refreshGovernor] at hc
  have hcl := hi.judged_false (minutesMs x.cfg.active.idleDwellTime)
  constructor
  · rw [settle_iru_of_last hx hi.judges, hc]
    exact ⟨hcl.state, hcl.idleDwell, hcl.lowIdleDwell, hcl.lowIdleRequest, hcl.demandSeen⟩
  · rw [hx]
    refine reportUnload_lowIdle ?_
    rw [refreshGovernor_lowIdle]
    refine settleInputs_lowIdle ?_
    rw [settleInputs_iru, hcx]
    exact hcl.lowIdleRequest

/-! ### What leaves IRU in OFF and in its dwells -/

/-- From `s` to `t` IRU stays OFF, and stays in its dwells or leaves them for OFF. -/
structure KeepsIdle (s t : State) : Prop where
  off : s.iru.state = .off → t.iru.state = .off
  dwelling : s.iru.Dwelling → t.iru.Dwelling

theorem KeepsIdle.of_iru {s t : State} (h : t.iru = s.iru) : KeepsIdle s t := by
  constructor <;> rw [h] <;> exact id

theorem KeepsIdle.refl (s : State) : KeepsIdle s s := .of_iru rfl

theorem KeepsIdle.trans {s t u : State} (h : KeepsIdle s t) (k : KeepsIdle t u) : KeepsIdle s u :=
  ⟨k.off ∘ h.off, k.dwelling ∘ h.dwelling⟩

theorem KeepsIdle.from_iru {s t u : State} (h : KeepsIdle t u) (hi : t.iru = s.iru) : KeepsIdle s u :=
  (KeepsIdle.of_iru hi).trans h

/-- A change of engine state does not reach them (R160 to R164). -/
theorem keepsIdle_changeEngine (new : Engine) (s : State) : KeepsIdle s (changeEngine new s) := by
  constructor
  · intro h
    rw [changeEngine_iru_of_calm new (.inl h), h]
  · intro h
    have hcalm : s.iru.state = .off ∨ s.iru.state = .idleDwell ∨ s.iru.state = .lowIdleDwell := by
      obtain h | h | h := h
      · exact .inr (.inl h)
      · exact .inr (.inr h)
      · exact .inl h.state
    rwa [changeEngine_iru_of_calm new hcalm]

/-- An operation that reaches IRU by a change of engine state alone. -/
theorem keepsIdle_of_change {new : Engine} {s t u : State} (h : t.iru = s.iru)
    (k : u.iru = (changeEngine new t).iru) : KeepsIdle s u :=
  ((keepsIdle_changeEngine new t).from_iru h).trans (.of_iru k)

theorem keepsIdle_setStopCause (c : StopCause) (s : State) : KeepsIdle s (setStopCause c s) := by
  by_cases h : s.iru.state = .stopping
  · refine ⟨fun w => absurd (h.symm.trans w) (by decide), fun w => ?_⟩
    have := w.judges
    simp [h, IruState.judges] at this
  · refine .of_iru ?_
    simp [setStopCause, h]

theorem keepsIdle_acceptStart (k : StartKind) (s : State) :
    KeepsIdle (s.mapIru fun i => { i with restartRefused := false }) (acceptStart k s) := by
  unfold acceptStart enterPrelube
  dsimp only
  exact (KeepsIdle.trans (keepsIdle_changeEngine .prelube _) (.of_iru (State.mapTimers_iru _ _))).from_iru rfl

theorem keepsIdle_autoRestart (s : State) : KeepsIdle s (autoRestart s) := by
  unfold autoRestart
  split
  · split
    · have h : KeepsIdle s (s.mapIru fun i => { i with restartRefused := false }) := by
        refine ⟨id, fun w => ?_⟩
        obtain w | w | w := w
        · exact .inl w
        · exact .inr (.inl w)
        · exact .inr (.inr ⟨w.state, w.idleDwell, w.lowIdleDwell, w.lowIdleRequest, w.demandSeen⟩)
      exact h.trans (keepsIdle_acceptStart _ s)
    · exact ⟨fun _ => rfl, fun _ => .inr (.inr ⟨rfl, rfl, rfl, rfl, rfl⟩)⟩
  · exact .of_iru (by simp)
  · exact .refl s

theorem keepsIdle_comeToRest (s : State) : KeepsIdle s (comeToRest s) := by
  have h : KeepsIdle s ((changeEngine (restState s) s).mapRsq fun r => { r with restartPending := false }) :=
    (keepsIdle_changeEngine (restState s) s).trans (.of_iru rfl)
  rw [comeToRest_eq]
  split
  · exact h.trans (keepsIdle_autoRestart _)
  · exact h

theorem keepsIdle_toRest (s : State) : KeepsIdle s (toRest s) := by
  unfold toRest
  split
  · exact (keepsIdle_changeEngine .rundown s).trans (.of_iru rfl)
  · exact keepsIdle_comeToRest s

theorem keepsIdle_stopByProtection (s : State) : KeepsIdle s (stopByProtection s) := by
  unfold stopByProtection
  split
  · exact .refl s
  · exact keepsIdle_setStopCause _ s

theorem keepsIdle_takeShutdown (s : State) : KeepsIdle s (takeShutdown s) := by
  unfold takeShutdown
  split
  · exact .refl s
  · split
    · exact keepsIdle_changeEngine _ s
    · exact keepsIdle_changeEngine _ s
    · exact .refl s
    · exact (keepsIdle_stopByProtection s).trans (.of_iru rfl)
    · exact ((keepsIdle_stopByProtection _).trans (keepsIdle_toRest _)).from_iru (by simp)

theorem keepsIdle_takeLastLeft (s : State) : KeepsIdle s (takeLastLeft s) := by
  unfold takeLastLeft
  split
  · exact .refl s
  · split
    · exact (keepsIdle_changeEngine _ s).trans (.of_iru rfl)
    · exact .refl s

theorem keepsIdle_pruEvent (f : Pru → Pru) (s : State) : KeepsIdle s (pruEvent f s) := by
  have h : ∀ u : State, KeepsIdle u (handOff s.pru u) := fun u =>
    handOff_cases s.pru u (KeepsIdle u) (fun v h => h.trans (.of_iru (idleDownJump_iru v)))
      (fun _ => keepsIdle_takeShutdown u) (fun _ _ => keepsIdle_takeLastLeft u) fun _ => .refl u
  exact (h _).from_iru rfl

theorem keepsIdle_enterCranking (s : State) : KeepsIdle s (enterCranking s) := by
  unfold enterCranking
  split
  · exact (keepsIdle_toRest _).from_iru rfl
  · exact keepsIdle_of_change (new := .cranking) (t := s.mapRsq fun r => { r with crankFuelLatch := false }) rfl rfl

theorem keepsIdle_enterPriming (s : State) : KeepsIdle s (enterPriming s) := by
  have h : KeepsIdle s (primed s) := (keepsIdle_changeEngine .priming s).trans (.of_iru rfl)
  rw [enterPriming_eq]
  split
  · exact h.trans (keepsIdle_enterCranking _)
  · exact h

theorem keepsIdle_rsqValue (c : Channel) (s : State) : KeepsIdle s (rsqValue c s) := by
  unfold rsqValue
  dsimp only
  split
  · exact .refl s
  · split
    · split
      · exact keepsIdle_enterPriming s
      · exact .refl s
    · split
      · exact keepsIdle_enterCranking s
      · exact .refl s
    · exact .of_iru rfl
    · exact .refl s

theorem keepsIdle_iruValue (c : Channel) (s : State) : KeepsIdle s (iruValue c s) := by
  by_cases h : s.iru.state.judges = true
  · refine .of_iru ?_
    rw [iruValue_of_calm] <;> rintro w <;> simp [w, IruState.judges] at h
  · exact ⟨fun w => absurd (by simp [w, IruState.judges]) h, fun w => absurd w.judges h⟩

theorem keepsIdle_handOn (c : Channel) (s : State) : KeepsIdle s (handOn c s) :=
  ((keepsIdle_rsqValue c s).trans (keepsIdle_pruEvent _ _)).trans (keepsIdle_iruValue c _)

theorem keepsIdle_conversion (c : Channel) (raw : Nat) (s : State) :
    KeepsIdle s (handOn c (convertedState c raw s)) :=
  (keepsIdle_handOn c _).from_iru rfl

theorem runCounted_iru (s : State) : (runCounted s).iru = s.iru := by
  rw [runCounted_eq]
  rfl

theorem keepsIdle_crankingWindow (s : State) : KeepsIdle s (crankingWindow s) := by
  have h : ∀ u : State, KeepsIdle u (crankingThresholds u) := by
    intro u
    unfold crankingThresholds
    split
    · rw [fireAttempt_eq]
      exact keepsIdle_of_change (new := .accelerating) (t := u.mapRsq firedRsq) rfl rfl
    · split <;> exact .of_iru rfl
  exact (h _).from_iru rfl

theorem keepsIdle_acceleratingWindow (s : State) : KeepsIdle s (acceleratingWindow s) := by
  unfold acceleratingWindow
  split
  · exact (keepsIdle_changeEngine .running _).from_iru rfl
  · exact .of_iru rfl

theorem keepsIdle_rsqWindow (s : State) : KeepsIdle s (rsqWindow s) := by
  cases hc : s.cfg.checking
  · rw [rsqWindow_eq hc]
    have h := runCounted_iru s
    split
    · exact (keepsIdle_crankingWindow _).from_iru h
    · exact (keepsIdle_acceleratingWindow _).from_iru h
    · exact (KeepsIdle.of_iru rfl).from_iru h
    · exact (KeepsIdle.of_iru rfl).from_iru h
    all_goals exact .of_iru h
  · exact .of_iru (by simp [rsqWindow, hc])

theorem keepsIdle_window (s : State) : KeepsIdle s (pruEvent (windowPru s) (windowRsq s)) :=
  have h : KeepsIdle s (windowRsq s) := (keepsIdle_rsqWindow { s with spd := (windowSpd s).1 }).from_iru rfl
  h.trans (keepsIdle_pruEvent _ _)

/-! ### The end of a window, of a ramp interval and of a conversion -/

/-- At the end of an event that leaves IRU in OFF and in its dwells, IRU judges the conditions (R160). -/
theorem idleJudged {s u : State} (h : KeepsIdle s u) (hc : u.cfg = s.cfg) (s0 : State) (test : Bool) :
    let t := finish s0 test u
    (s.iru.state = .off → Idle t →
        t.iru.state = .idleDwell ∧ t.iru.idleDwell = some (minutesMs s.cfg.active.idleDwellTime)) ∧
      (s.iru.state = .off ∨ s.iru.state = .idleDwell ∨ s.iru.state = .lowIdleDwell → ¬Idle t →
        t.iru.state = .off) ∧
      (s.iru.state = .idleDwell ∨ s.iru.state = .lowIdleDwell → ¬Idle t →
        t.iru.idleDwell = none ∧ t.iru.lowIdleDwell = none ∧ t.iru.lowIdleRequest = false ∧ t.ntu.lowIdle = false) := by
  intro t
  have ht : idleConditions t = idleConditions (settle s0 test u) := idleConditions_finish s0 test u
  have hdw : s.iru.state = .idleDwell ∨ s.iru.state = .lowIdleDwell → u.iru.Dwelling := fun w =>
    h.dwelling (w.elim .inl fun w => .inr (.inl w))
  rw [← idleConditions_iff, Bool.not_eq_true, ht]
  refine ⟨fun w hi => ?_, fun w hi => settle_off ?_ s0 test hi, fun w hi => ?_⟩
  · rw [← hc]
    exact settle_idleDwell (h.off w) s0 test hi
  · obtain w | w := w
    · rw [h.off w]
      rfl
    · exact (hdw w).judges
  · obtain ⟨hcl, hlow⟩ := settle_cleared (hdw w) s0 test hi
    exact ⟨hcl.idleDwell, hcl.lowIdleDwell, hcl.lowIdleRequest, hlow⟩

end Sys2Proof.Machine
end

section
/-! SUPPORT. The dwells of IRU and the auto stop they lead to (R20, R21, R148, R160, R161). -/

namespace Sys2Proof.Machine

/-! ### Fuel off under an auto stop -/

/-- Fuel off reaches an IRU in STOPPING as the restart it has noted (R161). -/
theorem fuelOff_iru {s : State} (he : s.rsq.engine = .unloading) (hi : s.iru.state = .stopping) :
    (fuelOff s).iru =
      if s.iru.demandSeen = true then
        { (fuelOffNoted s).iru with state := .restartPending, lowIdleRequest := false }
      else (fuelOffNoted s).iru := by
  have hn : (fuelOffNoted s).iru.state = .stopping ∧ (fuelOffNoted s).iru.demandSeen = s.iru.demandSeen := by
    rw [fuelOffNoted_iru]
    exact ⟨hi, rfl⟩
  obtain ⟨hst, hd⟩ := hn
  have hen : (fuelOffNoted s).rsq.engine = .unloading := by rw [fuelOffNoted_rsq]; exact he
  have hx : (fuelOff s).iru = (changeEngine .rundown (fuelOffNoted s)).iru := rfl
  rw [hx, changeEngine_iru]
  simp [Iru.engineChanged, hst, hen, hd]

theorem fuelOff_spd (s : State) : (fuelOff s).spd = s.spd := by
  obtain ⟨hbs, -⟩ := fuelOffNoted_blocks s
  simp [fuelOff_eq, enterRundown, changeEngine_spd, Engine.atRest, hbs]

theorem fuelOff_engine (s : State) : (fuelOff s).rsq.engine = .rundown := by
  rw [fuelOff_eq, enterRundown_rsq]
  rfl

theorem fuelOff_stopCause (s : State) : (fuelOff s).rsq.stopCause = s.rsq.stopCause := by
  rw [fuelOff_eq, enterRundown_rsq, fuelOffNoted_rsq]
  rfl

theorem fuelOff_counters (s : State) : (fuelOff s).rsq.counters = (fuelOffNoted s).rsq.counters := by
  rw [fuelOff_eq, enterRundown_rsq]
  rfl

/-- An unloading of an auto stop ends, and IRU goes on to its restart or waits in STOPPING (R161). -/
theorem autoStopUnloaded {s : State} (he : s.rsq.engine = .unloading) (hi : s.iru.state = .stopping)
    (hc : s.rsq.stopCause = .autoStop) :
    let t := finish s false (fuelOff s)
    t.iru.state = (if s.iru.demandSeen = true then .restartPending else .stopping) ∧
      t.rsq.restartPending = (s.iru.demandSeen || s.rsq.restartPending) := by
  have hen := fuelOff_engine s
  have hst : (fuelOff s).iru.state = if s.iru.demandSeen = true then .restartPending else .stopping := by
    rw [fuelOff_iru he hi, fuelOffNoted_iru]
    split
    · rfl
    · exact hi
  have hj : (fuelOff s).iru.state.judges = false := by
    rw [hst]
    split <;> rfl
  obtain ⟨fr, -⟩ := finish_of_ne (s0 := s) (test := false) (s := fuelOff s) (by simp [hen])
  refine ⟨by rw [finish_iru_of_not_judges hj (by simp [hen]), hst], ?_⟩
  have hn : (fuelOffNoted s).iru.state = .stopping ∧ (fuelOffNoted s).iru.demandSeen = s.iru.demandSeen := by
    rw [fuelOffNoted_iru]
    exact ⟨hi, rfl⟩
  obtain ⟨hns, hnd⟩ := hn
  rw [fr, fuelOff_eq, enterRundown_rsq]
  simp [handsRestart, hns, hnd, fuelOffNoted_rsq, he, hc, Bool.or_comm]

/-! ### An engine with nothing left to unload (R148) -/

theorem settleInputs_loadRef {x : State} (h : x.ntu.loadRef = 0) : (settleInputs x).ntu.loadRef = 0 := by
  have hp : ∀ y : State, y.ntu.loadRef = 0 → (refreshPermit y).ntu.loadRef = 0 := by
    intro y hy
    unfold refreshPermit
    (repeat' split) <;> simp [dropLoad, hy]
  have hl : ∀ y : State, (refreshLowIdle y).ntu.loadRef = y.ntu.loadRef := by
    intro y
    unfold refreshLowIdle
    (repeat' split) <;> rfl
  unfold settleInputs
  rw [hl, judgeIdle_ntu]
  exact hp _ h

theorem settleInputs_unloadReported (x : State) :
    (settleInputs x).ntu.unloadReported = x.ntu.unloadReported := by
  have hp : ∀ y : State, (refreshPermit y).ntu.unloadReported = y.ntu.unloadReported := by
    intro y
    unfold refreshPermit
    (repeat' split) <;> rfl
  have hl : ∀ y : State, (refreshLowIdle y).ntu.unloadReported = y.ntu.unloadReported := by
    intro y
    unfold refreshLowIdle
    (repeat' split) <;> rfl
  unfold settleInputs
  rw [hl, judgeIdle_ntu, hp]
  rfl

theorem settleInputs_iru_of_not_judges {x : State} (h : x.iru.state.judges = false) :
    (settleInputs x).iru = x.iru := by
  rw [settleInputs_iru]
  unfold Iru.judged
  cases hs : x.iru.state <;> simp [hs, IruState.judges] at h ⊢

theorem stepChannel_of_unloading {x : State} (he : x.rsq.engine = .unloading) (ha : x.ntu.applied = 0) :
    stepChannel x = x := by
  simp [stepChannel, upStepOpen, downStepOpen, he, ha]

/-- At notch 0 and without load, fuel goes off in the same event. -/
theorem settle_of_unloaded {y : State} (he : y.rsq.engine = .unloading) (ha : y.ntu.applied = 0)
    (hl : y.ntu.loadRef = 0) (hu : y.ntu.unloadReported = false) (hi : y.iru.state.judges = false) (s0 : State)
    (test : Bool) :
    ∃ z, settle s0 test y = fuelOff z ∧ z.rsq = y.rsq ∧ z.iru = y.iru ∧ z.spd = y.spd := by
  obtain ⟨x, hx, hc⟩ := settle_form s0 test y
  have hxs : x = y ∨ x = settleInputs y := by
    obtain rfl | rfl := hc
    · exact .inl rfl
    · exact .inr (stepChannel_of_unloading (by simpa using he) (by simpa using ha))
  have hxf : x.rsq = y.rsq ∧ x.iru = y.iru ∧ x.spd = y.spd ∧ x.ntu.applied = 0 ∧ x.ntu.loadRef = 0 ∧
      x.ntu.unloadReported = false := by
    obtain rfl | rfl := hxs
    · exact ⟨rfl, rfl, rfl, ha, hl, hu⟩
    · exact ⟨by simp, settleInputs_iru_of_not_judges hi, by simp, by simpa using ha, settleInputs_loadRef hl,
        (settleInputs_unloadReported _).trans hu⟩
  obtain ⟨hr, hxi, hs, hxa, hxl, hxu⟩ := hxf
  refine ⟨(refreshGovernor (settleInputs x)).mapNtu fun n => { n with unloadReported := true }, ?_, ?_, ?_, ?_⟩
  · rw [hx]
    refine if_pos ⟨?_, ?_, ?_, ?_⟩
    · simp [hr, he]
    · simp [hxa]
    · simp [settleInputs_loadRef hxl]
    · simp [settleInputs_unloadReported, hxu]
  · simp [hr]
  · rw [State.mapNtu_iru, refreshGovernor_iru, settleInputs_iru_of_not_judges (by rw [hxi, hi]), hxi]
  · simp [hs]

/-! ### The end of the low-idle dwell (R160) -/

/-- IRU as the low-idle dwell leaves it. -/
def Iru.stopped (i : Iru) : Iru := { i with state := .stopping, lowIdleDwell := none, demandSeen := false }

theorem endLowIdleDwell_of_running {s : State} (he : s.rsq.engine = .running) :
    endLowIdleDwell s = beginUnloading .autoStop (s.mapIru Iru.stopped) := if_pos he

/-- An auto stop handed to RSQ in RUNNING leaves IRU in STOPPING, and NTU as it was but for the governor. -/
theorem beginUnloading_autoStop {s : State} (he : s.rsq.engine = .running) (hi : s.iru.state = .stopping) :
    let t := beginUnloading .autoStop s
    t.iru = s.iru ∧ t.ntu.loadRef = s.ntu.loadRef ∧ t.ntu.unloadReported = s.ntu.unloadReported ∧ t.spd = s.spd := by
  intro t
  have hcause : (setStopCause .autoStop s).iru = s.iru := by simp [setStopCause]
  have hen : (setStopCause .autoStop s).rsq.engine = .running := by rw [setStopCause_rsq]; exact he
  have hn : t.ntu = (changeEngine .unloading (setStopCause .autoStop s)).ntu := rfl
  have hiru : t.iru = (changeEngine .unloading (setStopCause .autoStop s)).iru := rfl
  have hspd : t.spd = (changeEngine .unloading (setStopCause .autoStop s)).spd := rfl
  refine ⟨?_, ?_, ?_, ?_⟩
  · rw [hiru, changeEngine_iru, hcause]
    simp [Iru.engineChanged, hi]
  · rw [hn, changeEngine_ntu]
    simp [Ntu.engineChanged, hen, Engine.runningFamily]
  · rw [hn, changeEngine_ntu]
    simp [Ntu.engineChanged, hen, Engine.runningFamily]
  · rw [hspd, changeEngine_spd]
    simp [Engine.atRest]

theorem movesEngine_endLowIdleDwell {s : State} (he : s.rsq.engine = .running) :
    MovesEngine s (endLowIdleDwell s) := by
  rw [endLowIdleDwell_of_running he]
  exact (movesEngine_mapIru _ s).trans (movesEngine_beginUnloading _ _)

/-- With the conditions of R158 holding, the low-idle dwell ends in the rundown of an auto stop: nothing is left to
unload. -/
theorem lowIdleDwellEnds {s : State} (hidle : Idle s) (hload : LoadLaw s) (hu : s.ntu.unloadReported = false)
    (s0 : State) (test : Bool) :
    let t := finish s0 test (endLowIdleDwell s)
    Unchanged [.spd, .ins, .links, .cfg] s t ∧ t.rsq.engine = .rundown ∧ t.rsq.stopCause = .autoStop ∧
      t.iru.state = .stopping ∧ t.iru.demandSeen = false ∧
      t.rsq.counters.autoStops = min 65535 (s.rsq.counters.autoStops + 1) ∧
      t.iru.fuelOff = if s.rsq.minute = 65535 then none else some s.rsq.minute := by
  intro t
  obtain ⟨he, ha, -, hp, -⟩ := hidle
  obtain ⟨-, hl⟩ := hload
  obtain ⟨-, hl, -⟩ := hl hp
  have hx := endLowIdleDwell_of_running he
  have hb := beginUnloading_rsq .autoStop (s.mapIru Iru.stopped)
  obtain ⟨hbi, hbl, hbu, hbs⟩ := beginUnloading_autoStop (s := s.mapIru Iru.stopped) he rfl
  rw [← hx] at hb hbi hbl hbu hbs
  have hba : (endLowIdleDwell s).ntu.applied = 0 := by
    rw [hx, beginUnloading_applied (s := s.mapIru Iru.stopped) he]
    exact ha
  obtain ⟨z, hz, hzr, hzi, hzs⟩ := settle_of_unloaded (y := endLowIdleDwell s) (by rw [hb]; rfl) hba (hbl.trans hl)
    (hbu.trans hu) (by rw [hbi]; rfl) s0 test
  have hze : z.rsq.engine = .unloading := by rw [hzr, hb]; rfl
  have hzc : z.rsq.stopCause = .autoStop := by rw [hzr, hb]; rfl
  have hzt : z.iru.state = .stopping ∧ z.iru.demandSeen = false := by
    rw [hzi, hbi]
    exact ⟨rfl, rfl⟩
  obtain ⟨hzt, hzd⟩ := hzt
  have hm := movesEngine_endLowIdleDwell he
  obtain ⟨hq, hi, hc, hlk⟩ := hm.finish s0 test
  have htr : t.rsq = (fuelOff z).rsq := by rw [← hz]; rfl
  have hti : t.iru = (fuelOffNoted z).iru := by
    have : t.iru = (fuelOff z).iru := by rw [← hz]; rfl
    rw [this, fuelOff_iru hze hzt, if_neg (by simp [hzd])]
  have hts : t.spd = s.spd := by
    have : t.spd = (fuelOff z).spd := by rw [← hz]; rfl
    rw [this, fuelOff_spd, hzs, hbs]
    rfl
  refine ⟨unchanged_cons hts (unchanged_cons hi (unchanged_cons hlk (unchanged_cons hc (unchanged_nil hq)))), ?_, ?_,
    ?_, ?_, ?_, ?_⟩
  · rw [htr, fuelOff_engine]
  · rw [htr, fuelOff_stopCause, hzc]
  · rw [hti, fuelOffNoted_iru]
    exact hzt
  · rw [hti, fuelOffNoted_iru]
    exact hzd
  · rw [htr, fuelOff_counters, fuelOffNoted_rsq, if_pos hzc, hzr, hb]
    rfl
  · rw [hti, fuelOffNoted_fuelOff, if_pos hzc, hzr, hb]
    rfl

/-! ### The end of the idle dwell (R149, R160, R165) -/

/-- IRU in LOW IDLE DWELL, its request set. -/
def Iru.lowIdle (ms : Nat) (i : Iru) : Iru :=
  { i with state := .lowIdleDwell, idleDwell := none, lowIdleDwell := some ms, lowIdleRequest := true }

theorem endIdleDwell_eq (s : State) :
    endIdleDwell s =
      if minutesMs s.cfg.active.lowIdleDwellTime = 0 then
        endLowIdleDwell (s.mapIru (Iru.lowIdle (minutesMs s.cfg.active.lowIdleDwellTime)))
      else s.mapIru (Iru.lowIdle (minutesMs s.cfg.active.lowIdleDwellTime)) := rfl

/-- The request is granted at idle (R149). -/
theorem refreshLowIdle_lowIdle {y : State} (hr : y.iru.lowIdleRequest = true) (he : y.rsq.engine = .running)
    (ha : y.ntu.applied = 0) (h0 : y.ntu.e = 0) : (refreshLowIdle y).ntu.lowIdle = true := by
  cases hl : y.ntu.lowIdle <;> simp [refreshLowIdle, hr, he, ha, h0, hl]

/-- A settled state in which IRU moves alone tests no step. -/
theorem settle_of_calm {s u : State} (hs : Settled s) (hl : s.ntu.lowIdle = false) (hr : u.rsq = s.rsq)
    (ha : u.aut = s.aut) (hp : u.pru = s.pru) (hn : u.ntu = s.ntu) (hne : s.rsq.engine ≠ .unloading) :
    settle s false u = refreshGovernor (settleInputs u) := by
  obtain ⟨he, -⟩ := hs
  have heff : effectiveNotch u = effectiveNotch s :=
    effectiveNotch_congr (by rw [hr]) ha hp (by rw [hn])
  have hdue : stepDue s (settleInputs u) = false := by
    simp [stepDue, hl, heff, ← he, hr]
  have hx : settle s false u = reportUnload (refreshGovernor (settleInputs u)) := by
    simp only [settle, hdue, Bool.or_self, Bool.false_eq_true, if_false]
  rw [hx, reportUnload_of_ne (by simpa [hr] using hne)]

theorem idleDwellEnds {s : State} (hs : Settled s) (hidle : Idle s) (hl : s.ntu.lowIdle = false) (ms : Nat) :
    let t := finish s false (s.mapIru (Iru.lowIdle ms))
    Unchanged [.rsq, .spd, .ins, .pru, .aut, .links, .cfg] s t ∧ t.iru = s.iru.lowIdle ms ∧ t.ntu.lowIdle = true ∧
      t.ntu.setpoint = s.cfg.active.lowIdleSpeed := by
  intro t
  have hc := (idleConditions_iff s).2 hidle
  obtain ⟨he, ha, h0, -⟩ := hidle
  have hne : s.rsq.engine ≠ .unloading := by simp [he]
  have hx := settle_of_calm hs hl (u := s.mapIru (Iru.lowIdle ms)) rfl rfl rfl rfl hne
  obtain ⟨heff, hperm, -⟩ := hs
  have he0 : effectiveNotch (s.mapIru (Iru.lowIdle ms)) = s.ntu.e :=
    (effectiveNotch_congr rfl rfl rfl rfl).trans heff.symm
  have hcond : idleConditions (settleInputs (s.mapIru (Iru.lowIdle ms))) = true := by
    rw [← hc]
    refine idleConditions_congr (by simp) (by simp) (by simp) (by simp) (by simp) (by simp) (by simp [he0]) ?_ (by simp)
    rw [settleInputs_loadPermit, hperm]
    exact loadPermitWanted_congr rfl rfl rfl
  have hxi : (settleInputs (s.mapIru (Iru.lowIdle ms))).iru = s.iru.lowIdle ms := by
    rw [settleInputs_iru, hcond]
    rfl
  have hti : t.iru = s.iru.lowIdle ms := by
    change (settle s false _).iru = _
    rw [hx, refreshGovernor_iru, hxi]
  have htl : t.ntu.lowIdle = true := by
    change (settle s false _).ntu.lowIdle = _
    rw [hx, refreshGovernor_lowIdle]
    refine refreshLowIdle_lowIdle ?_ (by simpa using he) (by simpa using ha) (by simpa [he0] using h0)
    have := congrArg Iru.lowIdleRequest hxi
    rwa [settleInputs, refreshLowIdle_iru] at this
  obtain ⟨fr, fs, fp, fa⟩ := finish_of_ne (s0 := s) (test := false) (s := s.mapIru (Iru.lowIdle ms)) hne
  obtain ⟨hq, hi, hcf, hlk⟩ := (movesEngine_mapIru (Iru.lowIdle ms) s).finish s false
  refine ⟨unchanged_cons fr (unchanged_cons fs (unchanged_cons hi (unchanged_cons fp (unchanged_cons fa
    (unchanged_cons hlk (unchanged_cons hcf (unchanged_nil hq))))))), hti, htl, ?_⟩
  obtain ⟨-, -, hset, -⟩ : Settled t := settled_finish _ _ _
  have htr : t.rsq.engine = .running := by rw [fr]; exact he
  rw [hset, htr, hcf]
  exact if_pos htl

theorem exec_idleDwellExpiry {s : State} (hi : s.iru.state = .idleDwell) (ht : s.iru.idleDwell.isSome = true) :
    exec .idleDwellExpiry s = .next (finish s false (endIdleDwell s)) := by
  change Host.Outcome.next (if _ then _ else _) = _
  rw [if_pos ⟨hi, ht⟩]

theorem exec_lowIdleDwellExpiry {s : State} (hi : s.iru.state = .lowIdleDwell)
    (ht : s.iru.lowIdleDwell.isSome = true) :
    exec .lowIdleDwellExpiry s = .next (finish s false (endLowIdleDwell s)) := by
  change Host.Outcome.next (if _ then _ else _) = _
  rw [if_pos ⟨hi, ht⟩]

/-- A settled dwell stands under the conditions of R158. -/
theorem Settled.idle {s : State} (h : Settled s) (hi : s.iru.state = .idleDwell ∨ s.iru.state = .lowIdleDwell) :
    Idle s := by
  obtain ⟨-, -, -, hd, -⟩ := h
  exact (idleConditions_iff s).1 (hd hi)

/-- What an event leaves unchanged of a state whose IRU has moved in it. -/
theorem Unchanged.from_iru {bs : List Block} {f : Iru → Iru} {s t : State} (h : Unchanged bs (s.mapIru f) t)
    (hb : Block.iru ∉ bs) : Unchanged bs s t := by
  obtain ⟨hq, hun⟩ := h
  refine ⟨hq, fun b hm => ?_⟩
  have := hun b hm
  cases b
  case iru => exact absurd hm hb
  all_goals exact this

/-- The idle dwell ends in LOW IDLE DWELL, or with a LOW IDLE DWELL TIME of 0 in the rundown of an auto stop. -/
theorem idleDwellExpires {s : State} (hs : Settled s) (hidle : Idle s) (hload : LoadLaw s)
    (hl : s.ntu.lowIdle = false) (hu : s.ntu.unloadReported = false) :
    let t := finish s false (endIdleDwell s)
    Unchanged [.spd, .ins, .links, .cfg] s t ∧
      (0 < s.cfg.active.lowIdleDwellTime →
        Unchanged [.rsq, .pru, .aut] s t ∧ t.iru = s.iru.lowIdle (minutesMs s.cfg.active.lowIdleDwellTime) ∧
          t.ntu.lowIdle = true ∧ t.ntu.setpoint = s.cfg.active.lowIdleSpeed) ∧
      (s.cfg.active.lowIdleDwellTime = 0 →
        t.rsq.engine = .rundown ∧ t.rsq.stopCause = .autoStop ∧ t.iru.state = .stopping ∧
          t.rsq.counters.autoStops = min 65535 (s.rsq.counters.autoStops + 1)) := by
  dsimp only
  rw [endIdleDwell_eq]
  split
  · next hms =>
    let u := s.mapIru (Iru.lowIdle (minutesMs s.cfg.active.lowIdleDwellTime))
    have huidle : Idle u := hidle
    obtain ⟨hun, he, hc, hi, -, hn, -⟩ := lowIdleDwellEnds (s := u) huidle hload hu s false
    refine ⟨hun.from_iru (by decide), fun hpos => ?_, fun _ => ⟨he, hc, hi, hn⟩⟩
    unfold minutesMs at hms
    omega
  · next hms =>
    obtain ⟨⟨hq, hun⟩, hi, hlow, hset⟩ := idleDwellEnds hs hidle hl (minutesMs s.cfg.active.lowIdleDwellTime)
    refine ⟨⟨hq, fun b hb => hun b ?_⟩, fun _ => ⟨⟨hq, fun b hb => hun b ?_⟩, hi, hlow, hset⟩, fun h0 => ?_⟩
    · revert hb; cases b <;> decide
    · revert hb; cases b <;> decide
    · simp [minutesMs, h0] at hms

end Sys2Proof.Machine
end

section
/-! SUPPORT. The restart triggers of IRU: the holder's DEMAND, a cold coolant and a low battery (R158 to R164). -/

namespace Sys2Proof.Machine

theorem Restarted.congr {s u t t' : State} {a : Aut} (h : Restarted s u t a) (hr : t'.rsq = t.rsq)
    (hs : t'.spd = t.spd) (ha : t'.aut = t.aut) (hi : t'.iru = t.iru) : Restarted s u t' a := by
  unfold Restarted PrelubeEntered at *
  rw [hr, hs, ha, hi]
  exact h

/-! ### The rundown of an auto stop (R24, R162, R163) -/

/-- In the rundown of an auto stop a restart trigger makes a restart pending. -/
theorem restartTriggered {v : State} (he : v.rsq.engine = .rundown) (hc : v.rsq.stopCause = .autoStop) (s0 : State)
    (test : Bool) :
    let t := finish s0 test (handRestartTrigger v)
    t.rsq = { v.rsq with restartPending := true } ∧
      t.iru = { v.iru with state := .restartPending, lowIdleRequest := false } ∧ t.aut = v.aut := by
  have hr := handRestartTrigger_rsq v
  have hi := handRestartTrigger_iru v
  have hen : (handRestartTrigger v).rsq.engine ≠ .unloading := by simp [hr, he]
  obtain ⟨fr, -, -, fa⟩ := finish_of_ne (s0 := s0) (test := test) hen
  refine ⟨?_, ?_, fa.trans (by simp [handRestartTrigger])⟩
  · rw [fr, hr]
    simp [he, hc]
  · rw [finish_iru_of_not_judges (by rw [hi]; rfl) hen, hi]

/-- The zero hold ends the rundown of an auto stop in WATCH (R163). -/
theorem watchEntered {s : State} (hi : s.iru.state = .stopping) (hr : restState s = .autoStopped)
    (hp : s.rsq.restartPending = false) :
    let t := finish s false (comeToRest s)
    t.rsq.engine = .autoStopped ∧
      t.iru =
        { iruOff s.iru with
          state := .watch, restartSent := false, autoStop := some (minutesMs s.cfg.active.autoStopMax) } := by
  have hx : comeToRest s = rested s := by
    rw [comeToRest_eq, if_neg (by simp [hp])]
    rfl
  have hen : (rested s).rsq.engine = .autoStopped := by
    rw [rested_rsq]
    exact hr
  have hiru : (rested s).iru =
      { iruOff s.iru with
        state := .watch, restartSent := false, autoStop := some (minutesMs s.cfg.active.autoStopMax) } := by
    rw [rested, State.mapRsq_iru, changeEngine_iru, hr]
    simp [Iru.engineChanged, hi]
  obtain ⟨fr, -⟩ := finish_of_ne (s0 := s) (test := false) (s := rested s) (by simp [hen])
  rw [hx]
  refine ⟨by rw [fr, hen], ?_⟩
  rw [finish_iru_of_not_judges (by rw [hiru]; rfl) (by simp [hen]), hiru]

/-! ### The holder's DEMAND without a run request (R159) -/

/-- A fresh demand of the holder within its envelope asks for notch 1 or more of an idling engine (R140). -/
theorem one_le_effectiveNotch {t : State} {l : Link} (hidle : Idle t) (hh : t.aut.holds l = true)
    (hd : 1 ≤ (t.aut.source l).demand) (hm : (t.aut.source l).demand ≤ (t.aut.source l).maxNotch)
    (hf : (t.aut.source l).fresh = true) : 1 ≤ effectiveNotch t := by
  obtain ⟨he, -, -, -, -, -, -, -, halarm, hho, -⟩ := hidle
  have hdown : t.pru.idleDown = false := by
    rw [← Bool.not_eq_true, idleDown_iff]
    rintro ⟨e, hc, hs⟩
    rw [halarm e hs] at hc
    simp at hc
  have hlimit : 1 ≤ t.pru.notchLimit.getD 8 := by
    unfold Pru.notchLimit
    (repeat' split) <;> decide
  have hholder : t.aut.holder = some (linkSource l) := by simpa [Aut.holds] using hh
  have hsrc : t.aut.holderDemand = (t.aut.source l).demand ∧ t.aut.envelopeMax = (t.aut.source l).maxNotch ∧
      t.aut.holderFresh = (t.aut.source l).fresh := by
    cases l <;> simp [Aut.holderDemand, Aut.envelopeMax, Aut.holderFresh, hholder, linkSource, Aut.source]
  obtain ⟨h1, h2, h3⟩ := hsrc
  have hstage : t.aut.inStage .awaitTake = false := by simp [Aut.inStage, hho]
  unfold effectiveNotch
  rw [if_neg (by simp [he, hholder, hdown])]
  simp only [h1, h2, h3, hf, hstage, if_true, Bool.false_eq_true, if_false]
  omega

theorem demandArrival_of_stopping {s : State} {notch : Nat} (hi : s.iru.state = .stopping) (hn : 1 ≤ notch) :
    demandArrival notch .none s =
      if s.rsq.engine.runningFamily = true then autoStopCancel (s.mapIru fun i => { i with demandSeen := true })
      else if s.rsq.engine = .rundown then handRestartTrigger s
      else s := by
  simp [demandArrival, hi, asksForEngine, hn]

theorem demandArrival_of_watch {s : State} {notch : Nat} (hi : s.iru.state = .watch) (hn : 1 ≤ notch) :
    demandArrival notch .none s = watchTrigger s := by
  simp [demandArrival, hi, hn]

theorem demandArrival_zero (s : State) : demandArrival 0 .none s = s := by
  unfold demandArrival
  cases s.iru.state <;> simp [asksForEngine]

/-- An auto stop that is unloading, with its demand seen, cancelled (R22, R161). -/
theorem demandArrival_of_unloading {s : State} {notch : Nat} (hi : s.iru.state = .stopping) (hn : 1 ≤ notch)
    (he : s.rsq.engine = .unloading) (hc : s.rsq.stopCause = .autoStop) :
    demandArrival notch .none s = cancelStop (s.mapIru fun i => { i with demandSeen := true }) := by
  rw [demandArrival_of_stopping hi hn, if_pos (by rw [he]; rfl)]
  exact if_pos ⟨he, hc⟩

theorem cancelStop_iru {s : State} (hi : s.iru.state = .stopping) : (cancelStop s).iru = iruOff s.iru := by
  have hx : (cancelStop s).iru = (changeEngine .running s).iru := rfl
  rw [hx, changeEngine_iru]
  simp [Iru.engineChanged, hi]

/-- The demand that cancels an auto stop keeps IRU out of its dwell: E is 1 or more, or the conditions fail. -/
theorem autoStopCancelled {s u : State} {l : Link} {notch : Nat} (hi : u.iru.state = .stopping) (hn : 1 ≤ notch)
    (he : u.rsq.engine = .unloading) (hc : u.rsq.stopCause = .autoStop) (hu : u.aut.claimedBy .service = false)
    (hh : u.aut.holds l = true) (hd : 1 ≤ (u.aut.source l).demand)
    (hm : (u.aut.source l).demand ≤ (u.aut.source l).maxNotch) (hf : (u.aut.source l).fresh = true) :
    let t := finish s false (demandArrival notch .none u)
    t.rsq = { enterState .running u.rsq with stopCause := .none } ∧ t.aut = u.aut ∧ t.iru.Cleared := by
  intro t
  let v := u.mapIru fun i => { i with demandSeen := true }
  have hx : demandArrival notch .none u = cancelStop v := demandArrival_of_unloading hi hn he hc
  have hr : (cancelStop v).rsq = { enterState .running u.rsq with stopCause := .none } := cancelStop_rsq v
  have hiru : (cancelStop v).iru = iruOff v.iru := cancelStop_iru hi
  have ha : (cancelStop v).aut = u.aut := (movesEngine_cancelStop v).aut hu
  have hne : (cancelStop v).rsq.engine ≠ .unloading := by
    rw [hr]
    simp [enterState]
  obtain ⟨fr, -, -, fa⟩ := finish_of_ne (s0 := s) (test := false) hne
  rw [← hx] at fr fa hr ha hiru
  have hta : t.aut = u.aut := fa.trans ha
  refine ⟨fr.trans hr, hta, ?_⟩
  have hbusy : idleConditions t = false := by
    rw [← Bool.not_eq_true, idleConditions_iff]
    intro hidle
    have h1 := one_le_effectiveNotch (t := t) (l := l) hidle (by rw [hta]; exact hh) (by rw [hta]; exact hd)
      (by rw [hta]; exact hm) (by rw [hta]; exact hf)
    obtain ⟨heff, -⟩ : Settled t := settled_finish _ _ _
    obtain ⟨-, -, h0, -⟩ := hidle
    omega
  have hcl : (demandArrival notch .none u).iru.Dwelling := by
    rw [hiru]
    exact .inr (.inr (cleared_iruOff _))
  have hsettled : idleConditions (settle s false (demandArrival notch .none u)) = false := by
    rw [← idleConditions_finish]
    exact hbusy
  obtain ⟨hcleared, -⟩ := settle_cleared hcl s false hsettled
  exact hcleared

/-- The holder's DEMAND at IRU, state by state (R159, R161 to R163). -/
theorem demandArrives {s : State} (hs : Sound s) {l : Link} (hl : s.aut.holds l = true) {notch : Nat} :
    let d := min notch (s.aut.source l).maxNotch
    let u := demanded l notch (s.aut.source l).maxNotch .none s
    let t := finish s false (demandArrival d .none u)
    (1 ≤ d → s.iru.state = .stopping → s.rsq.engine = .unloading → s.rsq.stopCause = .autoStop →
        t.rsq = { enterState .running s.rsq with stopCause := .none } ∧ t.aut = u.aut ∧ t.iru.Cleared) ∧
      (1 ≤ d → s.iru.state = .stopping → s.rsq.engine = .rundown → s.rsq.stopCause = .autoStop →
        t.rsq = { s.rsq with restartPending := true } ∧ t.aut = u.aut ∧
          t.iru = { s.iru with state := .restartPending, lowIdleRequest := false }) ∧
      (1 ≤ d → s.iru.state = .watch → s.rsq.engine = .autoStopped → s.iru.restartSent = false →
        Restarted s s t u.aut) ∧
      (d = 0 ∨ (s.iru.state = .watch ∧ s.iru.restartSent = true) →
        (s.iru.state = .stopping ∧ s.rsq.engine = .rundown) ∨
            (s.iru.state = .watch ∧ s.rsq.engine = .autoStopped) →
        t.rsq = s.rsq ∧ t.iru = s.iru ∧ t.aut = u.aut) := by
  intro d u t
  have hsrc : u.aut.source l = (s.aut.source l).demanded notch (s.aut.source l).maxNotch .none :=
    demanded_source l notch (s.aut.source l).maxNotch .none s
  refine ⟨fun hd hi he hc => ?_, fun hd hi he hc => ?_, fun hd hi he hsent => ?_, fun hd hcase => ?_⟩
  · have hfree : s.aut.claimedBy .service = false := hs.unclaimed (by simp [he, Engine.atRest])
    refine autoStopCancelled (u := u) (l := l) hi hd he hc ((demanded_claimedBy ..).trans hfree) ?_ ?_ ?_ ?_
    · simpa [Aut.holds, u, demanded_aut] using hl
    · rw [hsrc]
      exact hd
    · rw [hsrc]
      exact Nat.min_le_right _ _
    · rw [hsrc]
      rfl
  · have hx : demandArrival d .none u = handRestartTrigger u := by
      rw [demandArrival_of_stopping (s := u) hi hd, if_neg, if_pos (show u.rsq.engine = .rundown from he)]
      change ¬s.rsq.engine.runningFamily = true
      simp [he, Engine.runningFamily]
    obtain ⟨h1, h2, h3⟩ := restartTriggered (v := u) he hc s false
    rw [← hx] at h1 h2 h3
    exact ⟨h1, h3, h2⟩
  · have hx : demandArrival d .none u = watchTrigger u := demandArrival_of_watch (s := u) hi hd
    have h := restarted_watchTrigger (s := s) (u := s) (v := u) he hi hsent rfl rfl rfl rfl rfl
      (demanded_failingPermissive ..) s false
    rwa [← hx] at h
  · have hx : demandArrival d .none u = u := by
      obtain h0 | ⟨hi, hsent⟩ := hd
      · rw [h0, demandArrival_zero]
      · obtain h0 | hd := Nat.eq_zero_or_pos d
        · rw [h0, demandArrival_zero]
        · rw [demandArrival_of_watch (s := u) hi hd, watchTrigger_eq (s := u) hi]
          exact if_pos hsent
    have hfix : s.iru.state.judges = false ∧ s.rsq.engine ≠ .unloading := by
      obtain ⟨hi, he⟩ | ⟨hi, he⟩ := hcase <;> simp [hi, he, IruState.judges]
    obtain ⟨hj, hne⟩ := hfix
    obtain ⟨fr, -, -, fa⟩ := finish_of_ne (s0 := s) (test := false) (s := u) hne
    have fi := finish_iru_of_not_judges (s := u) hj hne s false
    rw [← hx] at fr fa fi
    exact ⟨fr.trans (by rw [hx]; rfl), fi.trans (by rw [hx]; rfl), fa.trans (by rw [hx])⟩

theorem exec_demand_without_run {l : Link} {seq notch : Byte} {s : State}
    (h : Ready l ⟨kindDemand, seq, [notch, 0]⟩ s) (hl : s.aut.holds l = true) (hn : notch.toNat ≤ 8) :
    let m := (s.aut.source l).maxNotch
    let d := min notch.toNat m
    exec (.demand l seq [notch, 0]) s = .next (conclude l ⟨kindDemand, seq, [notch, 0]⟩
      (answer (if m < notch.toNat then .doneLimited else .done) [byte d, 0]
        (settle s false (demandArrival d .none (demanded l notch.toNat m .none s))))) :=
  exec_demand_of_holder (run := .none) h hl hn rfl rfl

/-- A request whose owner's work stops short of the links: what its end shows of that work. -/
theorem concluded {s v : State} {l : Link} {f : Frame} (hl : v.links = (dequeued l s).links) (hi : v.ins = s.ins)
    (hc : v.cfg = s.cfg) (hq : v.pending = s.pending) (r : Result) (p : List Byte) :
    let t := conclude l f (answer r p (settle s false v))
    Settled t ∧ Unchanged [.ins, .cfg] s t ∧ Replied l f r p s t ∧ t.rsq = (finish s false v).rsq ∧
      t.spd = (finish s false v).spd ∧ t.aut = (finish s false v).aut ∧ t.iru = (finish s false v).iru := by
  have hm := movesEngine_settle s false v
  have hins : AgreesOn s (settle s false v) .ins := hm.ins.trans hi
  have hcfg : AgreesOn s (settle s false v) .cfg := hm.cfg.trans hc
  have hpend : (conclude l f (answer r p (settle s false v))).pending = s.pending :=
    (conclude_answer_pending _ _ _ _ _).trans (hm.pending.trans hq)
  exact ⟨settled_conclude _ _ _ _ _ _ _, unchanged_cons (agreesOn_conclude hins _ _ _ _)
    (unchanged_cons (agreesOn_conclude hcfg _ _ _ _) (unchanged_nil hpend)), replied_conclude (hm.links.trans hl),
    (conclude_answer_rsq _ _ _ _ _).trans (rejudgeAttn_rsq _).symm,
    (conclude_answer_spd _ _ _ _ _).trans (rejudgeAttn_spd _).symm,
    (conclude_answer_aut _ _ _ _ _).trans (rejudgeAttn_aut _).symm,
    (conclude_answer_iru _ _ _ _ _).trans (rejudgeAttn_iru _).symm⟩

/-- The event of the holder's DEMAND without a run request. -/
theorem demandEvent {l : Link} {seq notch : Byte} {s : State} (h : Ready l ⟨kindDemand, seq, [notch, 0]⟩ s)
    (hl : s.aut.holds l = true) (hn : notch.toNat ≤ 8) :
    let m := (s.aut.source l).maxNotch
    let d := min notch.toNat m
    let u := finish s false (demandArrival d .none (demanded l notch.toNat m .none s))
    ∃ t, exec (.demand l seq [notch, 0]) s = .next t ∧ Settled t ∧ Unchanged [.ins, .cfg] s t ∧
      Replied l ⟨kindDemand, seq, [notch, 0]⟩ (if m < notch.toNat then .doneLimited else .done) [byte d, 0] s t ∧
      t.rsq = u.rsq ∧ t.spd = u.spd ∧ t.aut = u.aut ∧ t.iru = u.iru := by
  intro m d u
  have hm := movesEngine_demandArrival d .none (demanded l notch.toNat m .none s)
  exact ⟨_, exec_demand_without_run h hl hn, concluded hm.links hm.ins hm.cfg hm.pending _ _⟩

/-! ### COOLANT TEMP and BATTERY at IRU (R162, R163) -/

/-- With the engine at rest or in RUNDOWN a value reaches PRU and IRU alone. -/
theorem handOn_of_still {c : Channel} {s : State} (h : s.rsq.engine = .rundown ∨ s.rsq.engine = .autoStopped) :
    handOn c s = iruValue c (s.mapPru fun p => ringBell (pruValue c s p)) := by
  have hr : rsqValue c s = s := by
    obtain h | h := h <;> exact rsqValue_of_calm (by simp [h]) (by simp [h]) (by simp [h])
  rw [handOn_eq, valueJudged, hr]

/-- The part with the value of a conversion judged by PRU. -/
def valueTaken (c : Channel) (raw : Nat) (s : State) : State :=
  (convertedState c raw s).mapPru fun p => ringBell (pruValue c (convertedState c raw s) p)

theorem coolantTrigger_of_warm {v : Int} {s : State} (h : s.cfg.active.restartCoolant ≤ v) : coolantTrigger v s = s :=
  if_neg (by omega)

theorem coolantTrigger_of_rundown {v : Int} {s : State} (h : v < s.cfg.active.restartCoolant)
    (hi : s.iru.state = .stopping) (he : s.rsq.engine = .rundown) : coolantTrigger v s = handRestartTrigger s := by
  simp [coolantTrigger, h, hi, he]

theorem coolantTrigger_of_watch {v : Int} {s : State} (h : v < s.cfg.active.restartCoolant)
    (hi : s.iru.state = .watch) : coolantTrigger v s = watchTrigger s := by
  simp [coolantTrigger, h, hi]

/-- The battery-low restart timer after a BATTERY value in WATCH. -/
def batteryLowAfter (p : Table) (v : Int) (t : Timer) : Timer :=
  if v < p.restartBattery then (if t = none then some (tenthsMs p.restartBatteryFilter) else t) else none

theorem batteryWatch_of_watch {v : Int} {s : State} (hi : s.iru.state = .watch) :
    batteryWatch v s = s.mapIru fun i => { i with batteryLow := batteryLowAfter s.cfg.active v i.batteryLow } := by
  unfold batteryWatch batteryLowAfter
  rw [if_pos hi]
  congr 1
  funext i
  cases i.batteryLow <;> simp

/-- An event that ends as it stands, where IRU judges nothing and no unloading is in progress. -/
theorem finish_of_fixed {u : State} (hj : u.iru.state.judges = false) (hne : u.rsq.engine ≠ .unloading) (s0 : State)
    (test : Bool) : (finish s0 test u).rsq = u.rsq ∧ (finish s0 test u).iru = u.iru :=
  ⟨(finish_of_ne hne).1, finish_iru_of_not_judges hj hne s0 test⟩

/-- A COOLANT TEMP value at IRU. -/
theorem coolantTaken (raw : Nat) (s : State) :
    let t := finish s false (handOn .coolant (convertedState .coolant raw s))
    let v := (convertedState .coolant raw s).ins.coolant.given
    (v < s.cfg.active.restartCoolant → s.iru.state = .stopping → s.rsq.engine = .rundown →
        s.rsq.stopCause = .autoStop →
        t.rsq = { s.rsq with restartPending := true } ∧
          t.iru = { s.iru with state := .restartPending, lowIdleRequest := false }) ∧
      (v < s.cfg.active.restartCoolant → s.iru.state = .watch → s.rsq.engine = .autoStopped →
        s.iru.restartSent = false →
        Restarted s { s with ins := (convertedState .coolant raw s).ins } t s.aut) ∧
      (s.cfg.active.restartCoolant ≤ v →
        (s.iru.state = .stopping ∧ s.rsq.engine = .rundown) ∨ (s.iru.state = .watch ∧ s.rsq.engine = .autoStopped) →
        t.rsq = s.rsq ∧ t.iru = s.iru) := by
  intro t v
  have hx : s.rsq.engine = .rundown ∨ s.rsq.engine = .autoStopped →
      handOn .coolant (convertedState .coolant raw s) = coolantTrigger v (valueTaken .coolant raw s) := fun h =>
    handOn_of_still (s := convertedState .coolant raw s) h
  refine ⟨fun hv hi he hc => ?_, fun hv hi he hsent => ?_, fun hv hcase => ?_⟩
  · have hk := coolantTrigger_of_rundown (s := valueTaken .coolant raw s) hv hi he
    obtain ⟨h1, h2, -⟩ := restartTriggered (v := valueTaken .coolant raw s) he hc s false
    rw [← hk, ← hx (.inl he)] at h1 h2
    exact ⟨h1, h2⟩
  · have hk := coolantTrigger_of_watch (s := valueTaken .coolant raw s) hv hi
    have h := restarted_watchTrigger (s := s) (u := { s with ins := (convertedState .coolant raw s).ins })
      (v := valueTaken .coolant raw s) he hi hsent rfl rfl rfl rfl rfl (failingPermissive_congr rfl rfl rfl rfl rfl)
      s false
    rwa [← hk, ← hx (.inr he)] at h
  · have hk := coolantTrigger_of_warm (s := valueTaken .coolant raw s) hv
    have hfix : s.iru.state.judges = false ∧ s.rsq.engine ≠ .unloading := by
      obtain ⟨hi, he⟩ | ⟨hi, he⟩ := hcase <;> simp [hi, he, IruState.judges]
    obtain ⟨hj, hne⟩ := hfix
    have hsame := (hx (hcase.imp And.right And.right)).trans hk
    change (finish s false (handOn _ _)).rsq = _ ∧ (finish s false (handOn _ _)).iru = _
    rw [hsame]
    exact finish_of_fixed (u := valueTaken .coolant raw s) hj hne s false

/-- A BATTERY value at IRU in WATCH. -/
theorem batteryTaken (raw : Nat) {s : State} (hi : s.iru.state = .watch) (he : s.rsq.engine = .autoStopped) :
    let t := finish s false (handOn .battery (convertedState .battery raw s))
    let v := (convertedState .battery raw s).ins.battery.given
    t.rsq = s.rsq ∧
      t.iru = { s.iru with batteryLow := batteryLowAfter s.cfg.active v s.iru.batteryLow } := by
  intro t v
  have hx : handOn .battery (convertedState .battery raw s) = batteryWatch v (valueTaken .battery raw s) :=
    handOn_of_still (s := convertedState .battery raw s) (.inr he)
  have hk := batteryWatch_of_watch (v := v) (s := valueTaken .battery raw s) hi
  have hj : (handOn .battery (convertedState .battery raw s)).iru.state.judges = false := by
    rw [hx, hk]
    change s.iru.state.judges = false
    rw [hi]
    rfl
  have hne : (handOn .battery (convertedState .battery raw s)).rsq.engine ≠ .unloading := by
    rw [hx, batteryWatch_rsq]
    change s.rsq.engine ≠ _
    simp [he]
  obtain ⟨fr, fi⟩ := finish_of_fixed hj hne s false
  refine ⟨fr.trans ?_, fi.trans ?_⟩
  · rw [hx, batteryWatch_rsq]
    rfl
  · rw [hx, hk]
    rfl

/-- The event at a conversion in its turn shows the channels it has converted. -/
theorem conversion_ins (c : Channel) (raw : Nat) (s : State) :
    (finish s false (handOn c (convertedState c raw s))).ins = (convertedState c raw s).ins :=
  (finish_ins _ _ _).trans (reports_conversion c c raw s).ins

end Sys2Proof.Machine
end

section
/-! SUPPORT. Idle reduction and the engine (R5, R22, R24, R27, R149, R158 to R164). -/

namespace Sys2Proof.Machine

/-- Settles O55: each timer, trigger and judgement of IRU is one operation and the end of its event. -/
theorem idleReductionTimersMoveTheEngine : Obligations.IdleReductionTimersMoveTheEngine := by
  intro s c hs
  dsimp only
  refine ⟨fun hc hi ht hset hload hl hu => ?_, fun hc hi ht hset hload hu => ?_, fun hc hi he => ?_, fun k raw hc => ?_,
    fun l seq notch hc hready hh hn => ?_, fun k raw hc hk => ?_, fun hc ht hi he hcause => ?_,
    fun hc ht hi he hcause hp hsd => ?_⟩
  · subst hc
    obtain ⟨hun, hpos, hzero⟩ := idleDwellExpires hset (hset.idle (.inl hi)) hload hl hu
    refine ⟨_, exec_idleDwellExpiry hi ht, settled_finish _ _ _, hun, fun h => ?_, hzero⟩
    obtain ⟨hsame, hiru, hlow, hspeed⟩ := hpos h
    rw [hiru]
    exact ⟨hsame, rfl, rfl, rfl, rfl, hlow, hspeed⟩
  · subst hc
    exact ⟨_, exec_lowIdleDwellExpiry hi ht, settled_finish _ _ _,
      lowIdleDwellEnds (hset.idle (.inr hi)) hload hu s false⟩
  · obtain ⟨rfl, ht⟩ | ⟨rfl, ht⟩ := hc
    · obtain ⟨h1, h2, h3, h4⟩ := watchTimerExpires hs hi he (f := fun i => { i with autoStop := none })
        fun _ => ⟨rfl, rfl, rfl⟩
      refine ⟨_, exec_autoStopTimerExpiry hi ht, h1, h2, fun hsent => ?_, h4⟩
      obtain ⟨hun, hiru⟩ := h3 hsent
      rw [hiru]
      exact ⟨hun, hi, fun _ => rfl, fun w => nomatch w⟩
    · obtain ⟨h1, h2, h3, h4⟩ := watchTimerExpires hs hi he (f := fun i => { i with batteryLow := none })
        fun _ => ⟨rfl, rfl, rfl⟩
      refine ⟨_, exec_batteryLowRestartExpiry hi ht, h1, h2, fun hsent => ?_, h4⟩
      obtain ⟨hun, hiru⟩ := h3 hsent
      rw [hiru]
      exact ⟨hun, hi, (fun w => nomatch w), fun _ => rfl⟩
  · obtain rfl | rfl | ⟨rfl, hk⟩ := hc
    · exact ⟨_, exec_windowCompletes s, settled_finish _ _ _,
        idleJudged (keepsIdle_window s) ((pruEvent_cfg _ _).trans (movesEngine_windowRsq s).cfg) s true⟩
    · exact ⟨_, rfl, settled_finish _ _ _, idleJudged (u := rampLoad s) (.of_iru rfl) rfl s true⟩
    · exact ⟨_, exec_conversion hk, settled_finish _ _ _,
        idleJudged (keepsIdle_conversion k raw.toNat s) (reports_conversion k k raw.toNat s).cfg s false⟩
  · subst hc
    obtain ⟨h1, h2, h3, h4⟩ := demandArrives hs hh (notch := notch.toNat)
    obtain ⟨t, hx, hset, hun, hrep, hr, hsp, ha, hiru⟩ := demandEvent hready hh hn
    refine ⟨t, hx, hset, hun, hrep, fun hd hi he hca => ?_, fun hd hi he hca => ?_, fun hd hi he hsent => ?_,
      fun hd hcase => ?_⟩
    · obtain ⟨kr, ka, hcl⟩ := h1 hd hi he hca
      rw [hr, ha, hiru]
      exact ⟨kr, ka, hcl.state, hcl.lowIdleRequest, hcl.demandSeen⟩
    · obtain ⟨kr, ka, ki⟩ := h2 hd hi he hca
      rw [hr, ha, hiru, ki]
      exact ⟨kr, ka, rfl, rfl⟩
    · exact (h3 hd hi he hsent).congr hr hsp ha hiru
    · rw [hr, ha, hiru]
      exact h4 hd hcase
  · subst hc
    obtain ⟨h1, h2, h3⟩ := coolantTaken raw.toNat s
    refine ⟨_, exec_conversion hk, settled_finish _ _ _, ?_⟩
    rw [conversion_ins]
    refine ⟨?_, ?_, ?_, ?_⟩
    · rintro rfl hv hi he hca
      obtain ⟨hr, hiru⟩ := h1 hv hi he hca
      exact ⟨hr, congrArg Iru.state hiru, congrArg Iru.lowIdleRequest hiru⟩
    · rintro rfl hv hi he hsent
      exact h2 hv hi he hsent
    · rintro rfl hi he
      exact batteryTaken raw.toNat hi he
    · rintro rfl
      exact h3
  · subst hc
    exact ⟨_, exec_unloadTimerExpiry he ht, settled_finish _ _ _, autoStopUnloaded he hi hcause⟩
  · subst hc
    have hrest : restState s = .autoStopped := by simp [restState, hsd, hcause]
    obtain ⟨hen, hiru⟩ := watchEntered hi hrest hp
    refine ⟨_, exec_zeroHoldExpiryRundown he ht, settled_finish _ _ _, hen, ?_⟩
    rw [hiru]
    exact ⟨rfl, rfl, rfl, rfl, rfl⟩

end Sys2Proof.Machine
end

section
/-! SUPPORT. What CFG's requests do to the tables: every table stays in its ranges, and a table that comes into use has
rising loads and a CRANK BUDGET that the history keeps to (R179 to R184). -/

namespace Sys2Proof.Machine

/-! ### One field of a table that has been written or copied -/

theorem getD_setIfInBounds {n : Nat} (x : Vector Int n) (f k : Nat) (v : Int) :
    (x.setIfInBounds f v)[k]?.getD 0 = x[k]?.getD 0 ∨ k = f ∧ (x.setIfInBounds f v)[k]?.getD 0 = v := by
  rw [Vector.getElem?_setIfInBounds]
  by_cases hk : f = k
  · by_cases hn : f < n
    · exact .inr ⟨hk.symm, by simp [hk, hk ▸ hn]⟩
    · exact .inl (by simp [hk, hk ▸ hn])
  · exact .inl (by simp [hk])

/-- A write changes at most its own field, and that to the value written. -/
theorem Table.field_setField (t : Table) (g f : Nat) (v : Int) (j k : Nat) :
    (t.setField g f v).field j k = t.field j k ∨ (j = g ∧ k = f) ∧ (t.setField g f v).field j k = v := by
  have key {n : Nat} (x : Vector Int n) : (x.setIfInBounds f v)[k]?.getD 0 = x[k]?.getD 0 ∨
      (j = j ∧ k = f) ∧ (x.setIfInBounds f v)[k]?.getD 0 = v := by
    simpa using getD_setIfInBounds x f k v
  by_cases hj : j = g
  · subst hj
    match j with
    | 0 => exact key t.notch
    | 1 => exact key t.start
    | 2 => exact key t.prot
    | 3 => exact key t.speed
    | 4 => exact key t.links
    | _ + 5 => exact .inl rfl
  · left
    unfold Table.setField Table.field
    (repeat' split) <;> first | rfl | exact absurd rfl hj

/-- A group copied brings the source's fields, the other groups keep theirs. -/
theorem Table.field_copyGroup (t src : Table) (g : Fin 5) (j k : Nat) :
    (t.copyGroup src g).field j k = if j = g.val then src.field j k else t.field j k := by
  unfold Table.field
  fin_cases g <;> (split <;> simp_all [Table.copyGroup])

theorem Table.InRange.setField {t : Table} (h : t.InRange) {g f : Nat} {v : Int} {spec : FieldSpec}
    (hs : fieldSpec g f = some spec) (hv : spec.lo ≤ v ∧ v ≤ spec.hi) : (t.setField g f v).InRange := by
  intro j k other ho
  rcases t.field_setField g f v j k with w | ⟨⟨rfl, rfl⟩, w⟩
  · rw [w]
    exact h j k other ho
  · rw [w]
    cases hs.symm.trans ho
    exact hv

theorem Table.InRange.copyGroup {t src : Table} (h : t.InRange) (hs : src.InRange) (g : Fin 5) :
    (t.copyGroup src g).InRange := by
  intro j k spec hk
  rw [Table.field_copyGroup]
  split
  · exact hs j k spec hk
  · exact h j k spec hk

/-! ### The named quantities that bound an attempt -/

theorem Table.crankBudget_eq (t : Table) : t.crankBudget = (t.field 1 19).toNat := rfl

theorem Table.loadMax_eq (t : Table) : t.loadMax = (t.field 0 30).toNat := rfl

theorem Table.loadAt_succ (t : Table) (p : Nat) : t.loadAt (p + 1) = (t.field 0 (p + 10)).toNat := by
  simp [Table.loadAt, Table.field]

theorem Table.InRange.engageLimit_le {t : Table} (h : t.InRange) : tenthsMs t.engageLimit ≤ 60000 := by
  obtain ⟨-, hi⟩ : 5 ≤ t.engageLimit ∧ t.engageLimit ≤ 100 := h 1 7 ⟨20, 5, 100⟩ rfl
  unfold tenthsMs
  omega

theorem Table.InRange.crankLimit_le {t : Table} (h : t.InRange) (cold : Bool) :
    tenthsMs (if cold = true then t.crankLimitCold else t.crankLimit) ≤ 60000 := by
  obtain ⟨-, hw⟩ : 50 ≤ t.crankLimit ∧ t.crankLimit ≤ 600 := h 1 10 ⟨200, 50, 600⟩ rfl
  obtain ⟨-, hc⟩ : 50 ≤ t.crankLimitCold ∧ t.crankLimitCold ≤ 600 := h 1 11 ⟨300, 50, 600⟩ rfl
  unfold tenthsMs
  split <;> omega

/-! ### A table that passes the cross-checks (R182) -/

theorem not_fails_of_mem {t : Table} {used : Nat} (h : failingCheck t used = none) {c : CrossCheck}
    (hc : c ∈ crossChecks t used) : c.fails = false := by
  have := List.find?_eq_none.1 (Option.map_eq_none_iff.1 h) c hc
  simpa using this

theorem usedStarterTime_le_of_checks {t : Table} {used : Nat} (h : failingCheck t used = none) :
    used ≤ t.crankBudget := by
  have := not_fails_of_mem h (c := ⟨t.field 1 19 < (used : Int), 1, 19⟩) (by simp [crossChecks])
  rw [t.crankBudget_eq]
  simp at this
  omega

theorem loadsRise_of_checks {t : Table} {used : Nat} (h : failingCheck t used = none) : t.LoadsRise := by
  have hp : ∀ p ∈ [11, 12, 13, 14, 15, 16, 17], t.field 0 (p - 1) ≤ t.field 0 p := by
    intro p hp
    have := not_fails_of_mem h (c := ⟨t.field 0 p < t.field 0 (p - 1), 0, p⟩)
      (List.mem_append_left _ (List.mem_append_right _ (List.mem_map.2 ⟨p, hp, rfl⟩)))
    simpa using this
  have hm : t.field 0 17 ≤ t.field 0 30 := by
    simpa using not_fails_of_mem h (c := ⟨t.field 0 30 < t.field 0 17, 0, 30⟩) (by simp [crossChecks])
  refine ⟨fun p h8 => ?_, ?_⟩
  · cases p with
    | zero => exact Nat.zero_le _
    | succ p =>
      rw [t.loadAt_succ p, t.loadAt_succ (p + 1)]
      refine Int.toNat_le_toNat (hp (p + 11) ?_)
      simp only [List.mem_cons, List.not_mem_nil]
      omega
  · rw [t.loadAt_succ 7, t.loadMax_eq]
    exact Int.toNat_le_toNat hm

end Sys2Proof.Machine
end

section
/-! SUPPORT. What a command can do to the crank history (R31 to R38): a path of a few moves, each named once. Every
command follows such a path, so that a law of the crank history need be proved of the moves alone. -/

namespace Sys2Proof.Machine

/-! ### The moves -/

/-- The engine states in which a crank record is open (R31). -/
def Engine.attempting : Engine → Bool
  | .cranking | .accelerating => true
  | _ => false

/-- Two engine run records with the same engine state, crank history and budget timer; the engage and the crank limit
timer have at most been stopped. -/
structure SameCranks (x y : Rsq) : Prop where
  engine : y.engine = x.engine
  history : y.history = x.history
  budget : y.budget = x.budget
  engage : y.timers.engage = x.timers.engage ∨ y.timers.engage = none
  crankLimit : y.timers.crankLimit = x.timers.crankLimit ∨ y.timers.crankLimit = none

/-- The durations, in tenths, that the end of an attempt may write (R34, R35, log 3). -/
inductive Writable (x : Rsq) : Nat → Prop
  | counted : Writable x (elapsedCranking x.history)
  | due : Writable x (crankingDue x)
  | engage : Writable x (elapsedAtExpiry x.timers.engage x)
  | crankLimit : Writable x (elapsedAtExpiry x.timers.crankLimit x)

/-- The history and the budget timer of `y` are those of `x` with its attempt, if one is in progress, ended otherwise
than by firing (R34). -/
inductive AttemptOver (x y : Rsq) : Prop
  | idle (he : x.engine.attempting = false) (hh : y.history = x.history) (hb : y.budget = x.budget)
  | written (he : x.engine = .cranking) (o : CrankOutcome) (ho : o ≠ .fired) (tenths : Nat) (hw : Writable x tenths)
      (hh : y.history = (writeAttempt o tenths x).history) (hb : y.budget = none)
  | closed (he : x.engine = .accelerating) (o : CrankOutcome) (hh : y.history = (closeFired o x).history)
      (hb : y.budget = x.budget)

theorem Engine.attempting_eq_false_iff (e : Engine) :
    e.attempting = false ↔ e ≠ .cranking ∧ e ≠ .accelerating := by
  cases e <;> simp [Engine.attempting]

/-- A path of moves from one state to another, as the crank history sees them. -/
inductive CrankPath : State → State → Prop
  /-- Nothing moves. -/
  | stays {s t : State} (hr : SameCranks s.rsq t.rsq) (hc : t.cfg = s.cfg) : CrankPath s t
  /-- The engine changes to a state outside attempts, and the attempt in progress ends with it. -/
  | leaves {s t : State} (w : Working s) (he : t.rsq.engine.attempting = false) (ho : AttemptOver s.rsq t.rsq)
      (hn : t.rsq.timers.engage = none) (hl : t.rsq.timers.crankLimit = none) (hc : t.cfg = s.cfg) : CrankPath s t
  /-- An attempt begins, fewer than 6 records standing (R33). -/
  | begins {s : State} (w : Working s) (he : s.rsq.engine.attempting = false) (hh : s.rsq.history.length < 6) :
      CrankPath s (beginCranking s)
  /-- The open record of an attempt in CRANKING changes, its duration not past the moment the attempt is due (R33). -/
  | grows {s : State} (he : s.rsq.engine = .cranking) (f : CrankRecord → CrankRecord)
      (hf : ∀ c, (f c).isOpen = c.isOpen ∧ (f c).outcome = c.outcome)
      (hd : ∀ c, (f c).duration = c.duration ∨ (f c).duration ≤ crankingDue s.rsq) :
      CrankPath s (s.mapRsq fun r => { r with history := modifyNewest f r.history })
  /-- The attempt fires (R11). -/
  | fires {s : State} (he : s.rsq.engine = .cranking) : CrankPath s (fireAttempt s)
  /-- A minute passes (R37). -/
  | ages {s : State} (window : Nat) :
      CrankPath s (s.mapRsq fun r => { r with history := ageHistory window r.history })
  /-- CFG moves alone. The active table stays, or another comes into use outside attempts with a budget that the history
  keeps to; the tables stay in range. -/
  | tables {s t : State} (hr : t.rsq = s.rsq) (hk : t.cfg.checking = true → s.cfg.checking = true)
      (hb : t.cfg.active = s.cfg.active ∨
        s.rsq.engine.attempting = false ∧ usedStarterTime s.rsq.history ≤ t.cfg.active.crankBudget)
      (ht : TableLaw s → TableLaw t) : CrankPath s t
  /-- The self-check ends, and RSQ chooses its first working state (R28, R184). -/
  | starts {s : State} (hc : s.cfg.checking = true) : CrankPath s (firstEngineState (s.mapCfg checkedCfg))
  /-- The whole part resets (R28). -/
  | resets (s : State) : CrankPath s (resetPart s)
  | trans {s t u : State} (h : CrankPath s t) (k : CrankPath t u) : CrankPath s u

theorem SameCranks.refl (x : Rsq) : SameCranks x x := ⟨rfl, rfl, rfl, .inl rfl, .inl rfl⟩

theorem CrankPath.refl (s : State) : CrankPath s s := .stays (.refl _) rfl

/-- What leaves RSQ and CFG alone. -/
theorem CrankPath.of_eq {s t : State} (hr : t.rsq = s.rsq) (hc : t.cfg = s.cfg) : CrankPath s t :=
  .stays (hr ▸ .refl _) hc

theorem CrankPath.from_eq {s t u : State} (h : CrankPath t u) (hr : t.rsq = s.rsq) (hc : t.cfg = s.cfg) :
    CrankPath s u :=
  .trans (.of_eq hr hc) h

theorem crankPath_mapRsq (f : Rsq → Rsq) (s : State) (h : SameCranks s.rsq (f s.rsq)) : CrankPath s (s.mapRsq f) :=
  .stays h rfl

theorem crankPath_mapTimers (f : SeqTimers → SeqTimers) (s : State)
    (he : (f s.rsq.timers).engage = s.rsq.timers.engage ∨ (f s.rsq.timers).engage = none)
    (hl : (f s.rsq.timers).crankLimit = s.rsq.timers.crankLimit ∨ (f s.rsq.timers).crankLimit = none) :
    CrankPath s (s.mapTimers f) :=
  .stays ⟨rfl, rfl, rfl, he, hl⟩ rfl

theorem AttemptOver.congr {x y z : Rsq} (h : AttemptOver x y) (hh : z.history = y.history) (hb : z.budget = y.budget) :
    AttemptOver x z := by
  cases h with
  | idle he h1 h2 => exact .idle he (hh.trans h1) (hb.trans h2)
  | written he o ho n hw h1 h2 => exact .written he o ho n hw (hh.trans h1) (hb.trans h2)
  | closed he o h1 h2 => exact .closed he o (hh.trans h1) (hb.trans h2)

/-- Outside attempts none need end. -/
theorem attemptOver_of_idle {x : Rsq} (h : x.engine.attempting = false) : AttemptOver x x := .idle h rfl rfl

/-! ### Changes of engine state outside attempts -/

/-- From `s`, the attempt in progress ended as in `u`, the engine changes to a state outside attempts. -/
theorem crankPath_changeEngine {s u : State} {new : Engine} (w : Working s) (ho : AttemptOver s.rsq u.rsq)
    (hc : u.cfg = s.cfg) (hn : new.attempting = false) : CrankPath s (changeEngine new u) :=
  .leaves w (by simpa using hn) (ho.congr (by simp) (by simp)) (by simp [stoppedTimers]) (by simp [stoppedTimers])
    (by simpa using hc)

theorem crankPath_enterRundown {s u : State} (w : Working s) (ho : AttemptOver s.rsq u.rsq) (hc : u.cfg = s.cfg) :
    CrankPath s (enterRundown u) :=
  (crankPath_changeEngine w ho hc rfl).trans (crankPath_mapTimers _ _ (.inl rfl) (.inl rfl))

theorem crankPath_enterPrelube {s u : State} (w : Working s) (ho : AttemptOver s.rsq u.rsq) (hc : u.cfg = s.cfg) :
    CrankPath s (enterPrelube u) :=
  (crankPath_changeEngine w ho hc rfl).trans (crankPath_mapTimers _ _ (.inl rfl) (.inl rfl))

theorem crankPath_acceptStart (k : StartKind) {s : State} (w : Working s) (he : s.rsq.engine.attempting = false) :
    CrankPath s (acceptStart k s) :=
  crankPath_enterPrelube w (.idle he rfl rfl) rfl

theorem crankPath_noteRestart (s : State) : CrankPath s (noteRestart s) := by
  unfold noteRestart
  split
  · exact crankPath_mapRsq _ s ⟨rfl, rfl, rfl, .inl rfl, .inl rfl⟩
  · exact .refl s

theorem crankPath_autoRestart (s : State) : CrankPath s (autoRestart s) := by
  unfold autoRestart
  split
  · next h =>
    have w : Working s := working_of_ne (by simp [h])
    have he : s.rsq.engine.attempting = false := by simp [h, Engine.attempting]
    split
    · exact crankPath_acceptStart _ w he
    · next why _ =>
      exact (crankPath_changeEngine (u := noteRefusal why s) w (.idle he rfl rfl) rfl rfl).trans (.of_eq rfl rfl)
  · exact crankPath_noteRestart s
  · exact .refl s

theorem attempting_of_atRest {e : Engine} (h : e.atRest = true) : e.attempting = false := by
  cases e <;> simp_all [Engine.atRest, Engine.attempting]

theorem crankPath_comeToRest {s u : State} (w : Working s) (ho : AttemptOver s.rsq u.rsq) (hc : u.cfg = s.cfg) :
    CrankPath s (comeToRest u) := by
  have h := (crankPath_changeEngine w ho hc (attempting_of_atRest (restState_atRest u))).trans
    (crankPath_mapRsq (fun r => { r with restartPending := false }) _ ⟨rfl, rfl, rfl, .inl rfl, .inl rfl⟩)
  unfold comeToRest
  dsimp only
  split
  · exact h.trans (crankPath_autoRestart _)
  · exact h

theorem crankPath_toRest {s u : State} (w : Working s) (ho : AttemptOver s.rsq u.rsq) (hc : u.cfg = s.cfg) :
    CrankPath s (toRest u) := by
  unfold toRest
  split
  · exact crankPath_enterRundown w ho hc
  · exact crankPath_comeToRest w ho hc

/-! ### A SHUTDOWN in service, and the last one leaving (R25, R26) -/

theorem attemptOver_cutAttempt {o : CrankOutcome} (ho : o ≠ .fired) (s : State) :
    AttemptOver s.rsq (cutAttempt o s).rsq := by
  unfold cutAttempt
  split
  · next h => exact .written h o ho _ .counted rfl rfl
  · next h => exact .closed h o rfl rfl
  · next h1 h2 =>
    exact attemptOver_of_idle ((Engine.attempting_eq_false_iff _).2 ⟨h1, h2⟩)

theorem crankPath_setStopCause (c : StopCause) (s : State) : CrankPath s (setStopCause c s) :=
  .stays (by rw [setStopCause_rsq]; exact ⟨rfl, rfl, rfl, .inl rfl, .inl rfl⟩) (by simp)

theorem crankPath_takeShutdown (s : State) : CrankPath s (takeShutdown s) := by
  unfold takeShutdown
  split
  · exact .refl s
  · next hc =>
    have w : Working s := fun _ => by simpa using hc
    split
    · next h => exact crankPath_changeEngine w (attemptOver_of_idle (by rw [h]; rfl)) rfl rfl
    · next h => exact crankPath_changeEngine w (attemptOver_of_idle (by rw [h]; rfl)) rfl rfl
    · exact .refl s
    · refine .trans (t := stopByProtection s) ?_ (crankPath_mapRsq _ _ ⟨rfl, rfl, rfl, .inl rfl, .inl rfl⟩)
      unfold stopByProtection
      split
      · exact .refl s
      · exact crankPath_setStopCause _ s
    · refine crankPath_toRest w ?_ (by simp)
      have h := attemptOver_cutAttempt (o := .protection) (by decide) s
      exact h.congr (by simp [stopByProtection_rsq, noteProtection_rsq])
        (by simp [stopByProtection_rsq, noteProtection_rsq])

theorem crankPath_takeLastLeft (s : State) : CrankPath s (takeLastLeft s) := by
  unfold takeLastLeft
  split
  · exact .refl s
  · next hc =>
    split
    · next h =>
      exact (crankPath_changeEngine (fun _ => by simpa using hc) (attemptOver_of_idle (by rw [h]; rfl)) rfl rfl).trans
        (crankPath_mapRsq _ _ ⟨rfl, rfl, rfl, .inl rfl, .inl rfl⟩)
    · exact .refl s

theorem crankPath_pruEvent (f : Pru → Pru) (s : State) : CrankPath s (pruEvent f s) := by
  have h : CrankPath s (s.mapPru fun p => ringBell (f p)) := .of_eq rfl rfl
  exact handOff_cases _ _ (CrankPath s) (fun u k => k.trans (.of_eq (by simp) (by simp)))
    (fun _ => h.trans (crankPath_takeShutdown _)) (fun _ _ => h.trans (crankPath_takeLastLeft _)) fun _ => h

/-! ### The ways a start goes on and ends (R8 to R18) -/

theorem crankPath_abandonStart (why : Reason) {s u : State} (w : Working s) (ho : AttemptOver s.rsq u.rsq)
    (hc : u.cfg = s.cfg) : CrankPath s (abandonStart why u) :=
  crankPath_toRest w (ho.congr rfl rfl) hc

theorem crankPath_failStart (result : StartResult) (s : State) : CrankPath s (failStart result s) :=
  .trans (crankPath_mapRsq _ s ⟨rfl, rfl, rfl, .inl rfl, .inl rfl⟩) (crankPath_pruEvent _ _)

theorem crankPath_enterCranking {s : State} (w : Working s) (he : s.rsq.engine.attempting = false) :
    CrankPath s (enterCranking s) := by
  cases h : failingPermissive s with
  | some why =>
    rw [enterCranking_of_failing h]
    exact crankPath_abandonStart why w (attemptOver_of_idle he) rfl
  | none =>
    obtain ⟨-, -, hh, -⟩ := (failingPermissive_none_iff s).1 h
    rw [enterCranking_of_permitted ((failingPermissive_none_iff s).1 h)]
    exact .begins w he hh

theorem crankPath_enterPriming {s : State} (w : Working s) (he : s.rsq.engine.attempting = false) :
    CrankPath s (enterPriming s) := by
  have h : CrankPath s (primed s) :=
    (crankPath_changeEngine w (attemptOver_of_idle he) rfl rfl).trans (crankPath_mapTimers _ _ (.inl rfl) (.inl rfl))
  have hp : (primed s).rsq.engine = .priming := by simp [primed_rsq, enterState]
  rw [enterPriming_eq]
  split
  · exact h.trans (crankPath_enterCranking (working_of_ne (by simp [hp])) (by simp [hp, Engine.attempting]))
  · exact h

theorem crankPath_failAttempt {s u : State} (w : Working s) (ho : AttemptOver s.rsq u.rsq) (hc : u.cfg = s.cfg) :
    CrankPath s (failAttempt u) :=
  (crankPath_changeEngine (new := .crankRest) w ho hc rfl).trans
    (crankPath_mapRsq _ _ ⟨rfl, rfl, rfl, .inl rfl, .inl rfl⟩)

theorem crankPath_endAttempt {o : CrankOutcome} (ho : o ≠ .fired) {tenths : Nat} {s : State}
    (he : s.rsq.engine = .cranking) (hw : Writable s.rsq tenths) : CrankPath s (endAttempt o tenths s) :=
  crankPath_failAttempt (working_of_ne (by simp [he])) (.written he o ho tenths hw rfl rfl) rfl

theorem crankPath_endRest {s : State} (he : s.rsq.engine = .crankRest) : CrankPath s (endRest s) := by
  unfold endRest
  split
  · have h : CrankPath s (s.mapRsq fun r => { r with attempt := r.attempt + 1 }) :=
      crankPath_mapRsq _ s ⟨rfl, rfl, rfl, .inl rfl, .inl rfl⟩
    exact h.trans (crankPath_enterCranking (working_of_ne (by simp [he])) (by simp [he, Engine.attempting]))
  · exact crankPath_failStart _ s

/-! ### Stop and start requests at RSQ (R19 to R27) -/

theorem crankPath_beginUnloading (c : StopCause) {s : State} (he : s.rsq.engine = .running) :
    CrankPath s (beginUnloading c s) := by
  have ho : AttemptOver s.rsq (setStopCause c s).rsq := by
    rw [setStopCause_rsq]
    exact .idle (by rw [he]; rfl) rfl rfl
  exact (crankPath_changeEngine (working_of_ne (by simp [he])) ho (by simp) rfl).trans
    (crankPath_mapTimers _ _ (.inl rfl) (.inl rfl))

theorem crankPath_cancelStop {s : State} (he : s.rsq.engine = .unloading) : CrankPath s (cancelStop s) :=
  (crankPath_changeEngine (working_of_ne (by simp [he])) (attemptOver_of_idle (by rw [he]; rfl)) rfl rfl).trans
    (crankPath_mapRsq _ _ ⟨rfl, rfl, rfl, .inl rfl, .inl rfl⟩)

/-- A start in progress stopped by the holder goes to rest, its attempt ended (R19). -/
theorem crankPath_stoppedStart {s : State} (h : s.rsq.engine ≠ .stopped) : CrankPath s (toRest (stoppedStart s)) := by
  refine crankPath_toRest (working_of_ne h) ?_ (by simp [stoppedStart])
  have ho := attemptOver_cutAttempt (o := .command) (by decide) s
  exact ho.congr (by simp [stoppedStart_rsq]) (by simp [stoppedStart_rsq])

theorem crankPath_holderStop (s : State) : CrankPath s (holderStop s) := by
  by_cases hs : s.rsq.engine.starting = true
  · rw [holderStop_of_starting hs]
    exact crankPath_stoppedStart (by intro w; simp [w, Engine.starting] at hs)
  unfold holderStop
  cases h : s.rsq.engine <;> dsimp only
  case prelube | priming | cranking | crankRest | accelerating => exact absurd (by rw [h]; rfl) hs
  case running => exact crankPath_beginUnloading _ h
  case unloading => exact crankPath_setStopCause _ s
  case rundown =>
    have h1 : CrankPath s (s.mapRsq fun r => { r with restartPending := false }) :=
      crankPath_mapRsq _ s ⟨rfl, rfl, rfl, .inl rfl, .inl rfl⟩
    split
    · exact h1.trans (crankPath_setStopCause _ _)
    · exact h1
  case autoStopped =>
    exact (crankPath_changeEngine (working_of_ne (by simp [h])) (attemptOver_of_idle (by rw [h]; rfl)) rfl rfl).trans
      (crankPath_mapRsq _ _ ⟨rfl, rfl, rfl, .inl rfl, .inl rfl⟩)
  case stopped | lockedOut => exact .refl s

theorem crankPath_holderStart {s : State} (hc : s.cfg.checking = false) : CrankPath s (holderStart s).1 := by
  unfold holderStart
  cases h : s.rsq.engine <;> dsimp only
  case stopped | autoStopped =>
    split
    · exact crankPath_acceptStart _ (fun _ => hc) (by rw [h]; rfl)
    · exact .stays ⟨rfl, rfl, rfl, .inl rfl, .inl rfl⟩ rfl
  case unloading => exact crankPath_cancelStop h
  all_goals exact .refl s

theorem crankPath_autoStop (s : State) : CrankPath s (autoStop s) := by
  unfold autoStop
  split
  · next h => exact crankPath_beginUnloading _ h
  · exact .refl s

theorem crankPath_autoStopCancel (s : State) : CrankPath s (autoStopCancel s) := by
  unfold autoStopCancel
  split
  · next h => exact crankPath_cancelStop h.1
  · exact .refl s

theorem crankPath_fuelOff {s : State} (h : s.rsq.engine = .unloading) : CrankPath s (fuelOff s) := by
  have ho : AttemptOver s.rsq (fuelOffNoted s).rsq := by
    rw [fuelOffNoted_rsq]
    exact .idle (by rw [h]; rfl) rfl rfl
  obtain ⟨-, -, -, hc⟩ := fuelOffNoted_blocks s
  exact crankPath_enterRundown (working_of_ne (by simp [h])) ho hc

/-! ### IRU's arrivals, and the end of an event -/

theorem crankPath_watchTrigger (s : State) : CrankPath s (watchTrigger s) := by
  unfold watchTrigger
  split
  · exact (crankPath_autoRestart _).from_eq rfl rfl
  · exact .refl s

theorem crankPath_handRestartTrigger (s : State) : CrankPath s (handRestartTrigger s) :=
  (crankPath_noteRestart _).from_eq rfl rfl

theorem crankPath_demandArrival (notch : Nat) (run : RunRequest) (s : State) :
    CrankPath s (demandArrival notch run s) := by
  unfold demandArrival
  (repeat' split) <;> try exact .refl s
  · exact (crankPath_autoStopCancel _).from_eq rfl rfl
  · exact crankPath_handRestartTrigger s
  · exact crankPath_watchTrigger s

theorem crankPath_settle (s0 : State) (test : Bool) (s : State) : CrankPath s (settle s0 test s) := by
  obtain ⟨x, hx, h⟩ := settle_form s0 test s
  have hr : CrankPath s (refreshGovernor (settleInputs x)) := by
    rcases h with rfl | rfl <;> exact .of_eq (by simp) (by simp)
  rw [hx]
  unfold reportUnload
  split
  · next he =>
    exact hr.trans ((crankPath_fuelOff (s := (refreshGovernor (settleInputs x)).mapNtu _) he.1).from_eq rfl rfl)
  · exact hr

/-- A path goes on through the settling of its event. -/
theorem CrankPath.settle {s t : State} (h : CrankPath s t) (s0 : State) (test : Bool) :
    CrankPath s (settle s0 test t) :=
  h.trans (crankPath_settle s0 test t)

/-- A path goes on to the end of its event. -/
theorem CrankPath.finish {s t : State} (h : CrankPath s t) (s0 : State) (test : Bool) :
    CrankPath s (finish s0 test t) :=
  (h.settle s0 test).trans (.of_eq rfl rfl)

/-! ### The trainline, forces and masks, a change of holder -/

theorem crankPath_trainlineChange (f : Trainline → Trainline) (s : State) : CrankPath s (trainlineChange f s) :=
  (crankPath_pruEvent _ _).from_eq rfl rfl

theorem crankPath_discreteChanged (d : Discrete) (v : Bool) (s : State) : CrankPath s (discreteChanged d v s) := by
  unfold discreteChanged
  split
  · exact crankPath_pruEvent _ s
  · exact crankPath_pruEvent _ s
  · split
    · exact crankPath_mapTimers _ s (.inr rfl) (.inl rfl)
    · exact .refl s
  · exact .refl s

theorem crankPath_forceDiscrete (d : Discrete) (v : Option Bool) (s : State) : CrankPath s (forceDiscrete d v s) := by
  unfold forceDiscrete
  dsimp only
  split
  · exact .of_eq rfl rfl
  · exact (crankPath_discreteChanged _ _ _).from_eq rfl rfl

theorem crankPath_releaseInputs (s : State) : CrankPath s (releaseInputs s) := by
  unfold releaseInputs
  refine .trans ?_ (crankPath_forceDiscrete _ _ _)
  refine .trans ?_ (crankPath_forceDiscrete _ _ _)
  refine .trans ?_ (crankPath_forceDiscrete _ _ _)
  exact (crankPath_forceDiscrete _ _ _).from_eq rfl rfl

theorem crankPath_afterHolderChange (old : Option Source) (s : State) : CrankPath s (afterHolderChange old s) := by
  have h1 : CrankPath s
      (if old = some .service ∧ s.aut.holder ≠ some .service then clearForcesAndMasks s else s) := by
    split
    · exact ((crankPath_releaseInputs s).trans (crankPath_trainlineChange _ _)).trans (crankPath_pruEvent _ _)
    · exact .refl s
  unfold afterHolderChange
  extract_lets s1 s2
  have h2 : CrankPath s s2 := h1.trans (.of_eq rfl rfl)
  split
  · exact h2.trans (crankPath_demandArrival _ _ _)
  · exact h2

theorem crankPath_trainlineEvent (f : Trainline → Trainline) (s : State) : CrankPath s (trainlineEvent f s) := by
  have h := crankPath_trainlineChange f s
  unfold trainlineEvent
  dsimp only
  split
  · split
    · exact h
    · exact h.trans ((crankPath_demandArrival _ _ _).from_eq (by simp) (by simp))
  · split
    · exact h.trans (crankPath_afterHolderChange _ _)
    · exact h

theorem crankPath_leaveActive (l : Link) (st : LinkState) (s : State) : CrankPath s (leaveActive l st s) := by
  unfold leaveActive lapse releaseHolder
  dsimp only
  split
  · exact (crankPath_afterHolderChange _ _).from_eq (by simp) (by simp)
  · split
    · split <;> exact .of_eq (by simp) (by simp)
    · exact .of_eq rfl rfl

/-! ### Requests -/

/-- An owner that, heard after the self-check, answers from a state to which a path leads. -/
def FollowsPath (owner : State → Answer) : Prop := ∀ u, u.cfg.checking = false → CrankPath u (owner u).state

theorem crankPath_screenRequest {l : Link} {f : Frame} {s : State} {a : Answer} (h : screenRequest l f s = some a) :
    CrankPath s a.state := by
  unfold screenRequest answer at h
  (repeat' split at h) <;> cases h
  any_goals exact .refl _
  exact CrankPath.settle (.of_eq (by simp) (by simp)) _ _

theorem crankPath_conclude (l : Link) (f : Frame) (a : Answer) : CrankPath a.state (conclude l f a) := by
  unfold conclude
  split <;> exact .of_eq rfl rfl

/-- The tests before the owner's leave the crank history alone, and an owner hears no request during the self-check. -/
theorem crankPath_request (l : Link) (f : Frame) {owner : State → Answer} (h : FollowsPath owner) (s : State) :
    CrankPath s (request l f owner s) := by
  have hd : CrankPath s (dequeued l s) := .of_eq rfl rfl
  unfold request
  split
  · change CrankPath s (if (s.aut.source l).linkState = .inert then _ else
      match screenRequest l f (dequeued l s) with
      | some a => conclude l f a
      | none => conclude l f (owner (dequeued l s)))
    split
    · exact .of_eq rfl rfl
    · split
      · next a ha => exact (hd.trans (crankPath_screenRequest ha)).trans (crankPath_conclude l f a)
      · next hs =>
        have hc : (dequeued l s).cfg.checking = false := by
          by_contra hc
          rw [Bool.not_eq_false] at hc
          rw [screenRequest, if_pos hc] at hs
          cases hs
        exact (hd.trans (h _ hc)).trans (crankPath_conclude l f _)
  · exact .refl s

/-! ### The owners of the requests -/

theorem followsPath_ownerEnrol (l : Link) (payload : List Byte) : FollowsPath (ownerEnrol l payload) := by
  intro s _
  unfold ownerEnrol
  (repeat' split) <;> try exact .of_eq rfl rfl
  have h : CrankPath s ((leaveActive l .inert s).mapLink l LinkIf.discardQueue) :=
    (crankPath_leaveActive l .inert s).trans (.of_eq rfl rfl)
  exact h.settle _ _

theorem crankPath_runRequest (l : Link) (run : RunRequest) {s : State} (hc : s.cfg.checking = false) :
    CrankPath s (runRequest l run s).1 := by
  have hs := crankPath_holderStart hc
  unfold runRequest
  (repeat' split) <;> try exact .refl s
  · next w => rwa [w] at hs
  · next w => rwa [w] at hs
  · exact crankPath_holderStop s

theorem followsPath_ownerDemand (l : Link) (payload : List Byte) : FollowsPath (ownerDemand l payload) := by
  intro s hc
  unfold ownerDemand
  split
  · exact .refl s
  · next notch run _ =>
    dsimp only
    split
    · unfold holderDemandEvent
      extract_lets s1 f r s2
      have h1 : CrankPath s1 r.1 := crankPath_runRequest l run hc
      have h : CrankPath s s2 := ((h1.trans (crankPath_demandArrival _ _ _)).settle _ _).from_eq rfl rfl
      split <;> exact h
    · exact .of_eq rfl rfl

theorem crankPath_grantLink (l : Link) (s : State) : CrankPath s (grantLink l s) :=
  (crankPath_afterHolderChange _ _).from_eq rfl rfl

theorem followsPath_ownerClaim (l : Link) (payload : List Byte) : FollowsPath (ownerClaim l payload) := by
  intro s _
  unfold ownerClaim
  dsimp only
  (repeat' split) <;> try exact .refl s
  · exact (crankPath_grantLink l s).settle _ _
  · exact CrankPath.settle (.of_eq (by simp [beginHandover]) (by simp [beginHandover])) _ _

theorem followsPath_ownerYield (l : Link) (payload : List Byte) : FollowsPath (ownerYield l payload) := by
  intro s _
  unfold ownerYield
  (repeat' split) <;> try exact .refl s
  · have h : CrankPath s (releaseHolder s) := (crankPath_afterHolderChange _ _).from_eq rfl rfl
    exact h.settle _ _
  · have h : CrankPath s (yieldToTrainline s) := (crankPath_afterHolderChange _ _).from_eq rfl rfl
    exact h.settle _ _
  · have h : CrankPath s (advanceHandover s) := .of_eq rfl rfl
    exact h.settle _ _

theorem followsPath_ownerTake (l : Link) (payload : List Byte) : FollowsPath (ownerTake l payload) := by
  intro s _
  unfold ownerTake
  (repeat' split) <;> try exact .refl s
  exact (crankPath_grantLink l s).settle _ _

theorem followsPath_ownerKeep (l : Link) : FollowsPath (ownerKeep l) := by
  intro s _
  unfold ownerKeep
  (repeat' split) <;> try exact .refl s
  exact CrankPath.settle (.of_eq (by simp) (by simp)) _ _

theorem followsPath_ownerResetProtection (l : Link) (payload : List Byte) :
    FollowsPath (ownerResetProtection l payload) := by
  intro s _
  unfold ownerResetProtection
  (repeat' split) <;> try exact .refl s
  exact (crankPath_pruEvent _ s).settle _ _

theorem followsPath_ownerResetAll (l : Link) : FollowsPath (ownerResetAll l) := by
  intro s _
  unfold ownerResetAll
  dsimp only
  (repeat' split) <;> try exact .refl s
  exact (crankPath_pruEvent _ s).settle _ _

theorem followsPath_ownerMask (payload : List Byte) : FollowsPath (ownerMask payload) := by
  intro s _
  unfold ownerMask
  split <;> exact .of_eq rfl rfl

theorem followsPath_ownerUnmask (payload : List Byte) : FollowsPath (ownerUnmask payload) := by
  intro s _
  unfold ownerUnmask
  split
  · exact .refl s
  · exact (crankPath_pruEvent _ s).settle _ _

theorem followsPath_ownerClearTripCount (payload : List Byte) : FollowsPath (ownerClearTripCount payload) := by
  intro s _
  unfold ownerClearTripCount
  split <;> exact .of_eq rfl rfl

theorem followsPath_ownerForce (payload : List Byte) : FollowsPath (ownerForce payload) := by
  intro s _
  have h (v : ForceValue) : CrankPath s (applyForce v s) := by
    unfold applyForce
    split
    · exact .of_eq rfl rfl
    · exact .of_eq rfl rfl
    · exact crankPath_forceDiscrete _ _ s
    · exact crankPath_trainlineChange _ s
  unfold ownerForce
  (repeat' split) <;> try exact .refl s
  exact (h _).settle _ _

theorem crankPath_releaseTarget (n : Nat) (s : State) : CrankPath s (releaseTarget n s) := by
  unfold releaseTarget
  (repeat' split) <;> try exact .of_eq rfl rfl
  · exact crankPath_trainlineChange _ s
  · exact crankPath_forceDiscrete _ _ s

theorem followsPath_ownerReleaseForce (payload : List Byte) : FollowsPath (ownerReleaseForce payload) := by
  intro s _
  unfold ownerReleaseForce
  (repeat' split) <;> try exact .refl s
  · exact ((crankPath_releaseInputs s).trans (crankPath_trainlineChange _ _)).settle _ _
  · exact (crankPath_releaseTarget _ s).settle _ _

theorem followsPath_ownerLatch (l : Link) (payload : List Byte) : FollowsPath (ownerLatch l payload) := by
  intro s _
  unfold ownerLatch
  dsimp only
  (repeat' split) <;> exact .of_eq rfl rfl

theorem crankPath_readRequest (t : ReadTarget) (l : Link) (seq : Byte) (payload : List Byte) {owner : State → Answer}
    (h : FollowsPath owner) (s : State) : CrankPath s (readRequest t l seq payload owner s) := by
  unfold readRequest
  split
  · exact crankPath_request l _ h s
  · exact .refl s

theorem followsPath_ownerReadLatched (l : Link) (payload : List Byte) : FollowsPath (ownerReadLatched l payload) := by
  intro s _
  unfold ownerReadLatched
  (repeat' split) <;> exact .of_eq rfl rfl

theorem followsPath_ownerReadCrankHistory (payload : List Byte) : FollowsPath (ownerReadCrankHistory payload) := by
  intro s _
  unfold ownerReadCrankHistory
  (repeat' split) <;> exact .of_eq rfl rfl

theorem followsPath_ownerReadProtectionTable (payload : List Byte) :
    FollowsPath (ownerReadProtectionTable payload) := by
  intro s _
  unfold ownerReadProtectionTable
  (repeat' split) <;> exact .of_eq rfl rfl

theorem followsPath_ownerReadAnalogChannelRecords (payload : List Byte) :
    FollowsPath (ownerReadAnalogChannelRecords payload) := by
  intro s _
  unfold ownerReadAnalogChannelRecords
  (repeat' split) <;> exact .of_eq rfl rfl

theorem followsPath_ownerReadSourceTableSummary (payload : List Byte) :
    FollowsPath (ownerReadSourceTableSummary payload) := by
  intro s _
  unfold ownerReadSourceTableSummary
  (repeat' split) <;> exact .of_eq rfl rfl

theorem followsPath_ownerReadConfigurationEntry (payload : List Byte) :
    FollowsPath (ownerReadConfigurationEntry payload) := by
  intro s _
  unfold ownerReadConfigurationEntry
  (repeat' split) <;> exact .of_eq rfl rfl

theorem followsPath_ownerReadEngineRunRecord (payload : List Byte) :
    FollowsPath (ownerReadEngineRunRecord payload) := by
  intro s _
  unfold ownerReadEngineRunRecord
  (repeat' split) <;> exact .of_eq rfl rfl

/-! ### Values and windows -/

theorem crankPath_rsqValue (c : Channel) (s : State) : CrankPath s (rsqValue c s) := by
  unfold rsqValue
  dsimp only
  split
  · exact .refl s
  · next hc =>
    have w : Working s := fun _ => by simpa using hc
    split
    · next he =>
      split
      · exact crankPath_enterPriming w (by rw [he]; rfl)
      · exact .refl s
    · next he =>
      split
      · exact crankPath_enterCranking w (by rw [he]; rfl)
      · exact .refl s
    · next he =>
      refine .trans (.grows he (fun c => if c.cranking then { c with batteryMin := c.batteryMin.map (min _) } else c)
        (fun c => ?_) fun c => ?_) (.stays ⟨rfl, rfl, rfl, .inl rfl, .inl rfl⟩ rfl)
      · split <;> exact ⟨rfl, rfl⟩
      · split <;> exact .inl rfl
    · exact .refl s

theorem crankPath_handOn (c : Channel) (s : State) : CrankPath s (handOn c s) := by
  have h := (crankPath_rsqValue c s).trans (crankPath_pruEvent (pruValue c (rsqValue c s)) _)
  refine h.trans ?_
  unfold handOn iruValue coolantTrigger batteryWatch
  dsimp only
  (repeat' split) <;> try exact .of_eq rfl rfl
  · exact crankPath_handRestartTrigger _
  · exact crankPath_watchTrigger _

theorem crankPath_crankingWindow {s : State} (h : s.rsq.engine = .cranking) : CrankPath s (crankingWindow s) := by
  have h1 : CrankPath s (s.mapRsq tickCranking) := by
    refine .grows h (fun c => if c.cranking && c.duration < crankingDue s.rsq then { c with duration := c.duration + 1 }
      else c) (fun c => ?_) fun c => ?_
    · split <;> exact ⟨rfl, rfl⟩
    · split
      · next hd =>
        obtain ⟨-, hd⟩ : c.cranking = true ∧ c.duration < crankingDue s.rsq := by simpa using hd
        exact .inr hd
      · exact .inl rfl
  refine h1.trans ?_
  unfold crankingWindow crankingThresholds
  (repeat' split)
  · exact .fires (by simpa [tickCranking] using h)
  · exact .stays ⟨rfl, rfl, rfl, .inl rfl, .inl rfl⟩ rfl
  · exact .refl _

theorem crankPath_acceleratingWindow {s : State} (h : s.rsq.engine = .accelerating) :
    CrankPath s (acceleratingWindow s) := by
  unfold acceleratingWindow
  split
  · exact crankPath_changeEngine (working_of_ne (by simp [h])) (.closed h .fired rfl rfl) rfl rfl
  · exact crankPath_mapTimers _ s (.inl rfl) (.inl rfl)

theorem crankPath_rsqWindow (s : State) : CrankPath s (rsqWindow s) := by
  cases hc : s.cfg.checking with
  | true => simpa [rsqWindow, hc] using CrankPath.refl s
  | false =>
    have h1 : CrankPath s (runCounted s) := by
      unfold runCounted
      split
      · exact .stays ⟨rfl, rfl, rfl, .inl rfl, .inl rfl⟩ rfl
      · exact .refl s
    have he : (runCounted s).rsq.engine = s.rsq.engine := by rw [runCounted_rsq]; rfl
    rw [rsqWindow_eq hc]
    cases hs : s.rsq.engine <;> rw [hs] at he <;> dsimp only
    case cranking => exact h1.trans (crankPath_crankingWindow he)
    case accelerating => exact h1.trans (crankPath_acceleratingWindow he)
    case crankRest | rundown => exact h1.trans (.stays ⟨rfl, rfl, rfl, .inl rfl, .inl rfl⟩ rfl)
    all_goals exact h1

/-! ### CFG's commands -/

theorem fieldSpec_of_writeOperand {payload : List Byte} {g : Fin 5} {f : Nat} {v : Int} {spec : FieldSpec}
    (h : writeOperand payload = some (g, f, v, spec)) : fieldSpec g.val f = some spec := by
  unfold writeOperand at h
  (repeat' split at h) <;> try cases h
  obtain ⟨spec', hs, he⟩ := Option.map_eq_some_iff.1 h
  cases he
  exact hs

theorem followsPath_ownerWriteEntry (payload : List Byte) : FollowsPath (ownerWriteEntry payload) := by
  intro s _
  unfold ownerWriteEntry
  (repeat' split) <;> try exact .refl s
  next g f v spec hw _ hv =>
  exact .tables rfl id (.inl rfl) fun ⟨ha, he, hs, hr⟩ =>
    ⟨ha, he.setField (fieldSpec_of_writeOperand hw) hv, hs, hr⟩

/-- The pending table comes into use once it has passed the cross-checks, and that at rest alone (R182). -/
theorem followsPath_ownerApply : FollowsPath ownerApply := by
  intro s _
  unfold ownerApply
  (repeat' split) <;> try exact .refl s
  next hr _ hf =>
  have h : CrankPath s (s.mapCfg fun c => { c with active := c.edited, writing := true }) :=
    .tables rfl id (.inr ⟨attempting_of_atRest (by simpa using hr), usedStarterTime_le_of_checks hf⟩)
      fun ⟨_, he, hs, _, hst⟩ => ⟨he, he, hs, loadsRise_of_checks hf, hst⟩
  exact (h.trans (crankPath_trainlineEvent _ _)).settle _ _

/-- What changes a group's state, and of the tables at most the pending one, within its ranges. -/
theorem followsPath_groupRequest {allowed : GroupState → Bool} {act : Fin 5 → Cfg → Cfg} (payload : List Byte)
    (h : ∀ g c, (act g c).checking = c.checking ∧ (act g c).active = c.active ∧ (act g c).store = c.store ∧
      (c.active.InRange → c.edited.InRange → (act g c).edited.InRange)) :
    FollowsPath (groupRequest allowed act payload) := by
  intro s _
  unfold groupRequest
  (repeat' split) <;> try exact .refl s
  next g _ _ =>
  obtain ⟨hk, ha, hs, he⟩ := h g s.cfg
  refine .tables rfl (fun w => hk.symm.trans w) (.inl ha) fun ⟨ra, re, rs, la, ls⟩ => ?_
  have ht : (act g s.cfg).active.InRange ∧ (act g s.cfg).edited.InRange ∧ (act g s.cfg).store.InRange ∧
      (act g s.cfg).active.LoadsRise ∧ (act g s.cfg).store.LoadsRise := by
    rw [ha, hs]
    exact ⟨ra, he ra re, rs, la, ls⟩
  exact ht

theorem followsPath_ownerLockGroup (payload : List Byte) : FollowsPath (ownerLockGroup payload) :=
  followsPath_groupRequest (act := fun g => Cfg.closeGroup g .locked) payload fun g _ =>
    ⟨rfl, rfl, rfl, fun ra re => re.copyGroup ra g⟩

theorem followsPath_ownerUnlockGroup (payload : List Byte) : FollowsPath (ownerUnlockGroup payload) :=
  followsPath_groupRequest (act := fun g c => { c with groups := c.groups.set g .opened }) payload fun _ _ =>
    ⟨rfl, rfl, rfl, fun _ re => re⟩

theorem followsPath_ownerFixGroup (payload : List Byte) : FollowsPath (ownerFixGroup payload) :=
  followsPath_groupRequest (act := fun g => Cfg.closeGroup g .fixed) payload fun g _ =>
    ⟨rfl, rfl, rfl, fun ra re => re.copyGroup ra g⟩

theorem crankPath_storeWritten (s : State) :
    CrankPath s (s.mapCfg fun c =>
      { c with store := c.active, storeGood := true, checkBad := false, defaulted := false, writing := false }) :=
  .tables rfl id (.inl rfl) fun ⟨ra, re, _, la, _⟩ => ⟨ra, re, ra, la, la⟩

/-! ### Every command -/

theorem crankPath_mapNtu (f : Ntu → Ntu) (s : State) : CrankPath s (s.mapNtu f) := .of_eq rfl rfl

/-- An event that is one operation, and then the settling. -/
theorem crankPath_event {s u : State} {p : Prop} [Decidable p] (test : Bool) (h : p → CrankPath s u) :
    CrankPath s (if p then finish s test u else s) := by
  split
  · next hp => exact (h hp).finish s test
  · exact .refl s

/-- An outcome whose next state a path leads to. -/
def PathOutcome (s : State) (o : Host.Outcome State Fault Refusal) : Prop := ∀ t, o = .next t → CrankPath s t

theorem pathOutcome_next {s t : State} (h : CrankPath s t) : PathOutcome s (.next t) := by
  intro u hu
  cases hu
  exact h

theorem crankPath_execSelfCheckEnd (s : State) :
    PathOutcome s (execSelfCheckEnd s) := by
  refine pathOutcome_next ?_
  split
  · next hc => exact ((CrankPath.starts hc).trans (crankPath_trainlineEvent _ _)).finish s false
  · exact .refl s

theorem crankPath_execGoodFrame (l : Link) (k q : Byte) (p : List Byte) (s : State) :
    PathOutcome s (execGoodFrame l k q p s) := by
  refine pathOutcome_next ?_
  unfold takeGoodFrame
  (repeat' split) <;> exact .of_eq rfl rfl

theorem crankPath_execUnknownKind (l : Link) (k q : Byte) (p : List Byte) (s : State) :
    PathOutcome s (execUnknownKind l k q p s) := by
  refine pathOutcome_next ?_
  split
  · exact .refl s
  · exact crankPath_request _ _ (fun u _ => .refl u) s

theorem crankPath_execHoldTimerExpiry (c : Channel) (s : State) :
    PathOutcome s (execHoldTimerExpiry c s) := by
  refine pathOutcome_next (crankPath_event false fun _ => ?_)
  have hs : CrankPath s (reportSensorRange (s.mapChannel c (substituted c))) :=
    (crankPath_pruEvent _ _).from_eq rfl rfl
  split
  · exact hs
  · exact hs.trans (crankPath_handOn c _)

theorem crankPath_execDebouncedChange (d : Discrete) (s : State) :
    PathOutcome s (execDebouncedChange d s) := by
  refine pathOutcome_next (crankPath_event false fun _ => ?_)
  split
  · exact .of_eq rfl rfl
  · exact (crankPath_discreteChanged _ _ _).from_eq rfl rfl

theorem crankPath_execPrelubeMinimumExpiry (s : State) :
    PathOutcome s (execPrelubeMinimumExpiry s) := by
  refine pathOutcome_next (crankPath_event false fun hp => ?_)
  obtain ⟨he, -⟩ := hp
  have ht : CrankPath s (s.mapTimers fun x => { x with prelubeMinimum := none }) :=
    crankPath_mapTimers _ s (.inl rfl) (.inl rfl)
  split
  · exact ht.trans (crankPath_enterPriming (working_of_ne (by simp [he])) (by simp [he, Engine.attempting]))
  · exact ht

theorem crankPath_execRestTimerExpiry (s : State) :
    PathOutcome s (execRestTimerExpiry s) := by
  refine pathOutcome_next (crankPath_event false fun hp => ?_)
  have ht : CrankPath s (s.mapTimers fun x => { x with rest := none }) := crankPath_mapTimers _ s (.inl rfl) (.inl rfl)
  split
  · exact ht.trans (crankPath_endRest hp.1)
  · exact ht

theorem crankPath_execZeroHoldExpiryCrankRest (s : State) :
    PathOutcome s (execZeroHoldExpiryCrankRest s) := by
  refine pathOutcome_next (crankPath_event false fun hp => ?_)
  have ht : CrankPath s
      (s.mapRsq fun r => { r with zeroConfirmed := true, timers := { r.timers with zeroHold := none } }) :=
    crankPath_mapRsq _ s ⟨rfl, rfl, rfl, .inl rfl, .inl rfl⟩
  split
  · exact ht.trans (crankPath_endRest hp.1)
  · exact ht

theorem crankPath_execStopHoldExpiry (s : State) :
    PathOutcome s (execStopHoldExpiry s) := by
  refine pathOutcome_next (crankPath_event false fun _ => ?_)
  split
  · exact (crankPath_holderStop _).from_eq rfl rfl
  · exact .of_eq rfl rfl

theorem crankPath_execYieldStageExpiry (s : State) :
    PathOutcome s (execYieldStageExpiry s) := by
  refine pathOutcome_next ?_
  split
  · refine crankPath_event false fun _ => ?_
    split <;> exact .of_eq (by simp) (by simp)
  · exact .refl s

theorem crankPath_execTakeStageExpiry (s : State) :
    PathOutcome s (execTakeStageExpiry s) := by
  refine pathOutcome_next ?_
  split
  · exact crankPath_event false fun _ => .of_eq (by simp) (by simp)
  · exact .refl s

theorem crankPath_execIdleDwellExpiry (s : State) :
    PathOutcome s (execIdleDwellExpiry s) := by
  refine pathOutcome_next (crankPath_event false fun _ => ?_)
  unfold endIdleDwell
  dsimp only
  split
  · exact (crankPath_autoStop _).from_eq rfl rfl
  · exact .of_eq rfl rfl

theorem crankPath_execLubeArmingExpiry (s : State) :
    PathOutcome s (execLubeArmingExpiry s) := by
  refine pathOutcome_next ?_
  split
  · exact .stays ⟨rfl, rfl, rfl, .inl rfl, .inl rfl⟩ rfl
  · exact .refl s

theorem crankPath_execStoreWriteCompletion (s : State) :
    PathOutcome s (execStoreWriteCompletion s) := by
  refine pathOutcome_next ?_
  split
  · exact (crankPath_storeWritten s).trans (.of_eq rfl rfl)
  · exact .refl s

theorem crankPath_execWindowCompletes (s : State) :
    PathOutcome s (execWindowCompletes s) := by
  have hw : CrankPath s (windowRsq s) := (crankPath_rsqWindow _).from_eq rfl rfl
  exact pathOutcome_next ((hw.trans (crankPath_pruEvent (windowPru s) _)).finish s true)

/-- Every command follows a path of moves. -/
theorem crankPath_exec (c : Instr) (s : State) : PathOutcome s (exec c s) := by
  cases c with
  | powerOn | resetLine => exact pathOutcome_next (.resets s)
  | selfCheckEnd => exact crankPath_execSelfCheckEnd s
  | linkBreak l =>
    refine pathOutcome_next (CrankPath.finish ?_ s false)
    exact (crankPath_leaveActive l _ _).from_eq rfl rfl
  | goodFrame l k q p => exact crankPath_execGoodFrame l k q p s
  | badFrame l | interByteGap l | replySent l => exact pathOutcome_next (.of_eq rfl rfl)
  | unknownKind l k q p => exact crankPath_execUnknownKind l k q p s
  | enrol l q p => exact pathOutcome_next (crankPath_request _ _ (followsPath_ownerEnrol l p) s)
  | status l q p => exact pathOutcome_next (crankPath_request _ _ (fun u _ => .refl u) s)
  | demand l q p => exact pathOutcome_next (crankPath_request _ _ (followsPath_ownerDemand l p) s)
  | claim l q p => exact pathOutcome_next (crankPath_request _ _ (followsPath_ownerClaim l p) s)
  | yield l q p => exact pathOutcome_next (crankPath_request _ _ (followsPath_ownerYield l p) s)
  | take l q p => exact pathOutcome_next (crankPath_request _ _ (followsPath_ownerTake l p) s)
  | keep l q p => exact pathOutcome_next (crankPath_request _ _ (followsPath_ownerKeep l) s)
  | resetProtection l q p => exact pathOutcome_next (crankPath_request _ _ (followsPath_ownerResetProtection l p) s)
  | resetAll l q p => exact pathOutcome_next (crankPath_request _ _ (followsPath_ownerResetAll l) s)
  | acknowledge l q p => exact pathOutcome_next (crankPath_request _ _ (fun _ _ => .of_eq rfl rfl) s)
  | latch l q p => exact pathOutcome_next (crankPath_request _ _ (followsPath_ownerLatch l p) s)
  | readLatched l q p =>
    exact pathOutcome_next (crankPath_readRequest _ l q p (followsPath_ownerReadLatched l p) s)
  | readCrankHistory l q p =>
    exact pathOutcome_next (crankPath_readRequest _ l q p (followsPath_ownerReadCrankHistory p) s)
  | readProtectionTable l q p =>
    exact pathOutcome_next (crankPath_readRequest _ l q p (followsPath_ownerReadProtectionTable p) s)
  | readAnalogChannelRecords l q p =>
    exact pathOutcome_next (crankPath_readRequest _ l q p (followsPath_ownerReadAnalogChannelRecords p) s)
  | readSourceTableSummary l q p =>
    exact pathOutcome_next (crankPath_readRequest _ l q p (followsPath_ownerReadSourceTableSummary p) s)
  | readConfigurationEntry l q p =>
    exact pathOutcome_next (crankPath_readRequest _ l q p (followsPath_ownerReadConfigurationEntry p) s)
  | readEngineRunRecord l q p =>
    exact pathOutcome_next (crankPath_readRequest _ l q p (followsPath_ownerReadEngineRunRecord p) s)
  | force l q p => exact pathOutcome_next (crankPath_request _ _ (followsPath_ownerForce p) s)
  | releaseForce l q p => exact pathOutcome_next (crankPath_request _ _ (followsPath_ownerReleaseForce p) s)
  | mask l q p => exact pathOutcome_next (crankPath_request _ _ (followsPath_ownerMask p) s)
  | unmask l q p => exact pathOutcome_next (crankPath_request _ _ (followsPath_ownerUnmask p) s)
  | writeEntry l q p => exact pathOutcome_next (crankPath_request _ _ (followsPath_ownerWriteEntry p) s)
  | applyTable l q p => exact pathOutcome_next (crankPath_request _ _ followsPath_ownerApply s)
  | lockGroup l q p => exact pathOutcome_next (crankPath_request _ _ (followsPath_ownerLockGroup p) s)
  | unlockGroup l q p => exact pathOutcome_next (crankPath_request _ _ (followsPath_ownerUnlockGroup p) s)
  | fixGroup l q p => exact pathOutcome_next (crankPath_request _ _ (followsPath_ownerFixGroup p) s)
  | clearTripCount l q p => exact pathOutcome_next (crankPath_request _ _ (followsPath_ownerClearTripCount p) s)
  | pickupPulse k => exact pathOutcome_next (.of_eq rfl rfl)
  | windowCompletes => exact crankPath_execWindowCompletes s
  | conversion c raw =>
    have hs : CrankPath s (reportSensorRange (s.mapIns (Ins.converted s.cfg.active c raw.toNat))) :=
      (crankPath_pruEvent _ _).from_eq rfl rfl
    exact pathOutcome_next (crankPath_event false fun _ => hs.trans (crankPath_handOn c _))
  | holdTimerExpiry c => exact crankPath_execHoldTimerExpiry c s
  | discreteInputLevelChange d level => exact pathOutcome_next (.of_eq rfl rfl)
  | debouncedChange d => exact crankPath_execDebouncedChange d s
  | filterTimerExpiry e => exact pathOutcome_next (crankPath_event false fun _ => crankPath_pruEvent _ s)
  | prelubeMinimumExpiry => exact crankPath_execPrelubeMinimumExpiry s
  | prelubeLimitExpiry | primeTimerExpiry =>
    exact pathOutcome_next (crankPath_event false fun _ => crankPath_failStart _ s)
  | engageTimerExpiry =>
    exact pathOutcome_next (crankPath_event false fun hp => crankPath_endAttempt (by decide) hp.1 .engage)
  | crankLimitExpiry =>
    exact pathOutcome_next (crankPath_event false fun hp => crankPath_endAttempt (by decide) hp.1 .crankLimit)
  | batteryDropoutExpiry =>
    exact pathOutcome_next (crankPath_event false fun hp => crankPath_endAttempt (by decide) hp.1 .counted)
  | budgetTimerExpiry =>
    exact pathOutcome_next (crankPath_event false fun hp =>
      crankPath_abandonStart _ (working_of_ne (by simp [hp.1])) (.written hp.1 .budget (by decide) _ .due rfl rfl) rfl)
  | accelerationTimerExpiry =>
    exact pathOutcome_next (crankPath_event false fun hp =>
      crankPath_failAttempt (working_of_ne (by simp [hp.1])) (.closed hp.1 .slow rfl rfl) rfl)
  | stallTimerExpiry =>
    exact pathOutcome_next (crankPath_event false fun hp =>
      crankPath_failAttempt (working_of_ne (by simp [hp.1])) (.closed hp.1 .stalled rfl rfl) rfl)
  | lubeArmingExpiry => exact crankPath_execLubeArmingExpiry s
  | restTimerExpiry => exact crankPath_execRestTimerExpiry s
  | zeroHoldExpiryCrankRest => exact crankPath_execZeroHoldExpiryCrankRest s
  | zeroHoldExpiryRundown =>
    exact pathOutcome_next (crankPath_event false fun hp =>
      crankPath_comeToRest (working_of_ne (by simp [hp.1])) (attemptOver_of_idle (by rw [hp.1]; rfl)) rfl)
  | unloadTimerExpiry => exact pathOutcome_next (crankPath_event false fun hp => crankPath_fuelOff hp.1)
  | minuteTick =>
    exact pathOutcome_next ((CrankPath.ages s.cfg.active.crankWindow).trans
      (.stays ⟨rfl, rfl, rfl, .inl rfl, .inl rfl⟩ rfl))
  | freshnessTimerExpiry l => exact pathOutcome_next (crankPath_event false fun _ => crankPath_leaveActive l _ s)
  | trainlineWireLevelChange x level => exact pathOutcome_next (.of_eq rfl rfl)
  | trainlineDebouncedChange x | settleTimerExpiry | invalidTimerExpiry =>
    exact pathOutcome_next (crankPath_event false fun _ => crankPath_trainlineEvent _ s)
  | stopHoldExpiry => exact crankPath_execStopHoldExpiry s
  | yieldStageExpiry => exact crankPath_execYieldStageExpiry s
  | takeStageExpiry => exact crankPath_execTakeStageExpiry s
  | dwellTimerExpiry => exact pathOutcome_next (crankPath_event true fun _ => crankPath_mapNtu _ s)
  | rampInterval => exact pathOutcome_next ((crankPath_mapNtu _ s).finish s true)
  | idleDwellExpiry => exact crankPath_execIdleDwellExpiry s
  | lowIdleDwellExpiry => exact pathOutcome_next (crankPath_event false fun _ => (crankPath_autoStop _).from_eq rfl rfl)
  | autoStopTimerExpiry | batteryLowRestartExpiry =>
    exact pathOutcome_next (crankPath_event false fun _ => (crankPath_watchTrigger _).from_eq rfl rfl)
  | storeWriteCompletion => exact crankPath_execStoreWriteCompletion s

/-- A step follows a path of moves. -/
theorem crankPath_step {s t : State} (h : step s = .next t) : CrankPath s t := by
  unfold step at h
  split at h
  · cases h
    exact .refl s
  · exact (crankPath_exec _ _ t h).from_eq rfl rfl

end Sys2Proof.Machine
end

section
/-! SUPPORT. The law of the crank history (R31 to R36), engine state by engine state, and what each move does to it. -/

namespace Sys2Proof.Machine

/-! ### The law, engine state by engine state -/

/-- The crank history outside attempts: at most 6 records, all closed, within `top`; no budget timer runs. -/
structure ClosedHistory (top : Nat) (x : Rsq) : Prop where
  count : x.history.length ≤ 6
  closed : ∀ r ∈ x.history, r.isOpen = false
  used : usedStarterTime x.history ≤ top
  budget : x.budget = none

/-- The crank history in CRANKING: at most 6 records, the newest, `r`, alone open and IN PROGRESS, its duration within
the headroom that `older` leaves of `top` and the budget timer was started with. -/
structure CrankingHistory (top : Nat) (x : Rsq) (older : List CrankRecord) (r : CrankRecord) (headroom : Nat) :
    Prop where
  history : x.history = older ++ [r]
  count : older.length < 6
  closed : ∀ o ∈ older, o.isOpen = false
  isOpen : r.isOpen = true
  outcome : r.outcome = .inProgress
  budget : x.budget = some headroom
  room : usedStarterTime older + headroom ≤ top
  elapsed : r.duration ≤ headroom

/-- The crank history in ACCELERATING: at most 6 records within `top`, the newest, `r`, alone open and FIRED; no budget
timer runs. -/
structure FiredHistory (top : Nat) (x : Rsq) (older : List CrankRecord) (r : CrankRecord) : Prop where
  history : x.history = older ++ [r]
  count : older.length < 6
  closed : ∀ o ∈ older, o.isOpen = false
  isOpen : r.isOpen = true
  outcome : r.outcome = .fired
  used : usedStarterTime older + r.duration ≤ top
  budget : x.budget = none

theorem usedStarterTime_append (older : List CrankRecord) (r : CrankRecord) :
    usedStarterTime (older ++ [r]) = usedStarterTime older + r.duration := by
  simp [usedStarterTime]

theorem checking_false_of_ne {s : State} (h : s.cfg.checking = true → s.rsq.engine = .stopped)
    (he : s.rsq.engine ≠ .stopped) : s.cfg.checking = false := by
  by_contra w
  exact he (h (by simpa using w))

/-- The self-check is over wherever the engine may move (R28). -/
theorem HistoryLaw.checked {s : State} (h : HistoryLaw s) (w : Working s) : s.cfg.checking = false := by
  obtain ⟨hk, -⟩ := h
  by_cases he : s.rsq.engine = .stopped
  · exact w he
  · exact checking_false_of_ne hk he

theorem historyLaw_iff_of_idle {s : State} (he : s.rsq.engine.attempting = false) :
    HistoryLaw s ↔ (s.cfg.checking = true → s.rsq.engine = .stopped) ∧
      ClosedHistory s.cfg.active.crankBudget s.rsq := by
  obtain ⟨hc, ha⟩ := (Engine.attempting_eq_false_iff _).1 he
  constructor
  · rintro ⟨hk, hn, -, hb, -, -, ho, hu, -⟩
    exact ⟨hk, hn, ho hc ha, hu, by simpa [hc] using hb⟩
  · rintro ⟨hk, hn, ho, hu, hb⟩
    exact ⟨hk, hn, fun r hr => ho r (List.dropLast_subset _ hr), by simp [hc, hb], fun w => absurd w hc,
      fun w => absurd w ha, fun _ _ => ho, hu, by simp [hb]⟩

theorem historyLaw_iff_of_cranking {s : State} (he : s.rsq.engine = .cranking) :
    HistoryLaw s ↔ s.cfg.checking = false ∧
      ∃ older r headroom, CrankingHistory s.cfg.active.crankBudget s.rsq older r headroom := by
  constructor
  · rintro ⟨hk, hn, hd, hb, hp, -, -, -, hr⟩
    obtain ⟨r, hl, ho, hi⟩ := hp he
    obtain ⟨older, hh⟩ := List.getLast?_eq_some_iff.1 hl
    obtain ⟨headroom, hb⟩ := Option.isSome_iff_exists.1 (hb.1 he)
    obtain ⟨hroom, hel⟩ := hr headroom hb
    rw [hh] at hn hd hroom hel
    rw [elapsedCranking_append older ho hi] at hel
    exact ⟨checking_false_of_ne hk (by simp [he]), older, r, headroom, hh, by simpa using hn, by simpa using hd, ho, hi,
      hb, by simpa using hroom, hel⟩
  · rintro ⟨hk, older, r, headroom, h⟩
    have hu : usedStarterTime s.rsq.history ≤ s.cfg.active.crankBudget := by
      rw [h.history, usedStarterTime_append]
      have := h.room
      have := h.elapsed
      omega
    refine ⟨by simp [hk], ?_, ?_, by simp [he, h.budget], fun _ => ⟨r, ?_, h.isOpen, h.outcome⟩, by simp [he],
      fun w => absurd he w, hu, fun b hb => ?_⟩
    · simpa [h.history] using h.count
    · simpa [h.history] using h.closed
    · simp [newest, h.history]
    · cases h.budget.symm.trans hb
      rw [h.history, elapsedCranking_append older h.isOpen h.outcome]
      exact ⟨by simpa using h.room, h.elapsed⟩

theorem historyLaw_iff_of_accelerating {s : State} (he : s.rsq.engine = .accelerating) :
    HistoryLaw s ↔ s.cfg.checking = false ∧ ∃ older r, FiredHistory s.cfg.active.crankBudget s.rsq older r := by
  constructor
  · rintro ⟨hk, hn, hd, hb, -, hf, -, hu, -⟩
    obtain ⟨r, hl, ho, hi⟩ := hf he
    obtain ⟨older, hh⟩ := List.getLast?_eq_some_iff.1 hl
    rw [hh] at hn hd hu
    exact ⟨checking_false_of_ne hk (by simp [he]), older, r, hh, by simpa using hn, by simpa using hd, ho, hi,
      by simpa [usedStarterTime_append] using hu, by simpa [he] using hb⟩
  · rintro ⟨hk, older, r, h⟩
    refine ⟨by simp [hk], ?_, ?_, by simp [he, h.budget], by simp [he], fun _ => ⟨r, ?_, h.isOpen, h.outcome⟩,
      fun _ w => absurd he w, ?_, by simp [h.budget]⟩
    · simpa [h.history] using h.count
    · simpa [h.history] using h.closed
    · simp [newest, h.history]
    · simpa [h.history, usedStarterTime_append] using h.used

/-! ### The durations a record may be given -/

/-- What the end of an attempt writes stays within the headroom (R33, R36). -/
theorem Writable.le_headroom {x : Rsq} {tenths top headroom : Nat} {older : List CrankRecord} {r : CrankRecord}
    (h : CrankingHistory top x older r headroom) (hw : Writable x tenths) : tenths ≤ headroom := by
  cases hw with
  | counted =>
    rw [h.history, elapsedCranking_append older h.isOpen h.outcome]
    exact h.elapsed
  | due => exact (crankingDue_le h.budget).1
  | engage | crankLimit => simp [elapsedAtExpiry, h.budget]

/-! ### What each move does to the law -/

theorem ClosedHistory.append {top : Nat} {x : Rsq} {older : List CrankRecord} {r : CrankRecord}
    (hh : x.history = older ++ [r]) (hn : older.length < 6) (hc : ∀ o ∈ older, o.isOpen = false)
    (ho : r.isOpen = false) (hu : usedStarterTime older + r.duration ≤ top) (hb : x.budget = none) :
    ClosedHistory top x where
  count := by simpa [hh] using hn
  closed c hr := by
    rw [hh, List.mem_append, List.mem_singleton] at hr
    rcases hr with hr | rfl
    · exact hc c hr
    · exact ho
  used := by simpa [hh, usedStarterTime_append] using hu
  budget := hb

/-- The end of an attempt closes its record, within the budget (R34, R36). -/
theorem AttemptOver.closedHistory {s : State} {y : Rsq} (ho : AttemptOver s.rsq y) (h : HistoryLaw s) :
    ClosedHistory s.cfg.active.crankBudget y := by
  cases ho with
  | idle he hh hb =>
    obtain ⟨-, h⟩ := (historyLaw_iff_of_idle he).1 h
    exact ⟨by rw [hh]; exact h.count, by rw [hh]; exact h.closed, by rw [hh]; exact h.used, hb.trans h.budget⟩
  | written he o ho tenths hw hh hb =>
    obtain ⟨-, older, r, headroom, h⟩ := (historyLaw_iff_of_cranking he).1 h
    rw [writeAttempt_eq h.history ho] at hh
    have := hw.le_headroom h
    have := h.room
    exact .append hh h.count h.closed rfl (by dsimp only; omega) hb
  | closed he o hh hb =>
    obtain ⟨-, older, r, h⟩ := (historyLaw_iff_of_accelerating he).1 h
    rw [closeFired_eq h.history] at hh
    exact .append hh h.count h.closed rfl h.used (hb.trans h.budget)

theorem historyLaw_leaves {s t : State} (w : Working s) (he : t.rsq.engine.attempting = false)
    (ho : AttemptOver s.rsq t.rsq) (hc : t.cfg = s.cfg) (h : HistoryLaw s) : HistoryLaw t := by
  rw [historyLaw_iff_of_idle he, hc]
  exact ⟨by simp [h.checked w], ho.closedHistory h⟩

/-- An attempt begins with the headroom that the history leaves (R33). -/
theorem historyLaw_begins {s : State} (w : Working s) (he : s.rsq.engine.attempting = false)
    (hn : s.rsq.history.length < 6) (h : HistoryLaw s) : HistoryLaw (beginCranking s) := by
  have hc := h.checked w
  obtain ⟨-, h⟩ := (historyLaw_iff_of_idle he).1 h
  have := h.used
  have hx := crankingEntered_beginCranking s
  unfold CrankingEntered at hx
  rw [historyLaw_iff_of_cranking (by rw [hx]; rfl), hx, beginCranking_cfg]
  exact ⟨hc, s.rsq.history, _, _,
    { history := rfl, count := hn, closed := h.closed, isOpen := rfl, outcome := rfl, budget := rfl
      room := by omega
      elapsed := Nat.zero_le _ }⟩

theorem historyLaw_grows {s : State} (he : s.rsq.engine = .cranking) {f : CrankRecord → CrankRecord}
    (hf : ∀ c, (f c).isOpen = c.isOpen ∧ (f c).outcome = c.outcome)
    (hd : ∀ c, (f c).duration = c.duration ∨ (f c).duration ≤ crankingDue s.rsq)
    (h : HistoryLaw s) : HistoryLaw (s.mapRsq fun r => { r with history := modifyNewest f r.history }) := by
  obtain ⟨hk, older, r, headroom, h⟩ := (historyLaw_iff_of_cranking he).1 h
  obtain ⟨ho, hi⟩ := hf r
  have hr := hd r
  have hl := h.elapsed
  obtain ⟨hdue, -⟩ := crankingDue_le h.budget
  rw [historyLaw_iff_of_cranking (by exact he)]
  exact ⟨hk, older, f r, headroom,
    { h with
      history := by simp [h.history, modifyNewest_append]
      isOpen := ho.trans h.isOpen, outcome := hi.trans h.outcome
      elapsed := by omega }⟩

/-- A firing writes the elapsed duration and leaves the record open (R34). -/
theorem historyLaw_fires {s : State} (he : s.rsq.engine = .cranking) (h : HistoryLaw s) :
    HistoryLaw (fireAttempt s) := by
  obtain ⟨hk, older, r, headroom, h⟩ := (historyLaw_iff_of_cranking he).1 h
  have hx := fireAttempt_rsq s
  rw [firedRsq_eq h.history h.isOpen h.outcome] at hx
  have hc : (fireAttempt s).cfg = s.cfg := (movesEngine_fireAttempt s).cfg
  have := h.room
  have := h.elapsed
  rw [historyLaw_iff_of_accelerating (by rw [hx]; rfl), hx, hc]
  exact ⟨hk, older, { r with outcome := .fired },
    { history := rfl, count := h.count, closed := h.closed, isOpen := h.isOpen, outcome := rfl
      used := by dsimp only; omega
      budget := rfl }⟩

/-! ### A minute tick -/

theorem mem_ageHistory {window : Nat} {h : List CrankRecord} {r : CrankRecord} (hr : r ∈ ageHistory window h) :
    ∃ c ∈ h, r = { c with age := c.age + 1 } := by
  obtain ⟨hm, -⟩ := List.mem_filter.1 hr
  obtain ⟨c, hc, he⟩ := List.mem_map.1 hm
  exact ⟨c, hc, he.symm⟩

theorem length_ageHistory_le (window : Nat) (h : List CrankRecord) : (ageHistory window h).length ≤ h.length := by
  simpa [ageHistory] using List.length_filter_le (fun c => c.isOpen || c.age < window)
    (h.map fun c => { c with age := c.age + 1 })

theorem usedStarterTime_ageHistory_le (window : Nat) (h : List CrankRecord) :
    usedStarterTime (ageHistory window h) ≤ usedStarterTime h := by
  have hs : ((ageHistory window h).map (·.duration)).Sublist (h.map (·.duration)) := by
    simpa [ageHistory, Function.comp_def] using (List.filter_sublist (p := fun c => c.isOpen || c.age < window)
      (l := h.map fun c => { c with age := c.age + 1 })).map (·.duration)
  exact hs.sum_le_sum (by simp)

theorem ageHistory_append (window : Nat) (older : List CrankRecord) {r : CrankRecord} (h : r.isOpen = true) :
    ageHistory window (older ++ [r]) = ageHistory window older ++ [{ r with age := r.age + 1 }] := by
  simp [ageHistory, h]

theorem closed_ageHistory {window : Nat} {h : List CrankRecord} (hc : ∀ r ∈ h, r.isOpen = false) :
    ∀ r ∈ ageHistory window h, r.isOpen = false := by
  intro r hr
  obtain ⟨c, hm, rfl⟩ := mem_ageHistory hr
  exact hc c hm

/-- The open record outlives a minute tick; of the others some may leave (R37). -/
theorem historyLaw_ages {s : State} (window : Nat) (h : HistoryLaw s) :
    HistoryLaw (s.mapRsq fun r => { r with history := ageHistory window r.history }) := by
  by_cases hi : s.rsq.engine.attempting = false
  · obtain ⟨hk, h⟩ := (historyLaw_iff_of_idle hi).1 h
    rw [historyLaw_iff_of_idle (by exact hi)]
    exact ⟨hk, (length_ageHistory_le _ _).trans h.count, closed_ageHistory h.closed,
      (usedStarterTime_ageHistory_le _ _).trans h.used, h.budget⟩
  · cases he : s.rsq.engine <;> simp [he, Engine.attempting] at hi
    case cranking =>
      obtain ⟨hk, older, r, headroom, h⟩ := (historyLaw_iff_of_cranking he).1 h
      have := usedStarterTime_ageHistory_le window older
      have := h.room
      rw [historyLaw_iff_of_cranking (by exact he)]
      exact ⟨hk, ageHistory window older, { r with age := r.age + 1 }, headroom,
        { h with
          history := by simp [h.history, ageHistory_append window older h.isOpen]
          count := (length_ageHistory_le _ _).trans_lt h.count
          closed := closed_ageHistory h.closed
          room := by dsimp only [State.mapRsq]; omega }⟩
    case accelerating =>
      obtain ⟨hk, older, r, h⟩ := (historyLaw_iff_of_accelerating he).1 h
      have := usedStarterTime_ageHistory_le window older
      have := h.used
      rw [historyLaw_iff_of_accelerating (by exact he)]
      exact ⟨hk, ageHistory window older, { r with age := r.age + 1 },
        { h with
          history := by simp [h.history, ageHistory_append window older h.isOpen]
          count := (length_ageHistory_le _ _).trans_lt h.count
          closed := closed_ageHistory h.closed
          used := by dsimp only [State.mapRsq]; omega }⟩

/-! ### The table, the self-check -/

theorem historyLaw_tables {s t : State} (hr : t.rsq = s.rsq) (hk : t.cfg.checking = true → s.cfg.checking = true)
    (hb : t.cfg.active = s.cfg.active ∨
      s.rsq.engine.attempting = false ∧ usedStarterTime s.rsq.history ≤ t.cfg.active.crankBudget)
    (h : HistoryLaw s) : HistoryLaw t := by
  rcases hb with ha | ⟨he, hu⟩
  · unfold HistoryLaw at h ⊢
    rw [hr, ha]
    exact ⟨fun w => h.1 (hk w), h.2⟩
  · obtain ⟨hs, hn, ho, -, hb⟩ := (historyLaw_iff_of_idle he).1 h
    rw [historyLaw_iff_of_idle (by rw [hr]; exact he), hr]
    exact ⟨fun w => hs (hk w), hn, ho, hu, hb⟩

/-- The self-check ends in STOPPED, where no attempt is in progress (R28). -/
theorem historyLaw_starts {s : State} (hc : s.cfg.checking = true) (h : HistoryLaw s) :
    HistoryLaw (firstEngineState (s.mapCfg checkedCfg)) := by
  have he : s.rsq.engine = .stopped := h.1 hc
  have hi : (s.mapCfg checkedCfg).rsq.engine.attempting = false := by simp [he, Engine.attempting]
  have w : Working (s.mapCfg checkedCfg) := fun _ => rfl
  have h1 : HistoryLaw (s.mapCfg checkedCfg) :=
    historyLaw_tables (s := s) rfl (fun w => nomatch w) (.inl rfl) h
  unfold firstEngineState
  (repeat' split)
  · exact historyLaw_leaves w (by simp [enterRundown, Engine.attempting])
      (.idle hi (by simp [enterRundown]) (by simp [enterRundown])) (by simp) h1
  · exact historyLaw_leaves w (by simp [Engine.attempting]) (.idle hi (by simp) (by simp)) (by simp) h1
  · exact h1

theorem historyLaw_resets (s : State) : HistoryLaw (resetPart s) := by
  simp [HistoryLaw, resetPart, resetRsq, usedStarterTime]

/-- A path keeps the law of the crank history. -/
theorem CrankPath.historyLaw {s t : State} (p : CrankPath s t) (h : HistoryLaw s) : HistoryLaw t := by
  induction p with
  | stays hr hc => simpa only [HistoryLaw, hr.engine, hr.history, hr.budget, hc] using h
  | leaves w he ho _ _ hc => exact historyLaw_leaves w he ho hc h
  | begins w he hh => exact historyLaw_begins w he hh h
  | grows he f hf hd => exact historyLaw_grows he hf hd h
  | fires he => exact historyLaw_fires he h
  | ages window => exact historyLaw_ages window h
  | tables hr hk hb _ => exact historyLaw_tables hr hk hb h
  | starts hc => exact historyLaw_starts hc h
  | resets s => exact historyLaw_resets s
  | trans _ _ ih1 ih2 => exact ih2 (ih1 h)

end Sys2Proof.Machine
end

section
/-! SUPPORT. The durations of crank records stay within 600 tenths while the tables are in range (R31, R33, log 3). -/

namespace Sys2Proof.Machine

theorem mem_modifyNewest {f : CrankRecord → CrankRecord} {h : List CrankRecord} {r : CrankRecord}
    (hr : r ∈ modifyNewest f h) : r ∈ h ∨ ∃ c ∈ h, r = f c := by
  rcases List.eq_nil_or_concat' h with rfl | ⟨older, c, rfl⟩
  · exact .inl hr
  · rw [modifyNewest_append, List.mem_append, List.mem_singleton] at hr
    rcases hr with hr | rfl
    · exact .inl (List.mem_append_left _ hr)
    · exact .inr ⟨c, by simp, rfl⟩

theorem duration_modifyNewest_le {f : CrankRecord → CrankRecord} {h : List CrankRecord} {n : Nat}
    (hd : ∀ r ∈ h, r.duration ≤ n) (hf : ∀ c ∈ h, (f c).duration ≤ n) :
    ∀ r ∈ modifyNewest f h, r.duration ≤ n := by
  intro r hr
  rcases mem_modifyNewest hr with hm | ⟨c, hc, rfl⟩
  · exact hd r hm
  · exact hf c hc

theorem elapsedCranking_le {h : List CrankRecord} {n : Nat} (hd : ∀ r ∈ h, r.duration ≤ n) : elapsedCranking h ≤ n := by
  unfold elapsedCranking newest
  split
  · next r hr =>
    split
    · exact hd r (List.mem_of_getLast? hr)
    · exact Nat.zero_le _
  · exact Nat.zero_le _

theorem crankingDue_le_600 (x : Rsq) : crankingDue x ≤ 600 := Nat.min_le_left _ _

theorem elapsedAtExpiry_le_600 {t : Timer} (x : Rsq) (h : ∀ ms, t = some ms → ms ≤ 60000) :
    elapsedAtExpiry t x ≤ 600 := by
  unfold elapsedAtExpiry
  cases t with
  | none => simp
  | some ms =>
    have := h ms rfl
    simp only [Option.getD_some]
    omega

/-- What the end of an attempt writes stays within 600 tenths (R31). -/
theorem Writable.le_600 {s : State} {tenths : Nat} (h : DurationLaw s) (hw : Writable s.rsq tenths) : tenths ≤ 600 := by
  obtain ⟨-, hd, hl, he⟩ := h
  cases hw with
  | counted => exact elapsedCranking_le hd
  | due => exact crankingDue_le_600 _
  | engage => exact elapsedAtExpiry_le_600 _ he
  | crankLimit => exact elapsedAtExpiry_le_600 _ hl

theorem AttemptOver.durations {s : State} {y : Rsq} (ho : AttemptOver s.rsq y) (h : DurationLaw s) :
    ∀ r ∈ y.history, r.duration ≤ 600 := by
  obtain ⟨-, hd, -⟩ := id h
  cases ho with
  | idle he hh hb => rwa [hh]
  | written he o ho tenths hw hh hb =>
    rw [hh]
    exact duration_modifyNewest_le hd fun _ _ => hw.le_600 h
  | closed he o hh hb =>
    rw [hh]
    exact duration_modifyNewest_le hd hd

/-! ### What each move does to the law -/

theorem TableLaw.congr {s t : State} (hc : t.cfg = s.cfg) (h : TableLaw s) : TableLaw t := by
  simpa only [TableLaw, hc] using h

theorem durationLaw_leaves {s t : State} (ho : AttemptOver s.rsq t.rsq) (hn : t.rsq.timers.engage = none)
    (hl : t.rsq.timers.crankLimit = none) (hc : t.cfg = s.cfg) (h : DurationLaw s) : DurationLaw t :=
  ⟨.congr hc h.1, ho.durations h, by simp [hl], by simp [hn]⟩

theorem durationLaw_stays {s t : State} (hr : SameCranks s.rsq t.rsq) (hc : t.cfg = s.cfg) (h : DurationLaw s) :
    DurationLaw t := by
  obtain ⟨ht, hd, hl, he⟩ := h
  refine ⟨.congr hc ht, by rwa [hr.history], ?_, ?_⟩
  · rcases hr.crankLimit with w | w
    · rwa [w]
    · simp [w]
  · rcases hr.engage with w | w
    · rwa [w]
    · simp [w]

/-- The two timers that an attempt begins with keep to the ranges of their fields (R1, R12). -/
theorem durationLaw_begins {s : State} (h : DurationLaw s) : DurationLaw (beginCranking s) := by
  obtain ⟨ht, hd, -, -⟩ := h
  obtain ⟨ha, -⟩ := id ht
  have hx := crankingEntered_beginCranking s
  unfold CrankingEntered at hx
  refine ⟨.congr (by simp) ht, ?_, ?_, ?_⟩ <;> rw [hx]
  · intro r hr
    rcases List.mem_append.1 hr with hr | hr
    · exact hd r hr
    · rw [List.mem_singleton.1 hr]
      exact Nat.zero_le _
  · rintro ms ⟨⟩
    exact ha.crankLimit_le _
  · intro ms hms
    dsimp only at hms
    split at hms <;> cases hms
    exact ha.engageLimit_le

theorem durationLaw_grows {s : State} {f : CrankRecord → CrankRecord}
    (hf : ∀ c, (f c).duration = c.duration ∨ (f c).duration ≤ crankingDue s.rsq) (h : DurationLaw s) :
    DurationLaw (s.mapRsq fun r => { r with history := modifyNewest f r.history }) := by
  obtain ⟨ht, hd, hl, he⟩ := h
  refine ⟨ht, duration_modifyNewest_le hd fun c hc => ?_, hl, he⟩
  rcases hf c with w | w
  · rw [w]
    exact hd c hc
  · exact w.trans (crankingDue_le_600 _)

theorem durationLaw_fires {s : State} (h : DurationLaw s) : DurationLaw (fireAttempt s) := by
  obtain ⟨ht, hd, -⟩ := id h
  have hx := fireAttempt_rsq s
  refine ⟨.congr (movesEngine_fireAttempt s).cfg ht, ?_, ?_, ?_⟩ <;> rw [hx]
  · exact duration_modifyNewest_le hd fun _ _ => elapsedCranking_le hd
  · rintro ms ⟨⟩
  · rintro ms ⟨⟩

theorem durationLaw_ages {s : State} (window : Nat) (h : DurationLaw s) :
    DurationLaw (s.mapRsq fun r => { r with history := ageHistory window r.history }) := by
  obtain ⟨ht, hd, hl, he⟩ := h
  refine ⟨ht, fun r hr => ?_, hl, he⟩
  obtain ⟨c, hc, rfl⟩ := mem_ageHistory hr
  exact hd c hc

theorem durationLaw_starts {s : State} (h : DurationLaw s) : DurationLaw (firstEngineState (s.mapCfg checkedCfg)) := by
  obtain ⟨⟨ha, he, hs, hra, hrs⟩, hd, hl, hn⟩ := h
  have ht : TableLaw (s.mapCfg checkedCfg) := ⟨ha, ha, hs, hra, hrs⟩
  unfold firstEngineState
  (repeat' split)
  · exact ⟨.congr (by simp) ht, by simpa [enterRundown] using hd, by simp [enterRundown, stoppedTimers],
      by simp [enterRundown, stoppedTimers]⟩
  · exact ⟨.congr (by simp) ht, by simpa using hd, by simp [stoppedTimers], by simp [stoppedTimers]⟩
  · exact ⟨ht, hd, hl, hn⟩

theorem durationLaw_resets {s : State} (h : TableLaw s) : DurationLaw (resetPart s) := by
  obtain ⟨-, he, hs, -, hrs⟩ := h
  have hload : (resetCfg s.cfg).active.InRange ∧ (resetCfg s.cfg).active.LoadsRise := by
    unfold resetCfg loadedTable
    dsimp only
    split
    · exact ⟨hs, hrs⟩
    · exact ⟨defaultTable_inRange, defaultTable_loadsRise⟩
  obtain ⟨ha, hra⟩ := hload
  refine ⟨⟨ha, he, hs, hra, hrs⟩, ?_, ?_, ?_⟩ <;> simp [resetPart, resetRsq, stoppedTimers]

/-- A path keeps the law of the durations. -/
theorem CrankPath.durationLaw {s t : State} (p : CrankPath s t) (h : DurationLaw s) : DurationLaw t := by
  induction p with
  | stays hr hc => exact durationLaw_stays hr hc h
  | leaves _ _ ho hn hl hc => exact durationLaw_leaves ho hn hl hc h
  | begins => exact durationLaw_begins h
  | grows _ f _ hd => exact durationLaw_grows hd h
  | fires => exact durationLaw_fires h
  | ages window => exact durationLaw_ages window h
  | tables hr _ _ ht =>
    obtain ⟨hs, hd⟩ := h
    exact ⟨ht hs, by rwa [hr]⟩
  | starts => exact durationLaw_starts h
  | resets s => exact durationLaw_resets h.1
  | trans _ _ ih1 ih2 => exact ih2 (ih1 h)

/-- Settles O8: every step follows a path of moves, and each move keeps both laws. -/
theorem crankHistoryStaysWithinItsBudget : Obligations.CrankHistoryStaysWithinItsBudget :=
  ⟨fun _ _ h hs => (crankPath_step hs).historyLaw h, fun _ _ h hs => (crankPath_step hs).durationLaw h⟩

end Sys2Proof.Machine
end

section
/-! SUPPORT. The reads of the crank history and of the analog records (R39, R40, R56, R69, R175). -/

namespace Sys2Proof.Machine

/-! ### Whole records, as many as fit -/

/-- What is packed is the first records, as many as fit: the next one would not. -/
theorem packRecords_take (records : List (List Byte)) (room : Nat) :
    ∃ n, packRecords room records = (records.take n).flatten ∧ (packRecords room records).length ≤ room ∧
      ∀ r, records[n]? = some r → room < (packRecords room records).length + r.length := by
  induction records generalizing room with
  | nil => exact ⟨0, rfl, Nat.zero_le _, by simp⟩
  | cons r rest ih =>
    by_cases hr : r.length ≤ room
    · obtain ⟨n, hp, hl, hn⟩ := ih (room - r.length)
      have hc : packRecords room (r :: rest) = r ++ packRecords (room - r.length) rest := by simp [packRecords, hr]
      refine ⟨n + 1, ?_, ?_, fun q hq => ?_⟩
      · rw [hc, hp]
        simp
      · rw [hc, List.length_append]
        omega
      · have := hn q (by simpa using hq)
        rw [hc, List.length_append]
        omega
    · have hc : packRecords room (r :: rest) = [] := by simp [packRecords, hr]
      refine ⟨0, by simp [hc], by simp [hc], fun q hq => ?_⟩
      cases hq
      simpa [hc] using hr

/-- The same after a header that leaves `room` of the 32 bytes of a payload (R167). -/
theorem header_packRecords {header : List Byte} {room : Nat} (h : header.length + room = 32)
    (records : List (List Byte)) :
    ∃ n, header ++ packRecords room records = header ++ (records.take n).flatten ∧
      (header ++ packRecords room records).length ≤ 32 ∧
      ∀ r, records[n]? = some r → 32 < (header ++ packRecords room records).length + r.length := by
  obtain ⟨n, hp, hl, hn⟩ := packRecords_take records room
  refine ⟨n, by rw [hp], ?_, fun r hr => ?_⟩
  · rw [List.length_append]
    omega
  · have := hn r hr
    rw [List.length_append]
    omega

/-! ### The layout of a record -/

theorem byte_mod (n : Nat) : byte (n % 256) = byte n := by
  apply BitVec.eq_of_toNat_eq
  simp [byte]

theorem byte_toNat (b : Byte) : byte b.toNat = b := by
  simp [byte]

/-- A crank record as R40 lays it out. -/
theorem crankRecordBytes_eq (r : CrankRecord) :
    crankRecordBytes r =
      be16 r.startedAt ++
        [byte (r.outcome.code + 16 * r.attempt + flag r.cold 7),
          byte (r.duration / 256 + flag r.batteryMin.isSome 6 + flag r.isOpen 7), byte (r.duration % 256)] ++
        (match r.batteryMin with
          | some v => [byte (v / 5).toNat]
          | none => []) := by
  rw [byte_mod, Nat.mul_comm 16]
  rfl

/-- A channel record as R175 lays it out. -/
theorem channelRecordBytes_eq (r : ChannelRec) :
    channelRecordBytes r =
      [byte (r.raw / 256 + 16 * r.state.code + flag r.forced.isSome 6), byte (r.raw % 256)] ++ beInt r.eng ++
        (match r.forced with
          | some v => beInt v
          | none => []) := by
  rw [byte_mod, Nat.mul_comm 16]
  rfl

/-- The speed record as R175 lays it out: without a force its value is 0. -/
theorem speedRecordBytes_eq (p : Spd) :
    speedRecordBytes p =
      be16 p.measured ++ be16 p.overspeed ++ be16 p.a.rpm ++ be16 p.b.rpm ++
        [byte (flag p.a.failed 0 + flag p.b.failed 1 + flag p.a.aboveRange 2 + flag p.b.aboveRange 3 +
            flag p.speedDisagree 4 + flag p.senseLost 5 + flag p.forceInEffect.isSome 6)] ++
        (match p.forceInEffect with
          | some v => be16 v
          | none => [0, 0]) := by
  unfold speedRecordBytes
  cases p.forceInEffect <;> rfl

/-! ### The two reads -/

/-- A READ that is heard comes to its owner (R129, R169). -/
theorem readRequest_of_heard {t : ReadTarget} {l : Link} {seq : Byte} {payload : List Byte} {s : State}
    (owner : State → Answer) (h : Heard l ⟨kindRead, seq, payload⟩ s) (hr : readTarget payload = some t) :
    readRequest t l seq payload owner s = conclude l ⟨kindRead, seq, payload⟩ (owner (dequeued l s)) := by
  have hrow : readRow t payload = true := by simp [readRow, hr]
  rw [readRequest, if_pos hrow]
  exact request_of_ready owner (h.ready (.inr (.inl rfl))) rfl (fun w => by cases w)

theorem exec_readCrankHistory {l : Link} {seq first : Byte} {s : State} (h : Heard l ⟨kindRead, seq, [1, first]⟩ s) :
    exec (.readCrankHistory l seq [1, first]) s = .next
      (conclude l ⟨kindRead, seq, [1, first]⟩
        (if first.toNat ≤ 5 then answer .done (crankHistoryPayload first.toNat s) (dequeued l s)
        else answer .badField [] (dequeued l s))) := by
  have ho : ownerReadCrankHistory [1, first] (dequeued l s) =
      if first.toNat ≤ 5 then answer .done (crankHistoryPayload first.toNat s) (dequeued l s)
      else answer .badField [] (dequeued l s) := by
    simp [ownerReadCrankHistory, readTargetOf, crankHistoryPayload]
  rw [← ho]
  exact congrArg _ (readRequest_of_heard _ h rfl)

theorem exec_readAnalogChannelRecords {l : Link} {seq first : Byte} {s : State}
    (h : Heard l ⟨kindRead, seq, [3, first]⟩ s) :
    exec (.readAnalogChannelRecords l seq [3, first]) s = .next
      (conclude l ⟨kindRead, seq, [3, first]⟩
        (if first.toNat ≤ 6 then answer .done (analogPayload first.toNat s) (dequeued l s)
        else answer .badField [] (dequeued l s))) := by
  have ho : ownerReadAnalogChannelRecords [3, first] (dequeued l s) =
      if first.toNat ≤ 6 then answer .done (analogPayload first.toNat s) (dequeued l s)
      else answer .badField [] (dequeued l s) := by
    simp [ownerReadAnalogChannelRecords, readTargetOf, analogPayload, analogRecords]
  rw [← ho]
  exact congrArg _ (readRequest_of_heard _ h rfl)

/-- Settles O24: a read is answered from the state it finds, its records packed behind the header. -/
theorem recordReadsCarryWholeRecords : Obligations.RecordReadsCarryWholeRecords := by
  intro l seq first s
  extract_lets others packed bit crank channel p speed i
  constructor
  · intro h
    refine ⟨_, exec_readCrankHistory h, ?_⟩
    have hc : crankRecordBytes = crank := funext crankRecordBytes_eq
    split
    · obtain ⟨hu, hr⟩ := refused_conclude l ⟨kindRead, seq, [1, first]⟩ .done (crankHistoryPayload first.toNat s) s
      refine ⟨hu, _, hr, ?_⟩
      rw [crankHistoryPayload, byte_toNat, hc]
      exact header_packRecords (by simp [be16]) _
    · exact refused_conclude l _ _ _ s
  · intro h
    refine ⟨_, exec_readAnalogChannelRecords h, ?_⟩
    have hc : channelRecordBytes = channel := funext channelRecordBytes_eq
    have ha : analogRecords s =
        [i.lube, i.coolant, i.fuel, i.battery, i.intake, i.crankcase].map channel ++ [speed] := by
      rw [← hc, show speed = speedRecordBytes s.spd from (speedRecordBytes_eq s.spd).symm]
      rfl
    split
    · obtain ⟨hu, hr⟩ := refused_conclude l ⟨kindRead, seq, [3, first]⟩ .done (analogPayload first.toNat s) s
      refine ⟨hu, _, hr, ?_⟩
      rw [analogPayload, byte_toNat, ha]
      exact header_packRecords (header := [first]) (by simp) _
    · exact refused_conclude l _ _ _ s

end Sys2Proof.Machine
end

section
/-! SUPPORT. What a pulse and a window make of SPD: the readings, the health of the pickups, the speeds (R41 to R53). -/

namespace Sys2Proof.Machine

/-! ### A pulse (R41) -/

theorem pulse_eq (p : PickupRec) : p.pulse = { p with count := min 4095 (p.count + 1) } := by
  rw [PickupRec.pulse, satInc_eq_min]

theorem exec_pickupPulse_a (s : State) :
    exec (.pickupPulse .a) s =
      .next { s with spd := { s.spd with a := { s.spd.a with count := min 4095 (s.spd.a.count + 1) } } } := by
  rw [← pulse_eq]
  rfl

theorem exec_pickupPulse_b (s : State) :
    exec (.pickupPulse .b) s =
      .next { s with spd := { s.spd with b := { s.spd.b with count := min 4095 (s.spd.b.count + 1) } } } := by
  rw [← pulse_eq]
  rfl

/-! ### The stages of a window, one at a time (R42 to R51) -/

/-- The pickup's count has restarted and a window's reading is stored (R42). The tests of R43 and R44 move the health
alone. -/
def PickupRec.Shows (r : Reading) (x : PickupRec) : Prop := x.count = 0 ∧ x.rpm = r.rpm ∧ x.aboveRange = r.above

theorem shows_withReading (r : Reading) (x : PickupRec) : (x.withReading r).Shows r := ⟨rfl, rfl, rfl⟩

theorem PickupRec.Shows.failTest {r : Reading} {x : PickupRec} (h : x.Shows r) (rx ry : Reading) (y : PickupRec) :
    (Machine.failTest rx ry x y).Shows r := by
  unfold Machine.failTest
  (repeat' split) <;> exact h

theorem PickupRec.Shows.recoveryTest {r : Reading} {x : PickupRec} (h : x.Shows r) (t : Table) (rx ry : Reading)
    (y : PickupRec) : (Machine.recoveryTest t rx ry x y).Shows r := by
  unfold Machine.recoveryTest
  (repeat' split) <;> exact h

theorem shows_pickupStages (t : Table) (ra rb : Reading) (d : Spd) :
    (pickupStages t ra rb d).a.Shows ra ∧ (pickupStages t ra rb d).b.Shows rb :=
  ⟨((shows_withReading ra d.a).failTest ..).recoveryTest .., ((shows_withReading rb d.b).failTest ..).recoveryTest ..⟩

/-- What the disagreement test leaves of SPD (R45). -/
theorem disagreeTest_eq (t : Table) (ra rb : Reading) (d : Spd) :
    disagreeTest t ra rb d =
      { d with
        speedDisagree := (disagreeTest t ra rb d).speedDisagree
        disagreeCount := (disagreeTest t ra rb d).disagreeCount
        agreeCount := (disagreeTest t ra rb d).agreeCount } := by
  unfold disagreeTest
  (repeat' split) <;> rfl

/-- What the last stage leaves of SPD (R50, R51): the lost count, and the latch at the fifth blind window. -/
theorem lostStage_eq (isBlind : Bool) (d : Spd) :
    lostStage isBlind d =
      ({ d with
          lostCount := if isBlind = true ∧ d.lostCount < 4 then d.lostCount + 1 else 0
          senseLost := (isBlind && decide (4 ≤ d.lostCount)) || d.senseLost },
        isBlind && decide (4 ≤ d.lostCount)) := by
  unfold lostStage
  cases isBlind
  · simp
  · by_cases h : 4 ≤ d.lostCount
    · have h5 : 5 ≤ d.lostCount + 1 := by omega
      have h4 : ¬d.lostCount < 4 := by omega
      simp [h, h5, h4]
    · have h5 : ¬5 ≤ d.lostCount + 1 := by omega
      have h4 : d.lostCount < 4 := by omega
      simp [h, h5, h4]

/-- The overspeed speed of R48, from what the pickups show. -/
def Spd.overspeedShown (d : Spd) : Nat :=
  max (if d.a.failed = true then 0 else d.a.rpm) (if d.b.failed = true then 0 else d.b.rpm)

/-- The choice of R47, from what the pickups show. -/
def Spd.measuredShown (t : Table) (d : Spd) : Nat :=
  if d.a.failed = true then d.b.rpm
  else if d.b.failed = true then d.a.rpm
  else if max d.a.rpm d.b.rpm - min d.a.rpm d.b.rpm ≤ t.tol then (d.a.rpm + d.b.rpm) / 2
  else max d.a.rpm d.b.rpm

theorem chosenOverspeed_eq {ra rb : Reading} {d : Spd} (ha : d.a.Shows ra) (hb : d.b.Shows rb) :
    chosenOverspeed ra rb d = d.overspeedShown := by
  obtain ⟨-, ha, -⟩ := ha
  obtain ⟨-, hb, -⟩ := hb
  rw [chosenOverspeed, Spd.overspeedShown, ha, hb]

theorem chosenSpeed_eq (t : Table) {ra rb : Reading} {d : Spd} (ha : d.a.Shows ra) (hb : d.b.Shows rb) :
    chosenSpeed t ra rb d = d.measuredShown t := by
  obtain ⟨-, ha, -⟩ := ha
  obtain ⟨-, hb, -⟩ := hb
  simp [chosenSpeed, Spd.measuredShown, agree, apart, ha, hb]

/-! ### A whole window (R52, R53) -/

/-- What a window leaves of SPD, whether it is forced or not, `d` being SPD before it (R42, R47, R48, R53). -/
structure Windowed (t : Table) (ra rb : Reading) (d w : Spd) : Prop where
  a : w.a.Shows ra
  b : w.b.Shows rb
  force : w.force = d.force
  inEffect : w.forceInEffect = d.force
  overspeed : w.overspeed = w.overspeedShown
  measured : w.measured = if d.senseLost = true then 0 else w.measuredShown t

/-- The readings that a window goes by: those of the counts, or under a force the forced value for both (R42, R53). -/
def windowReading (t : Table) (d : Spd) (count : Nat) : Reading :=
  match d.force with
  | some v => ⟨v, false, false⟩
  | none => readingOf t count

/-- SPD with the pickups judged, before the speeds are set. -/
def judgedSpd (t : Table) (ra rb : Reading) (d : Spd) : Spd := disagreeTest t ra rb (pickupStages t ra rb d)

theorem judgedSpd_pickups (t : Table) (ra rb : Reading) (d : Spd) :
    (judgedSpd t ra rb d).a = (pickupStages t ra rb d).a ∧ (judgedSpd t ra rb d).b = (pickupStages t ra rb d).b ∧
      (judgedSpd t ra rb d).lostCount = d.lostCount ∧ (judgedSpd t ra rb d).senseLost = d.senseLost ∧
      (judgedSpd t ra rb d).force = d.force ∧ (judgedSpd t ra rb d).forceInEffect = d.forceInEffect := by
  rw [judgedSpd, disagreeTest_eq]
  exact ⟨rfl, rfl, rfl, rfl, rfl, rfl⟩

theorem liveWindow_eq (t : Table) (fuelled : Bool) (d : Spd) :
    liveWindow t fuelled d =
      lostStage
        (blind fuelled (readingOf t d.a.count) (readingOf t d.b.count)
          (judgedSpd t (readingOf t d.a.count) (readingOf t d.b.count) d))
        (speedStages t (readingOf t d.a.count) (readingOf t d.b.count)
          (judgedSpd t (readingOf t d.a.count) (readingOf t d.b.count) d)) := rfl

theorem windowWork_of_live {d : Spd} (h : d.force = none) (t : Table) (fuelled : Bool) :
    windowWork t fuelled d = liveWindow t fuelled { d with forceInEffect := none } := by
  rw [windowWork, h]

theorem windowWork_of_forced {d : Spd} {v : Nat} (h : d.force = some v) (t : Table) (fuelled : Bool) :
    windowWork t fuelled d = (forcedWindow t v { d with forceInEffect := some v }, false) := by
  rw [windowWork, h]

theorem windowed_windowWork (t : Table) (fuelled : Bool) (d : Spd) :
    Windowed t (windowReading t d d.a.count) (windowReading t d d.b.count) d (windowWork t fuelled d).1 := by
  cases hf : d.force with
  | none =>
    have hr : ∀ n, windowReading t d n = readingOf t n := fun n => by rw [windowReading, hf]
    rw [hr, hr, windowWork_of_live hf, liveWindow_eq, lostStage_eq]
    obtain ⟨ha, hb, -, hs, hfo, hfe⟩ :=
      judgedSpd_pickups t (readingOf t d.a.count) (readingOf t d.b.count) { d with forceInEffect := none }
    obtain ⟨sa, sb⟩ :=
      shows_pickupStages t (readingOf t d.a.count) (readingOf t d.b.count) { d with forceInEffect := none }
    rw [← ha] at sa
    rw [← hb] at sb
    exact
      { a := sa, b := sb, force := hfo, inEffect := hfe.trans hf.symm
        overspeed := chosenOverspeed_eq sa sb
        measured := (congrArg (fun l => if l = true then 0 else _) hs).trans
          (congrArg (fun v => if d.senseLost = true then 0 else v) (chosenSpeed_eq t sa sb)) }
  | some v =>
    have hr : ∀ n, windowReading t d n = ⟨v, false, false⟩ := fun n => by rw [windowReading, hf]
    rw [hr, hr, windowWork_of_forced hf]
    have sa := shows_withReading ⟨v, false, false⟩ d.a
    have sb := shows_withReading ⟨v, false, false⟩ d.b
    exact
      { a := sa, b := sb, force := rfl, inEffect := hf.symm
        overspeed := chosenOverspeed_eq (d := { d with a := d.a.withReading _, b := d.b.withReading _ }) sa sb
        measured := congrArg (fun v => if d.senseLost = true then 0 else v)
          (chosenSpeed_eq (d := { d with a := d.a.withReading _, b := d.b.withReading _ }) t sa sb) }

end Sys2Proof.Machine
end


section
/-! SUPPORT. WINDOW_COMPLETES as a whole: what it leaves of SPD, PRU and AUT (R42 to R53). -/

namespace Sys2Proof.Machine

/-! ### The engine at a window -/

theorem rsqWindow_of_checking {s : State} (h : s.cfg.checking = true) : rsqWindow s = s := by
  simp [rsqWindow, h]

theorem runCounted_blocks (s : State) :
    (runCounted s).rsq.engine = s.rsq.engine ∧ (runCounted s).spd = s.spd ∧ (runCounted s).aut = s.aut := by
  rw [runCounted_eq]
  exact ⟨rfl, rfl, rfl⟩

theorem crankingWindow_engine {s : State} (h : s.rsq.engine = .cranking) :
    ((crankingWindow s).rsq.engine = .cranking ∨ (crankingWindow s).rsq.engine = .accelerating) ∧
      (crankingWindow s).spd = s.spd := by
  unfold crankingWindow crankingThresholds
  (repeat' split)
  · simp [fireAttempt_eq, changeEngine_spd, Engine.atRest]
  · simp [latchCrankFuel, tickCranking, h]
  · simp [tickCranking, h]

theorem acceleratingWindow_engine {s : State} (h : s.rsq.engine = .accelerating) :
    ((acceleratingWindow s).rsq.engine = .accelerating ∨ (acceleratingWindow s).rsq.engine = .running) ∧
      (acceleratingWindow s).spd = s.spd := by
  unfold acceleratingWindow
  split
  · simp [succeedStart, changeEngine_spd, Engine.atRest]
  · simp [h]

/-- What a window can do to the engine state at RSQ: fire the attempt, or end the start (R11, R14). -/
inductive WindowMoves (old new : Engine) : Prop
  | stays (h : new = old)
  | fires (ho : old = .cranking) (hn : new = .accelerating)
  | starts (ho : old = .accelerating) (hn : new = .running)

theorem rsqWindow_engine (s : State) :
    WindowMoves s.rsq.engine (rsqWindow s).rsq.engine ∧ (rsqWindow s).spd = s.spd ∧
      (s.rsq.engine.atRest = true → (rsqWindow s).aut = s.aut) := by
  cases hc : s.cfg.checking with
  | true => rw [rsqWindow_of_checking hc]; exact ⟨.stays rfl, rfl, fun _ => rfl⟩
  | false =>
    obtain ⟨he, hs, ha⟩ := runCounted_blocks s
    rw [rsqWindow_eq hc]
    cases h : s.rsq.engine <;> rw [h] at he <;> dsimp only
    case cranking =>
      obtain ⟨hw, hd⟩ := crankingWindow_engine he
      exact ⟨hw.elim .stays (.fires rfl), hd.trans hs, fun w => by cases w⟩
    case accelerating =>
      obtain ⟨hw, hd⟩ := acceleratingWindow_engine he
      exact ⟨hw.elim .stays (.starts rfl), hd.trans hs, fun w => by cases w⟩
    all_goals exact ⟨.stays he, hs, fun _ => ha⟩

/-- A window leads RSQ neither to rest nor away from it. -/
theorem WindowMoves.atRest {old new : Engine} (h : WindowMoves old new) : new.atRest = old.atRest := by
  cases h with
  | stays h => rw [h]
  | fires ho hn => rw [ho, hn]; rfl
  | starts ho hn => rw [ho, hn]; rfl

theorem WindowMoves.of_rest {old new : Engine} (h : WindowMoves old new) (hr : old.atRest = true) : new = old := by
  cases h with
  | stays h => exact h
  | fires ho hn => rw [ho] at hr; cases hr
  | starts ho hn => rw [ho] at hr; cases hr

/-! ### An event at the table, and the settling, at rest and away from it -/

/-- From rest the engine stays as it is, and SPD with it, or goes over to another state at rest; AUT hears nothing. -/
structure RestMoves (s t : State) : Prop where
  engine : t.rsq.engine = s.rsq.engine ∧ t.spd = s.spd ∨ t.rsq.engine ≠ s.rsq.engine ∧ t.rsq.engine.atRest = true
  aut : t.aut = s.aut

theorem RestMoves.atRest {s t : State} (h : RestMoves s t) (hr : s.rsq.engine.atRest = true) :
    t.rsq.engine.atRest = true := by
  rcases h.engine with ⟨he, -⟩ | ⟨-, he⟩
  · rwa [he]
  · exact he

theorem RestMoves.refl (s : State) : RestMoves s s := ⟨.inl ⟨rfl, rfl⟩, rfl⟩

theorem restMoves_changeEngine {new : Engine} {s : State} (hn : new.atRest = true) (h : new ≠ s.rsq.engine) :
    RestMoves s (changeEngine new s) :=
  ⟨.inr ⟨by simpa using h, by simpa using hn⟩, changeEngine_aut_of_rest s hn⟩

theorem restMoves_takeShutdown {s : State} (h : s.rsq.engine.atRest = true) : RestMoves s (takeShutdown s) := by
  cases hc : s.cfg.checking with
  | true => rw [takeShutdown_of_checking hc]; exact .refl s
  | false =>
    cases he : s.rsq.engine <;> rw [he] at h <;> try cases h
    · rw [takeShutdown_of_rest hc (.inl he)]
      exact restMoves_changeEngine rfl (by simp [he])
    · rw [takeShutdown_of_rest hc (.inr he)]
      exact restMoves_changeEngine rfl (by simp [he])
    · rw [takeShutdown_of_lockedOut he]
      exact .refl s

theorem restMoves_takeLastLeft (s : State) : RestMoves s (takeLastLeft s) := by
  rw [takeLastLeft_eq]
  split
  · next h =>
    have hk : RestMoves s (changeEngine .stopped s) := restMoves_changeEngine rfl (by simp [h.1])
    exact ⟨hk.engine, hk.aut⟩
  · exact .refl s

theorem restMoves_handOff (before : Pru) {s : State} (h : s.rsq.engine.atRest = true) :
    RestMoves s (handOff before s) :=
  handOff_cases before s (RestMoves s)
    (fun u k => ⟨by simpa using k.engine, by simpa using k.aut⟩)
    (fun _ => restMoves_takeShutdown h) (fun _ _ => restMoves_takeLastLeft s) fun _ => .refl s

/-- The settling of an event leads the engine neither to rest nor away from it, and leaves SPD alone (R21, R148). -/
theorem settle_engine (s0 : State) (test : Bool) (s : State) :
    (settle s0 test s).rsq.engine.atRest = s.rsq.engine.atRest ∧ (settle s0 test s).spd = s.spd := by
  by_cases hu : s.rsq.engine = .unloading
  · obtain ⟨x, hx, hf⟩ := settle_form s0 test s
    obtain ⟨he, hs⟩ : (refreshGovernor (settleInputs x)).rsq.engine = .unloading ∧
        (refreshGovernor (settleInputs x)).spd = s.spd := by
      rcases hf with rfl | rfl <;> simp [hu]
    rw [hx]
    unfold reportUnload
    split
    · unfold fuelOff enterRundown
      dsimp only
      split <;> simpa [changeEngine_spd, Engine.atRest, hu] using hs
    · rw [he, hu]
      exact ⟨rfl, hs⟩
  · obtain ⟨hr, hs, -, -⟩ := settle_of_ne (s0 := s0) (test := test) hu
    exact ⟨by rw [hr], hs⟩

theorem ne_unloading_of_atRest {e : Engine} (h : e.atRest = true) : e ≠ .unloading := by
  rintro rfl
  cases h

/-! ### The whole window -/

/-- The state that a window leads to. -/
def windowEnd (s : State) : State := finish s true (pruEvent (windowPru s) (windowRsq s))

/-- The state in which the window's event at the table is handed on. -/
def windowTable (s : State) : State := (windowRsq s).mapPru fun p => ringBell (windowPru s p)

/-- The window but for ATTN: the event at the table handed on, and settled. -/
theorem windowEnd_blocks (s : State) :
    (windowEnd s).rsq = (settle s true (handOff (windowRsq s).pru (windowTable s))).rsq ∧
      (windowEnd s).spd = (settle s true (handOff (windowRsq s).pru (windowTable s))).spd ∧
      (windowEnd s).pru = (settle s true (handOff (windowRsq s).pru (windowTable s))).pru ∧
      (windowEnd s).aut = (settle s true (handOff (windowRsq s).pru (windowTable s))).aut := by
  have h : windowEnd s = rejudgeAttn (settle s true (handOff (windowRsq s).pru (windowTable s))) := by
    rw [windowEnd, finish, pruEvent, windowTable]
  simp only [h, rejudgeAttn_rsq, rejudgeAttn_spd, rejudgeAttn_pru, rejudgeAttn_aut, and_self]

theorem windowTable_moves (s : State) :
    MovesEngine (windowTable s) (settle s true (handOff (windowRsq s).pru (windowTable s))) := windowEvent_moves s

theorem windowEnd_spd (s : State) :
    (windowEnd s).spd = { (windowSpd s).1 with senseLost := (windowEnd s).spd.senseLost } := by
  obtain ⟨-, h, -, -⟩ := windowEnd_blocks s
  have hw : (windowTable s).spd = (windowSpd s).1 := (rsqWindow_engine { s with spd := (windowSpd s).1 }).2.1
  rw [h, (windowTable_moves s).spd, hw]

/-- A window moves no entry but PICKUP FAULT, OVERSPEED and SPEED SENSE LOST, and those that follow the engine. -/
theorem windowEnd_entry (s : State) {e : Entry} (h4 : e ≠ 4) (h8 : e ≠ 8) (h9 : e ≠ 9) :
    (windowEnd s).pru.entry e = (windowPru s (windowRsq s).pru).entry e := by
  obtain ⟨-, -, h, -⟩ := windowEnd_blocks s
  rw [h]
  exact (windowTable_moves s).entry e h4 h8 h9

theorem windowEnd_entry_other (s : State) {e : Entry} (he : e ∉ ([1, 2, 4, 8, 9, 13] : List Entry)) :
    (windowEnd s).pru.entry e = s.pru.entry e := by
  simp only [List.mem_cons, List.not_mem_nil, or_false, not_or] at he
  obtain ⟨h1, h2, h4, h8, h9, h13⟩ := he
  rw [windowEnd_entry s h4 h8 h9, windowPru, windowReports_entry _ _ _ _ h1 h2 h13]
  exact (movesEngine_windowRsq s).entry e h4 h8 h9

/-- PICKUP FAULT is reported as SPD has it (R46). -/
theorem windowReports_fault (fault isOver isLost : Bool) (p : Pru) :
    ((windowReports fault isOver isLost p).entry 13).condition = fault := by
  have hp : ((setCondition 13 fault p).entry 13).condition = fault := setCondition_condition 13 fault p
  unfold windowReports
  dsimp only
  cases isOver <;> cases isLost <;> simp [reportEvent_other, hp]

theorem windowEnd_fault (s : State) : ((windowEnd s).pru.entry 13).condition = (windowSpd s).1.pickupFault := by
  rw [windowEnd_entry s (by decide) (by decide) (by decide)]
  exact windowReports_fault _ _ _ _

/-- AUT hears of no window: away from rest no handover to SERVICE stands, and from rest the engine goes nowhere else
(R132). -/
theorem windowEnd_aut {s : State} (hs : Sound s) : (windowEnd s).aut = s.aut := by
  obtain ⟨-, -, -, h⟩ := windowEnd_blocks s
  rw [h]
  cases hr : s.rsq.engine.atRest with
  | false =>
    have hc : s.aut.claimedBy .service = false := hs.unclaimed hr
    have hw : (windowTable s).aut = s.aut := (movesEngine_windowRsq s).aut hc
    exact ((windowTable_moves s).aut (by rwa [hw])).trans hw
  | true =>
    obtain ⟨hm, -, ha⟩ := rsqWindow_engine { s with spd := (windowSpd s).1 }
    have hw : (windowTable s).rsq.engine.atRest = true := hm.atRest.trans hr
    have hk := restMoves_handOff (windowRsq s).pru hw
    obtain ⟨-, -, -, hset⟩ := settle_of_ne (s0 := s) (test := true) (ne_unloading_of_atRest (hk.atRest hw))
    exact hset.trans (hk.aut.trans (ha hr))

theorem windowEnd_unchanged (s : State) : Unchanged [.ins, .links, .cfg] s (windowEnd s) := by
  have hm := movesEngine_windowRsq s
  refine unchanged_cons ?_ (unchanged_cons (agreesOn_links_finish s true ?_) (unchanged_cons ?_ (unchanged_nil ?_)))
  · exact (finish_ins _ _ _).trans ((pruEvent_ins _ _).trans hm.ins)
  · exact (pruEvent_links _ _).trans hm.links
  · exact (finish_cfg _ _ _).trans ((pruEvent_cfg _ _).trans hm.cfg)
  · exact (finish_pending _ _ _).trans ((pruEvent_pending _ _).trans hm.pending)

theorem windowed_windowSpd (s : State) :
    Windowed s.cfg.active (windowReading s.cfg.active s.spd s.spd.a.count)
      (windowReading s.cfg.active s.spd s.spd.b.count) s.spd (windowSpd s).1 :=
  windowed_windowWork s.cfg.active (fuelled s) s.spd

/-- Settles O43: a window is SPD's work, and the rest of the event leaves of SPD all but the latch. -/
theorem windowsMeasureTheSpeed : Obligations.WindowsMeasureTheSpeed := by
  refine ⟨fun s => ⟨exec_pickupPulse_a s, exec_pickupPulse_b s⟩, fun s => ?_⟩
  obtain ⟨⟨hac, har, hao⟩, ⟨hbc, hbr, hbo⟩, hforce, heff, hover, hmeas⟩ := windowed_windowSpd s
  dsimp only
  refine ⟨windowEnd s, exec_windowCompletes s, settled_finish _ _ _, windowEnd_unchanged s, windowEnd_aut,
    fun e he => windowEnd_entry_other s he, ?_, ?_⟩
  · rw [windowEnd_fault, windowEnd_spd]
    rfl
  rw [windowEnd_spd]
  refine ⟨⟨hac, hbc, hforce, heff⟩, fun hf => ?_, fun v hf => ?_, hover, hmeas⟩
  · simp only [windowReading, hf] at har hao hbr hbo
    exact ⟨har, hao, hbr, hbo⟩
  · have hw : (windowSpd s).1 = forcedWindow s.cfg.active v { s.spd with forceInEffect := some v } :=
      congrArg Prod.fst (windowWork_of_forced hf s.cfg.active (fuelled s))
    rw [hw]
    exact ⟨rfl, rfl, rfl, rfl, rfl, rfl⟩

end Sys2Proof.Machine
end

section
/-! SUPPORT. The forces of SPD, INS and the trainline, and what storing and releasing them does to each (R53, R66, R72,
R117). -/

namespace Sys2Proof.Machine

/-! ### The forces of a state -/

/-- Every force there can be, by its target (R185). -/
@[ext] structure Forces where
  speed : Option Nat
  channel : Channel → Option Int
  discrete : Discrete → Option Bool
  wires : Option WireLevels

/-- The forces that stand in a state. -/
def forcesOf (s : State) : Forces where
  speed := s.spd.force
  channel c := (s.ins.channel c).forced
  discrete d := (s.ins.discrete d).forced
  wires := s.aut.trainline.forced

theorem forcesActive_iff (s : State) :
    forcesActive s = true ↔
      (forcesOf s).speed.isSome = true ∨ (∃ c, ((forcesOf s).channel c).isSome = true) ∨
        (∃ d, ((forcesOf s).discrete d).isSome = true) ∨ (forcesOf s).wires.isSome = true := by
  have hc (P : Channel → Prop) :
      (∃ c, P c) ↔ P .lube ∨ P .coolant ∨ P .fuel ∨ P .battery ∨ P .intake ∨ P .crankcase := by
    constructor
    · rintro ⟨c, h⟩
      cases c <;> simp [h]
    · rintro (h | h | h | h | h | h) <;> exact ⟨_, h⟩
  have hd (P : Discrete → Prop) :
      (∃ d, P d) ↔ P .emergencyStop ∨ P .turningGear ∨ P .groundRelay ∨ P .starterEngaged := by
    constructor
    · rintro ⟨d, h⟩
      cases d <;> simp [h]
    · rintro (h | h | h | h) <;> exact ⟨_, h⟩
  simp only [hc, hd, forcesActive, Bool.or_eq_true, or_assoc, forcesOf, Ins.channel, Ins.discrete]

/-- With no force on any target, no force is active. -/
theorem forcesActive_of_none {s : State} (h : forcesOf s = ⟨none, fun _ => none, fun _ => none, none⟩) :
    forcesActive s = false := by
  rw [← Bool.not_eq_true, forcesActive_iff, h]
  simp

/-! ### What is handed on of a force leaves the forces alone -/

/-- SPD but for the sense-lost latch, INS and the trainline are the same: an event that is handed on moves none of them. -/
structure SameInputs (s t : State) : Prop where
  spd : t.spd = { s.spd with senseLost := t.spd.senseLost }
  ins : t.ins = s.ins
  trainline : t.aut.trainline = s.aut.trainline

theorem SameInputs.refl (s : State) : SameInputs s s := ⟨rfl, rfl, rfl⟩

theorem SameInputs.trans {s t u : State} (h : SameInputs s t) (k : SameInputs t u) : SameInputs s u :=
  ⟨by rw [k.spd, h.spd], k.ins.trans h.ins, k.trainline.trans h.trainline⟩

theorem MovesEngine.sameInputs {s t : State} (h : MovesEngine s t) : SameInputs s t := ⟨h.spd, h.ins, h.trainline⟩

theorem SameInputs.forcesOf {s t : State} (h : SameInputs s t) : forcesOf t = forcesOf s := by
  rw [Machine.forcesOf, Machine.forcesOf, h.spd, h.ins, h.trainline]

theorem SameInputs.settle {s t : State} (h : SameInputs s t) (s0 : State) (test : Bool) :
    SameInputs s (settle s0 test t) :=
  h.trans (movesEngine_settle s0 test t).sameInputs

theorem sameInputs_pruEvent (f : Pru → Pru) (s : State) : SameInputs s (pruEvent f s) := by
  have h := (movesEngine_handOff s.pru (s.mapPru fun p => ringBell (f p))).sameInputs
  exact ⟨h.spd, h.ins, h.trainline⟩

theorem sameInputs_discreteChanged (d : Discrete) (v : Bool) (s : State) : SameInputs s (discreteChanged d v s) := by
  unfold discreteChanged
  cases d
  · exact sameInputs_pruEvent _ s
  · exact .refl s
  · exact sameInputs_pruEvent _ s
  · dsimp only
    split
    · exact ⟨rfl, rfl, rfl⟩
    · exact .refl s

theorem sameInputs_forceDiscrete (d : Discrete) (v : Option Bool) (s : State) :
    SameInputs (s.mapDiscrete d fun r => { r with forced := v }) (forceDiscrete d v s) := by
  unfold forceDiscrete
  dsimp only
  split
  · exact .refl _
  · exact sameInputs_discreteChanged _ _ _

/-! ### Each force at its own target -/

theorem forcesOf_forceSpeed (v : Option Nat) (s : State) : forcesOf (forceSpeed v s) = { forcesOf s with speed := v } := rfl

theorem forcesOf_forceChannel (c : Channel) (v : Option Int) (s : State) :
    forcesOf (forceChannel c v s) =
      { forcesOf s with channel := fun k => if k = c then v else (forcesOf s).channel k } := by
  ext k <;> try rfl
  · by_cases hk : k = c
    · subst hk
      simp [forcesOf, forceChannel]
    · simp [forcesOf, forceChannel, hk, Ins.channel_setChannel_other _ _ hk]
  · simp [forcesOf, forceChannel]

theorem forcesOf_forceDiscrete (d : Discrete) (v : Option Bool) (s : State) :
    forcesOf (forceDiscrete d v s) =
      { forcesOf s with discrete := fun k => if k = d then v else (forcesOf s).discrete k } := by
  rw [(sameInputs_forceDiscrete d v s).forcesOf]
  ext k <;> try rfl
  · simp [forcesOf]
  · by_cases hk : k = d
    · subst hk
      simp [forcesOf]
    · simp [forcesOf, hk, Ins.discrete_setDiscrete_other _ _ hk]

theorem levelsChanged_forced (follow checking : Bool) (before : WireLevels) (t : Trainline) :
    (t.levelsChanged follow checking before).forced = t.forced := by
  unfold Trainline.levelsChanged
  dsimp only
  (repeat' split) <;> rfl

theorem forceWires_forced (v : Option WireLevels) (s : State) : (forceWires v s).aut.trainline.forced = v := by
  rw [forceWires, trainlineChange_eq]
  exact levelsChanged_forced _ _ _ _

theorem forcesOf_forceWires (v : Option WireLevels) (s : State) :
    forcesOf (forceWires v s) = { forcesOf s with wires := v } := by
  have hw := forceWires_forced v s
  have hs : (forceWires v s).spd = s.spd := by rw [forceWires, trainlineChange_eq]; rfl
  rw [forcesOf, hw, hs, forceWires_ins]
  rfl

/-- Every force of INS and SPD is released, and the wire set's stays. -/
theorem forcesOf_releaseInputs (s : State) :
    forcesOf (releaseInputs s) = ⟨none, fun _ => none, fun _ => none, (forcesOf s).wires⟩ := by
  unfold releaseInputs
  simp only [forcesOf_forceDiscrete, forcesOf_forceChannel, forcesOf_forceSpeed]
  ext k
  · rfl
  · cases k <;> rfl
  · cases k <;> rfl
  · rfl

/-! ### The targets (R185) -/

/-- The analog channels in the order of the targets 1 to 6. -/
def channelTargets : List Channel := [.lube, .coolant, .fuel, .battery, .intake, .crankcase]

/-- The discrete inputs in the order of the targets 7 to 10. -/
def discreteTargets : List Discrete := [.emergencyStop, .turningGear, .groundRelay, .starterEngaged]

theorem channelTarget_succ (n : Nat) : channelTarget (n + 1) = channelTargets[n]? := by
  rcases n with _ | _ | _ | _ | _ | _ | n <;> rfl

theorem discreteTarget_add (n : Nat) : discreteTarget (n + 7) = discreteTargets[n]? := by
  rcases n with _ | _ | _ | _ | n <;> rfl

theorem channelTarget_of_pos {n : Nat} (h : 1 ≤ n) : channelTarget n = channelTargets[n - 1]? := by
  obtain ⟨k, rfl⟩ := Nat.exists_eq_add_of_le' h
  exact channelTarget_succ k

theorem discreteTarget_of_le {n : Nat} (h : 7 ≤ n) : discreteTarget n = discreteTargets[n - 7]? := by
  obtain ⟨k, rfl⟩ := Nat.exists_eq_add_of_le' h
  exact discreteTarget_add k

theorem channelTarget_eq_some_iff (n : Nat) (c : Channel) :
    channelTarget n = some c ↔ 1 ≤ n ∧ channelTargets[n - 1]? = some c := by
  constructor
  · intro h
    have hn : 1 ≤ n := by
      by_contra w
      obtain rfl : n = 0 := by omega
      cases h
    exact ⟨hn, (channelTarget_of_pos hn).symm.trans h⟩
  · exact fun ⟨hn, h⟩ => (channelTarget_of_pos hn).trans h

theorem discreteTarget_of_lt {n : Nat} (h : n < 7) : discreteTarget n = none := by
  unfold discreteTarget
  split <;> first | omega | rfl

theorem discreteTarget_of_gt {n : Nat} (h : 10 < n) : discreteTarget n = none := by
  unfold discreteTarget
  split <;> first | omega | rfl

theorem discreteTarget_eq_some_iff (n : Nat) (d : Discrete) :
    discreteTarget n = some d ↔ 7 ≤ n ∧ discreteTargets[n - 7]? = some d := by
  constructor
  · intro h
    have hn : 7 ≤ n := by
      by_contra w
      rw [discreteTarget_of_lt (by omega)] at h
      cases h
    exact ⟨hn, (discreteTarget_of_le hn).symm.trans h⟩
  · exact fun ⟨hn, h⟩ => (discreteTarget_of_le hn).trans h

theorem channelTarget_some_le {n : Nat} {c : Channel} (h : channelTarget n = some c) : 1 ≤ n ∧ n ≤ 6 := by
  unfold channelTarget at h
  split at h <;> first | omega | cases h

theorem discreteTarget_some_le {n : Nat} {d : Discrete} (h : discreteTarget n = some d) : 7 ≤ n ∧ n ≤ 10 := by
  unfold discreteTarget at h
  split at h <;> first | omega | cases h

/-- RELEASE FORCE of one target clears its own force alone (R186). -/
theorem forcesOf_releaseTarget (n : Nat) (s : State) :
    forcesOf (releaseTarget n s) =
      { speed := if n = 0 then none else (forcesOf s).speed
        channel := fun c => if channelTarget n = some c then none else (forcesOf s).channel c
        discrete := fun d => if discreteTarget n = some d then none else (forcesOf s).discrete d
        wires := if n = 11 then none else (forcesOf s).wires } := by
  unfold releaseTarget
  split
  · next h0 => subst h0; rfl
  · next h0 =>
    split
    · next h11 => subst h11; rw [forcesOf_forceWires]; rfl
    · next h11 =>
      split
      · next c _ hc =>
        obtain ⟨-, hle⟩ := channelTarget_some_le hc
        rw [forcesOf_forceChannel, discreteTarget_of_lt (by omega), hc]
        simp [eq_comm]
      · next d hc hd =>
        rw [forcesOf_forceDiscrete, hc, hd]
        simp [eq_comm]
      · next hc hd => simp [hc, hd]

/-- What RELEASE FORCE of the speed or a channel leaves alone. -/
theorem releaseTarget_of_le {n : Nat} (h : n ≤ 6) (s : State) :
    (releaseTarget n s).rsq = s.rsq ∧ (releaseTarget n s).pru = s.pru ∧ (releaseTarget n s).aut = s.aut := by
  unfold releaseTarget
  split
  · exact ⟨rfl, rfl, rfl⟩
  · rw [if_neg (by omega), discreteTarget_of_lt (by omega)]
    cases channelTarget n <;> exact ⟨rfl, rfl, rfl⟩

end Sys2Proof.Machine
end

section
/-! SUPPORT. FORCE and RELEASE FORCE (R53, R66, R72, R117, R185, R186). -/

namespace Sys2Proof.Machine

/-! ### The two requests, test by test -/

theorem exec_force {seq : Byte} {payload : List Byte} {s : State} (h : Ready .service ⟨kindForce, seq, payload⟩ s) :
    exec (.force .service seq payload) s =
      .next (conclude .service ⟨kindForce, seq, payload⟩ (ownerForce payload (dequeued .service s))) :=
  congrArg Host.Outcome.next (request_of_ready _ h (by decide : knownKind kindForce = true) fun _ => rfl)

theorem exec_releaseForce {seq : Byte} {payload : List Byte} {s : State}
    (h : Ready .service ⟨kindReleaseForce, seq, payload⟩ s) :
    exec (.releaseForce .service seq payload) s =
      .next (conclude .service ⟨kindReleaseForce, seq, payload⟩ (ownerReleaseForce payload (dequeued .service s))) :=
  congrArg Host.Outcome.next (request_of_ready _ h (by decide : knownKind kindReleaseForce = true) fun _ => rfl)

theorem holds_service_iff (a : Aut) : a.holds .service = true ↔ a.holder = some .service := by
  rw [Aut.holds, decide_eq_true_eq]
  rfl

theorem holds_service_of_ne {a : Aut} (h : a.holder ≠ some .service) : a.holds .service = false := by
  rwa [← Bool.not_eq_true, holds_service_iff]

theorem ownerForce_of_notHolder {s : State} (payload : List Byte) (h : s.aut.holder ≠ some .service) :
    ownerForce payload s = answer .notHolder [] s := by
  rw [ownerForce, if_pos (holds_service_of_ne h)]

theorem ownerForce_of_moving {s : State} (payload : List Byte) (h : s.aut.holder = some .service)
    (hr : s.rsq.engine.atRest = false) : ownerForce payload s = answer .refusedState [] s := by
  rw [ownerForce, if_neg (by simp [(holds_service_iff _).2 h]), if_pos hr]

/-- Once the Service holds authority with the engine at rest, the payload decides (R185). -/
theorem ownerForce_of_none {s : State} {payload : List Byte} (h : s.aut.holder = some .service)
    (hr : s.rsq.engine.atRest = true) (hv : forceOperand payload = none) :
    ownerForce payload s = answer .badField [] s := by
  rw [ownerForce, if_neg (by simp [(holds_service_iff _).2 h]), if_neg (by simp [hr]), hv]

theorem ownerForce_of_some {s : State} {payload : List Byte} {v : ForceValue} (h : s.aut.holder = some .service)
    (hr : s.rsq.engine.atRest = true) (hv : forceOperand payload = some v) :
    ownerForce payload s = answer .done [] (settle s false (applyForce v s)) := by
  rw [ownerForce, if_neg (by simp [(holds_service_iff _).2 h]), if_neg (by simp [hr]), hv]

/-! ### The payloads of FORCE (R185) -/

theorem forceOperand_of_length {payload : List Byte} (h2 : payload.length ≠ 2) (h3 : payload.length ≠ 3) :
    forceOperand payload = none := by
  unfold forceOperand
  split
  · exact absurd rfl h3
  · exact absurd rfl h2
  · rfl

theorem forceOperand_speed (hi lo : Byte) :
    forceOperand [0, hi, lo] =
      if 0 ≤ intOf hi lo ∧ intOf hi lo ≤ 1600 then some (.speed (intOf hi lo).toNat) else none := rfl

theorem one_le_toNat {b : Byte} (h : b ≠ 0) : 1 ≤ b.toNat := by
  by_contra w
  exact h (BitVec.eq_of_toNat_eq (Nat.lt_one_iff.1 (Nat.lt_of_not_le w)))

theorem forceOperand_channel {target : Byte} {c : Channel} (hi lo : Byte) (h : channelTarget target.toNat = some c) :
    forceOperand [target, hi, lo] =
      if (channelRange c).1 ≤ intOf hi lo ∧ intOf hi lo ≤ (channelRange c).2 then some (.channel c (intOf hi lo))
      else none := by
  have h0 : target ≠ 0 := by
    rintro rfl
    cases h
  simp only [forceOperand, if_neg h0, h]

theorem forceOperand_noChannel {target : Byte} (hi lo : Byte) (h0 : target ≠ 0)
    (h : channelTarget target.toNat = none) : forceOperand [target, hi, lo] = none := by
  simp only [forceOperand, if_neg h0, h]

theorem ne_eleven {b : Byte} (h : b.toNat ≠ 11) : b ≠ 11 := by
  rintro rfl
  exact h rfl

theorem forceOperand_noTarget {target : Byte} (b : Byte) (h : target.toNat < 7 ∨ 11 < target.toNat) :
    forceOperand [target, b] = none := by
  have hd : discreteTarget target.toNat = none := by
    rcases h with h | h
    · exact discreteTarget_of_lt h
    · exact discreteTarget_of_gt (by omega)
  simp only [forceOperand, if_neg (ne_eleven (b := target) (by omega)), hd]

/-- A discrete force is 0 or 1. -/
theorem forceOperand_discrete {target : Byte} {d : Discrete} (b : Byte) (h : discreteTarget target.toNat = some d) :
    forceOperand [target, b] = if b.toNat ≤ 1 then some (.discrete d (decide (b = 1))) else none := by
  obtain ⟨h7, h10⟩ := discreteTarget_some_le h
  simp only [forceOperand, if_neg (ne_eleven (b := target) (by omega)), h]
  by_cases h0 : b = 0
  · subst h0
    rfl
  · have hb := one_le_toNat h0
    by_cases h1 : b = 1
    · subst h1
      rfl
    · have : b.toNat ≠ 1 := fun w => h1 (BitVec.eq_of_toNat_eq w)
      rw [if_neg h0, if_neg h1, if_neg (by omega)]

theorem forceOperand_wires (b : Byte) : forceOperand [11, b] = some (.wires (wireBits b)) := rfl

/-! ### What a force leaves behind it -/

theorem SameInputs.conclude {s t : State} (h : SameInputs s t) (l : Link) (f : Frame) (r : Result) (p : List Byte) :
    SameInputs s (conclude l f (answer r p t)) := ⟨h.spd, h.ins, h.trainline⟩

/-- A reply DONE, and the force of `v` settled behind it. -/
theorem force_concluded {s v : State} {f : Frame} (hl : v.links = (dequeued .service s).links) (hc : v.cfg = s.cfg)
    (hq : v.pending = s.pending) :
    let t := conclude .service f (answer .done [] (settle (dequeued .service s) false v))
    Replied .service f .done [] s t ∧ Settled t ∧ Unchanged [.cfg] s t ∧ SameInputs v t := by
  have hm := movesEngine_settle (dequeued .service s) false v
  have hcfg : AgreesOn s (settle (dequeued .service s) false v) .cfg := hm.cfg.trans hc
  exact ⟨replied_conclude (hm.links.trans hl), settled_conclude _ _ _ _ _ _ _,
    unchanged_cons (agreesOn_conclude hcfg _ _ _ _) (unchanged_nil ((conclude_answer_pending _ _ _ _ _).trans (hm.pending.trans hq))),
    hm.sameInputs.conclude _ _ _ _⟩

/-- Outside UNLOADING the settling moves only NTU and IRU. -/
theorem conclude_settle_of_ne {v : State} (h : v.rsq.engine ≠ .unloading) (s0 : State) (f : Frame) :
    let t := conclude .service f (answer .done [] (settle s0 false v))
    t.rsq = v.rsq ∧ t.spd = v.spd ∧ t.pru = v.pru ∧ t.aut = v.aut := by
  simpa only [conclude_answer_rsq, conclude_answer_spd, conclude_answer_pru, conclude_answer_aut] using settle_of_ne h

theorem applyForce_blocks (x : ForceValue) (s : State) :
    (applyForce x s).links = s.links ∧ (applyForce x s).cfg = s.cfg ∧ (applyForce x s).pending = s.pending := by
  cases x <;> simp [applyForce]

theorem forcesActive_applyForce (x : ForceValue) (s : State) : forcesActive (applyForce x s) = true := by
  rw [forcesActive_iff]
  cases x with
  | speed v => exact .inl rfl
  | channel c v => exact .inr (.inl ⟨c, by simp [applyForce, forcesOf_forceChannel]⟩)
  | discrete d v => exact .inr (.inr (.inl ⟨d, by simp [applyForce, forcesOf_forceDiscrete]⟩))
  | wires w => exact .inr (.inr (.inr (by simp [applyForce, forcesOf_forceWires])))

/-- A forced EMERGENCY STOP is the condition of its entry (R72, R79). -/
theorem forceDiscrete_condition {b : Bool} {s : State} (h : (s.ins.discrete .emergencyStop).used ≠ b) :
    ((forceDiscrete .emergencyStop (some b) s).pru.entry 0).condition = b := by
  have hu : ((s.mapDiscrete .emergencyStop fun r => { r with forced := some b }).ins.discrete .emergencyStop).used = b := by
    simp [DiscreteRec.used]
  unfold forceDiscrete
  dsimp only
  rw [hu, if_neg h]
  change ((pruEvent (setCondition 0 b) _).pru.entry 0).condition = b
  rw [pruEvent, (movesEngine_handOff _ _).entry 0 (by decide) (by decide) (by decide)]
  exact setCondition_condition 0 b _

/-- Settles O59: the tests of R185 in their order, and then one force more. -/
theorem forceIsStoredAtItsTarget : Obligations.ForceIsStoredAtItsTarget := by
  intro seq payload s hready f refused done channels inputs value
  have hdone (x : ForceValue) :
      let t := conclude .service f (answer .done [] (settle (dequeued .service s) false
        (applyForce x (dequeued .service s))))
      done t ∧ SameInputs (applyForce x (dequeued .service s)) t := by
    obtain ⟨hl, hc, hq⟩ := applyForce_blocks x (dequeued .service s)
    obtain ⟨hrep, hset, hun, hsame⟩ := force_concluded (f := f) hl hc hq
    refine ⟨⟨hrep, hset, ?_, hun⟩, hsame⟩
    rw [forcesActive_iff, hsame.forcesOf, ← forcesActive_iff]
    exact forcesActive_applyForce x _
  refine ⟨_, exec_force hready, fun hh => ?_, fun hh hr => ?_, fun hh hr => ?_⟩
  · rw [ownerForce_of_notHolder (s := dequeued .service s) payload hh]
    exact refused_conclude _ _ _ _ _
  · rw [ownerForce_of_moving (s := dequeued .service s) payload hh hr]
    exact refused_conclude _ _ _ _ _
  have hbad (p : List Byte) (hp : forceOperand p = none) :
      refused .badField (conclude .service f (ownerForce p (dequeued .service s))) := by
    rw [ownerForce_of_none (s := dequeued .service s) hh hr hp]
    exact refused_conclude _ _ _ _ _
  have hne : (dequeued .service s).rsq.engine ≠ .unloading := ne_unloading_of_atRest hr
  refine ⟨fun h2 h3 => hbad _ (forceOperand_of_length h2 h3), ?_, ?_, ?_, ?_, ?_⟩
  · rintro hi lo rfl
    have hop : forceOperand [0, hi, lo] =
        if 0 ≤ value hi lo ∧ value hi lo ≤ 1600 then some (.speed (value hi lo).toNat) else none :=
      forceOperand_speed hi lo
    split <;> rename_i hv
    · rw [if_pos hv] at hop
      rw [ownerForce_of_some (s := dequeued .service s) hh hr hop]
      obtain ⟨⟨hrep, hset, hact, hq, hcfg⟩, hsame⟩ := hdone (.speed (value hi lo).toNat)
      obtain ⟨hrsq, hspd, hpru, haut⟩ :=
        conclude_settle_of_ne (v := applyForce (.speed (value hi lo).toNat) (dequeued .service s)) hne
          (dequeued .service s) f
      exact ⟨⟨hrep, hset, hact, hq, hcfg⟩, unchanged_cons hrsq (unchanged_cons hsame.ins (unchanged_cons hpru
        (unchanged_cons haut (unchanged_nil hq)))), hspd⟩
    · exact hbad _ (hop.trans (if_neg hv))
  · rintro target hi lo rfl h0
    have hk := channelTarget_of_pos (one_le_toNat h0)
    split
    · next c hc =>
      have hop : forceOperand [target, hi, lo] =
          if (channelRange c).1 ≤ value hi lo ∧ value hi lo ≤ (channelRange c).2 then some (.channel c (value hi lo))
          else none := forceOperand_channel hi lo (hk.trans hc)
      split <;> rename_i hv
      · rw [if_pos hv] at hop
        rw [ownerForce_of_some (s := dequeued .service s) hh hr hop]
        obtain ⟨⟨hrep, hset, hact, hq, hcfg⟩, hsame⟩ := hdone (.channel c (value hi lo))
        obtain ⟨hrsq, hspd, hpru, haut⟩ :=
          conclude_settle_of_ne (v := applyForce (.channel c (value hi lo)) (dequeued .service s)) hne
            (dequeued .service s) f
        exact ⟨⟨hrep, hset, hact, hq, hcfg⟩, unchanged_cons hrsq (unchanged_cons hspd (unchanged_cons hpru
          (unchanged_cons haut (unchanged_nil hq)))), hsame.ins⟩
      · exact hbad _ (hop.trans (if_neg hv))
    · next hc => exact hbad _ (forceOperand_noChannel hi lo h0 (hk.trans hc))
  · rintro target b rfl h
    exact hbad _ (forceOperand_noTarget b h)
  · rintro target b rfl h7 d hd
    have hop := forceOperand_discrete b ((discreteTarget_eq_some_iff _ d).2 ⟨h7, hd⟩)
    split <;> rename_i hb
    · rw [if_pos hb] at hop
      rw [ownerForce_of_some (s := dequeued .service s) hh hr hop]
      obtain ⟨hdn, hsame⟩ := hdone (.discrete d (decide (b = 1)))
      refine ⟨hdn, ?_, ?_⟩
      · rw [hsame.ins]
        exact (sameInputs_forceDiscrete d _ _).ins
      · rintro rfl hused
        have hm := movesEngine_settle (dequeued .service s) false
          (applyForce (.discrete .emergencyStop (decide (b = 1))) (dequeued .service s))
        rw [conclude_answer_pru, hm.entry 0 (by decide) (by decide) (by decide)]
        exact forceDiscrete_condition hused
    · exact hbad _ (hop.trans (if_neg hb))
  · rintro b rfl
    rw [ownerForce_of_some (s := dequeued .service s) hh hr (forceOperand_wires b)]
    obtain ⟨⟨hrep, hset, hact, hq, hcfg⟩, hsame⟩ := hdone (.wires (wireBits b))
    refine ⟨⟨hrep, hset, hact, hq, hcfg⟩, unchanged_cons ?_ (unchanged_nil hq), ?_⟩
    · exact hsame.ins.trans (forceWires_ins _ _)
    · exact (congrArg Trainline.forced hsame.trainline).trans (forceWires_forced _ _)

/-! ### RELEASE FORCE (R186) -/

theorem ownerReleaseForce_of_length {payload : List Byte} (h : payload.length ≠ 1) (s : State) :
    ownerReleaseForce payload s = answer .badField [] s := by
  unfold ownerReleaseForce
  split
  · exact absurd rfl h
  · rfl

theorem ownerReleaseForce_of_noTarget {target : Byte} (h : 12 ≤ target.toNat ∧ target.toNat ≤ 254) (s : State) :
    ownerReleaseForce [target] s = answer .badField [] s := by
  rw [ownerReleaseForce, if_pos h]

theorem ownerReleaseForce_of_notHolder {target : Byte} {s : State} (h : target.toNat ≤ 11 ∨ target.toNat = 255)
    (hh : s.aut.holder ≠ some .service) : ownerReleaseForce [target] s = answer .notHolder [] s := by
  rw [ownerReleaseForce, if_neg (by omega), if_pos (holds_service_of_ne hh)]

theorem ownerReleaseForce_all {target : Byte} {s : State} (h : target.toNat = 255)
    (hh : s.aut.holder = some .service) :
    ownerReleaseForce [target] s = answer .done [] (settle s false (forceWires none (releaseInputs s))) := by
  have ht : target = 255 := BitVec.eq_of_toNat_eq h
  rw [ownerReleaseForce, if_neg (by omega), if_neg (by simp [(holds_service_iff _).2 hh]), if_pos ht]

theorem ownerReleaseForce_one {target : Byte} {s : State} (h : target.toNat ≤ 11)
    (hh : s.aut.holder = some .service) :
    ownerReleaseForce [target] s = answer .done [] (settle s false (releaseTarget target.toNat s)) := by
  have ht : target ≠ 255 := by
    rintro rfl
    exact absurd h (by decide)
  rw [ownerReleaseForce, if_neg (by omega), if_neg (by simp [(holds_service_iff _).2 hh]), if_neg ht]

theorem releaseTarget_blocks (n : Nat) (s : State) :
    (releaseTarget n s).links = s.links ∧ (releaseTarget n s).cfg = s.cfg ∧
      (releaseTarget n s).pending = s.pending := by
  unfold releaseTarget
  (repeat' split) <;> simp

/-- Settles O60: the tests of R186 in their order, and then one force less, or none left. -/
theorem releaseForceClearsTheForce : Obligations.ReleaseForceClearsTheForce := by
  intro seq payload s hready f refused done channels inputs
  refine ⟨_, exec_releaseForce hready, fun hlen => ?_, ?_⟩
  · rw [ownerReleaseForce_of_length hlen]
    exact refused_conclude _ _ _ _ _
  rintro target rfl n
  refine ⟨fun h12 h254 => ?_, fun hn hh => ?_, fun hn hh => ?_, fun hn hh => ?_⟩
  · rw [ownerReleaseForce_of_noTarget ⟨h12, h254⟩]
    exact refused_conclude _ _ _ _ _
  · rw [ownerReleaseForce_of_notHolder (s := dequeued .service s) hn hh]
    exact refused_conclude _ _ _ _ _
  · rw [ownerReleaseForce_all (s := dequeued .service s) hn hh]
    obtain ⟨hrep, hset, hun, hsame⟩ := force_concluded (s := s) (f := f)
      (v := forceWires none (releaseInputs (dequeued .service s))) (by simp) (by simp) (by simp)
    refine ⟨⟨hrep, hset, hun⟩, forcesActive_of_none ?_⟩
    rw [hsame.forcesOf, forcesOf_forceWires, forcesOf_releaseInputs]
  · rw [ownerReleaseForce_one (s := dequeued .service s) hn hh]
    obtain ⟨hl, hc, hq⟩ := releaseTarget_blocks n (dequeued .service s)
    obtain ⟨hrep, hset, hun, hsame⟩ := force_concluded (s := s) (f := f) hl hc hq
    have hforces := hsame.forcesOf.trans (forcesOf_releaseTarget n (dequeued .service s))
    refine ⟨⟨hrep, hset, hun⟩, fun h6 hne => ?_, congrArg Forces.speed hforces, fun c => ?_, fun d => ?_,
      congrArg Forces.wires hforces⟩
    · obtain ⟨hr, hp, ha⟩ := releaseTarget_of_le h6 (dequeued .service s)
      obtain ⟨hrsq, -, hpru, haut⟩ :=
        conclude_settle_of_ne (v := releaseTarget n (dequeued .service s)) (by rw [hr]; exact hne)
          (dequeued .service s) f
      exact unchanged_cons (hrsq.trans hr) (unchanged_cons (hpru.trans hp) (unchanged_cons (haut.trans ha)
        (unchanged_nil hun.1)))
    · refine (congrFun (congrArg Forces.channel hforces) c).trans ?_
      simp only [channelTarget_eq_some_iff]
      rfl
    · refine (congrFun (congrArg Forces.discrete hforces) d).trans ?_
      simp only [discreteTarget_eq_some_iff]
      rfl

end Sys2Proof.Machine
end

section
/-! SUPPORT. How a window judges the pickups, their agreement and the loss of the speed (R43 to R51). -/

namespace Sys2Proof.Machine

/-! ### The health of a pickup (R43, R44) -/

/-- The failure test of R43: a pickup that reads `rx` is silent while the other, `y`, is GOOD and reads 60 rpm or more. -/
def Reading.failing (rx ry : Reading) (y : PickupRec) : Bool :=
  rx.silent && !y.failed && !ry.silent && decide (60 ≤ ry.rpm)

/-- The recovery test of R44: a pickup is not silent and agrees with the other. -/
def Reading.recovers (t : Table) (rx ry : Reading) : Bool := !rx.silent && agree t rx ry

theorem silent_of_failing {rx ry : Reading} {y : PickupRec} (h : rx.failing ry y = true) :
    rx.silent = true ∧ ry.silent = false := by
  simp only [Reading.failing, Bool.and_eq_true, Bool.not_eq_true'] at h
  obtain ⟨⟨⟨hx, -⟩, hy⟩, -⟩ := h
  exact ⟨hx, hy⟩

theorem failTest_of_failed {x : PickupRec} (h : x.failed = true) (rx ry : Reading) (y : PickupRec) :
    failTest rx ry x y = x := by
  rw [failTest, if_pos h]

theorem failTest_of_good {x : PickupRec} (h : x.failed = false) (rx ry : Reading) (y : PickupRec) :
    failTest rx ry x y =
      if rx.failing ry y = true then
        if 4 ≤ x.failCount then { x with failed := true, failCount := 0, recoveryCount := 0 }
        else { x with failCount := x.failCount + 1 }
      else { x with failCount := 0 } := by
  have h4 : 5 ≤ x.failCount + 1 ↔ 4 ≤ x.failCount := by omega
  rw [failTest, if_neg (by simp [h])]
  simp only [h4]
  rfl

/-- Where the other pickup is FAILED, none fails. -/
theorem failTest_keeps_good {x y : PickupRec} (hx : x.failed = false) (hy : y.failed = true) (rx ry : Reading) :
    (failTest rx ry x y).failed = false := by
  rw [failTest_of_good hx, if_neg (by simp [Reading.failing, hy])]
  exact hx

/-- Only a silent pickup fails, and only against one that is not. -/
theorem silent_of_failTest {rx ry : Reading} {x y : PickupRec} (hx : x.failed = false)
    (h : (failTest rx ry x y).failed = true) : rx.silent = true ∧ ry.silent = false := by
  rw [failTest_of_good hx] at h
  split at h
  · next w =>
    exact silent_of_failing w
  · simp [hx] at h

theorem recoveryTest_of_good {x : PickupRec} (h : x.failed = false) (t : Table) (rx ry : Reading) (y : PickupRec) :
    recoveryTest t rx ry x y = x := by
  rw [recoveryTest, if_neg (by simp [h])]

theorem recoveryTest_of_failed {x y : PickupRec} (hx : x.failed = true) (hy : y.failed = false) (t : Table)
    (rx ry : Reading) :
    recoveryTest t rx ry x y =
      if rx.recovers t ry = true then
        if 19 ≤ x.recoveryCount then { x with failed := false, failCount := 0, recoveryCount := 0 }
        else { x with recoveryCount := x.recoveryCount + 1 }
      else { x with recoveryCount := 0 } := by
  have h19 : 20 ≤ x.recoveryCount + 1 ↔ 19 ≤ x.recoveryCount := by omega
  rw [recoveryTest, if_pos (by simp [hx, hy])]
  simp only [h19]
  rfl

/-- A pickup that has just failed is silent, and not judged for recovery. -/
theorem recoveryTest_of_silent {t : Table} {rx ry : Reading} {x y : PickupRec} (h : rx.silent = true)
    (h0 : x.recoveryCount = 0) : recoveryTest t rx ry x y = x := by
  obtain ⟨count, failed, rpm, above, fails, recoveries⟩ := x
  obtain rfl : recoveries = 0 := h0
  unfold recoveryTest
  split
  · rw [if_neg (by simp [h])]
  · rfl

/-- A pickup that is FAILED after the tests was FAILED before the recovery test. -/
theorem failed_of_recoveryTest {t : Table} {rx ry : Reading} {x y : PickupRec}
    (h : (recoveryTest t rx ry x y).failed = true) : x.failed = true := by
  cases hx : x.failed
  · rw [recoveryTest_of_good hx, hx] at h
    exact h
  · rfl

/-- A pickup after the tests of a window, `y` being the other before them. -/
def judgedPickup (t : Table) (rx ry : Reading) (x y : PickupRec) : PickupRec :=
  recoveryTest t rx ry (failTest rx ry (x.withReading rx) y) (failTest ry rx (y.withReading ry) x)

theorem pickupStages_pickups (t : Table) (ra rb : Reading) (d : Spd) :
    (pickupStages t ra rb d).a = judgedPickup t ra rb d.a d.b ∧
      (pickupStages t ra rb d).b = judgedPickup t rb ra d.b d.a := ⟨rfl, rfl⟩

/-- Of two pickups that are not both FAILED, a window leaves one GOOD (R43). -/
theorem judgedPickup_good {t : Table} {rx ry : Reading} {x y : PickupRec} (h : ¬(x.failed = true ∧ y.failed = true)) :
    ¬((judgedPickup t rx ry x y).failed = true ∧ (judgedPickup t ry rx y x).failed = true) := by
  rintro ⟨hx, hy⟩
  have hx := failed_of_recoveryTest hx
  have hy := failed_of_recoveryTest hy
  cases wx : x.failed <;> cases wy : y.failed
  · obtain ⟨h1, -⟩ := silent_of_failTest (x := x.withReading rx) wx hx
    obtain ⟨-, h2⟩ := silent_of_failTest (x := y.withReading ry) wy hy
    exact absurd (h1.symm.trans h2) (by decide)
  · exact absurd (hx.symm.trans (failTest_keeps_good (x := x.withReading rx) wx wy rx ry)) (by decide)
  · exact absurd (hy.symm.trans (failTest_keeps_good (x := y.withReading ry) wy wx ry rx)) (by decide)
  · exact h ⟨wx, wy⟩

/-- A GOOD pickup goes by the failure test (R43): it has just failed, or it is not judged for recovery. -/
theorem judgedPickup_of_good {x : PickupRec} (h : x.failed = false) (t : Table) (rx ry : Reading) (y : PickupRec) :
    (rx.failing ry y = true → 4 ≤ x.failCount →
        (judgedPickup t rx ry x y).failed = true ∧ (judgedPickup t rx ry x y).failCount = 0 ∧
          (judgedPickup t rx ry x y).recoveryCount = 0) ∧
      (rx.failing ry y = true → x.failCount < 4 →
        (judgedPickup t rx ry x y).failed = false ∧ (judgedPickup t rx ry x y).failCount = x.failCount + 1) ∧
      (rx.failing ry y = false →
        (judgedPickup t rx ry x y).failed = false ∧ (judgedPickup t rx ry x y).failCount = 0) := by
  have hx : (x.withReading rx).failed = false := h
  refine ⟨fun hf hc => ?_, fun hf hc => ?_, fun hf => ?_⟩
  · obtain ⟨hs, -⟩ := silent_of_failing hf
    rw [judgedPickup, failTest_of_good hx, if_pos hf, if_pos (show 4 ≤ (x.withReading rx).failCount from hc),
      recoveryTest_of_silent hs rfl]
    exact ⟨rfl, rfl, rfl⟩
  · rw [judgedPickup, failTest_of_good hx, if_pos hf, if_neg (show ¬4 ≤ (x.withReading rx).failCount from Nat.not_le.2 hc),
      recoveryTest_of_good]
    · exact ⟨h, rfl⟩
    · exact h
  · rw [judgedPickup, failTest_of_good hx, if_neg (by simp [hf]), recoveryTest_of_good]
    · exact ⟨h, rfl⟩
    · exact h

/-- A FAILED pickup beside a GOOD one goes by the recovery test (R44). -/
theorem judgedPickup_of_failed {x y : PickupRec} (h : x.failed = true) (hy : y.failed = false) (t : Table)
    (rx ry : Reading) :
    judgedPickup t rx ry x y =
      if rx.recovers t ry = true then
        if 19 ≤ x.recoveryCount then { x.withReading rx with failed := false, failCount := 0, recoveryCount := 0 }
        else { x.withReading rx with recoveryCount := x.recoveryCount + 1 }
      else { x.withReading rx with recoveryCount := 0 } := by
  have hg : (failTest ry rx (y.withReading ry) x).failed = false :=
    failTest_keeps_good (x := y.withReading ry) hy h ry rx
  rw [judgedPickup, failTest_of_failed (x := x.withReading rx) h, recoveryTest_of_failed (x := x.withReading rx) h hg]
  rfl

/-! ### SPEED DISAGREE (R45) -/

theorem disagreeTest_of_failed {d : Spd} (h : d.a.failed = true ∨ d.b.failed = true) (t : Table) (ra rb : Reading) :
    disagreeTest t ra rb d = { d with speedDisagree := false, disagreeCount := 0, agreeCount := 0 } := by
  rw [disagreeTest, if_pos (by simpa using h)]

theorem disagreeTest_of_clear {d : Spd} (ha : d.a.failed = false) (hb : d.b.failed = false)
    (hs : d.speedDisagree = false) (t : Table) (ra rb : Reading) :
    disagreeTest t ra rb d =
      if agree t ra rb = true then { d with disagreeCount := 0 }
      else if 9 ≤ d.disagreeCount then { d with speedDisagree := true, disagreeCount := 10, agreeCount := 0 }
      else { d with disagreeCount := d.disagreeCount + 1 } := by
  have h9 : 10 ≤ d.disagreeCount + 1 ↔ 9 ≤ d.disagreeCount := by omega
  simp only [disagreeTest, ha, hb, hs, Bool.or_false, Bool.false_eq_true, if_false, h9]

theorem disagreeTest_of_set {d : Spd} (ha : d.a.failed = false) (hb : d.b.failed = false)
    (hs : d.speedDisagree = true) (t : Table) (ra rb : Reading) :
    disagreeTest t ra rb d =
      if agree t ra rb = true then
        if 9 ≤ d.agreeCount then { d with speedDisagree := false, agreeCount := 10, disagreeCount := 0 }
        else { d with agreeCount := d.agreeCount + 1 }
      else { d with agreeCount := 0 } := by
  have h9 : 10 ≤ d.agreeCount + 1 ↔ 9 ≤ d.agreeCount := by omega
  simp only [disagreeTest, ha, hb, hs, Bool.or_false, Bool.false_eq_true, if_false, if_true, h9]

end Sys2Proof.Machine
end

section
/-! SUPPORT. The sense-lost latch and the engine at a window, and what a window reports of both (R48, R50, R51). -/

namespace Sys2Proof.Machine

/-! ### The latch and rest (R51) -/

/-- A moving engine keeps the sense-lost latch, unless it comes to rest. -/
def LatchFollows (s t : State) : Prop := t.spd.senseLost = (s.spd.senseLost && !t.rsq.engine.atRest)

theorem latchFollows_of_moving {s t : State} (he : t.rsq.engine.atRest = false)
    (hs : t.spd.senseLost = s.spd.senseLost) : LatchFollows s t := by
  rw [LatchFollows, he, hs, Bool.not_false, Bool.and_true]

theorem latchFollows_toRest {s : State} (hc : s.rsq.stopCause ≠ .autoStop) : LatchFollows s (toRest s) := by
  have he : (toRest s).rsq.engine = restEngine s := by rw [toRest_rsq hc]; rfl
  rw [LatchFollows, he, toRest_spd hc]
  unfold restEngine
  split
  · exact (Bool.and_true _).symm
  · split <;> exact (Bool.and_false _).symm

theorem latchFollows_takeShutdown {s : State} (h : s.rsq.engine.atRest = false) : LatchFollows s (takeShutdown s) := by
  cases hc : s.cfg.checking with
  | true =>
    rw [takeShutdown_of_checking hc]
    exact latchFollows_of_moving h rfl
  | false =>
    by_cases hd : s.rsq.engine = .rundown
    · obtain ⟨hr, -⟩ := takeShutdown_of_rundown hc hd
      refine latchFollows_of_moving (by rw [hr]; exact h) ?_
      simp [takeShutdown, hc, hd]
    · have hcause : (cutOff s).rsq.stopCause ≠ .autoStop := by
        rw [cutOff_rsq]
        exact protectionCause_ne _
      have ht : takeShutdown s = toRest (cutOff s) := takeShutdown_of_moving hc h hd
      have hl := latchFollows_toRest hcause
      rwa [LatchFollows, ← ht, cutOff_spd] at hl

theorem latchFollows_handOff (before : Pru) {s : State} (h : s.rsq.engine.atRest = false) :
    LatchFollows s (handOff before s) :=
  handOff_cases before s (LatchFollows s) (fun u k => by simpa [LatchFollows] using k)
    (fun _ => latchFollows_takeShutdown h)
    (fun _ _ => by
      rw [takeLastLeft_of_ne (by rintro w; rw [w] at h; cases h)]
      exact latchFollows_of_moving h rfl)
    fun _ => latchFollows_of_moving h rfl

theorem windowTable_spd (s : State) : (windowTable s).spd = (windowSpd s).1 :=
  (rsqWindow_engine { s with spd := (windowSpd s).1 }).2.1

theorem windowTable_engine (s : State) : WindowMoves s.rsq.engine (windowTable s).rsq.engine :=
  (rsqWindow_engine { s with spd := (windowSpd s).1 }).1

/-- A window that finds the engine moving leaves the latch as SPD has set it, unless the engine comes to rest. -/
theorem windowEnd_latch {s : State} (h : s.rsq.engine.atRest = false) :
    (windowEnd s).spd.senseLost = ((windowSpd s).1.senseLost && !(windowEnd s).rsq.engine.atRest) := by
  have hw : (windowTable s).rsq.engine.atRest = false := (windowTable_engine s).atRest.trans h
  have hl := latchFollows_handOff (windowRsq s).pru hw
  obtain ⟨he, hd⟩ := settle_engine s true (handOff (windowRsq s).pru (windowTable s))
  obtain ⟨hr, hs, -, -⟩ := windowEnd_blocks s
  rw [hr, hs, he, hd, hl, windowTable_spd]

/-- A window that finds the engine at rest leaves it at rest, and the latch alone where the state stays. -/
theorem windowEnd_latch_of_rest {s : State} (h : s.rsq.engine.atRest = true) :
    (windowEnd s).rsq.engine.atRest = true ∧
      ((windowEnd s).rsq.engine = s.rsq.engine → (windowEnd s).spd.senseLost = (windowSpd s).1.senseLost) := by
  have hsame : (windowTable s).rsq.engine = s.rsq.engine := (windowTable_engine s).of_rest h
  have hw : (windowTable s).rsq.engine.atRest = true := by rw [hsame, h]
  have hk := restMoves_handOff (windowRsq s).pru hw
  obtain ⟨hr, hs, -, -⟩ := windowEnd_blocks s
  obtain ⟨hsr, hss, -, -⟩ := settle_of_ne (s0 := s) (test := true) (ne_unloading_of_atRest (hk.atRest hw))
  rw [hr, hs, hsr, hss]
  refine ⟨hk.atRest hw, fun he => ?_⟩
  rcases hk.engine with ⟨-, hd⟩ | ⟨hne, -⟩
  · rw [hd, windowTable_spd]
  · exact absurd (he.trans hsame.symm) hne

/-! ### OVERSPEED and SPEED SENSE LOST (R48, R51, R76) -/

/-- The record of an event entry that a report has found IDLE (R76). -/
def EntryRec.tripped (r : EntryRec) : EntryRec :=
  { r with state := .held, acknowledged := false, tripCount := min 65535 (r.tripCount + 1) }

theorem reportEvent_trips {e : Entry} {p : Pru} (h : (p.entry e).state = .idle) :
    (reportEvent e p).entry e = (p.entry e).tripped := by
  simp [reportEvent_of_idle h, EntryRec.entered, EntryRec.tripped, satInc_eq_min]

theorem windowReports_over {p : Pru} (h : (p.entry 1).state = .idle) (fault isLost : Bool) :
    (windowReports fault true isLost p).entry 1 = (p.entry 1).tripped := by
  have hp : (setCondition 13 fault p).entry 1 = p.entry 1 := setCondition_other _ _ (by decide)
  have hr : (reportEvent 1 (setCondition 13 fault p)).entry 1 = (p.entry 1).tripped := by
    rw [reportEvent_trips (by rw [hp]; exact h), hp]
  cases isLost
  · exact hr
  · exact (reportEvent_other _ (by decide)).trans hr

/-- SPEED SENSE LOST at the table before it is reported itself. -/
theorem windowReports_notLost (fault isOver : Bool) (p : Pru) :
    (windowReports fault isOver false p).entry 2 = p.entry 2 := by
  have hp : (setCondition 13 fault p).entry 2 = p.entry 2 := setCondition_other _ _ (by decide)
  cases isOver
  · exact hp
  · exact (reportEvent_other _ (by decide)).trans hp

theorem windowReports_lost {p : Pru} (h : (p.entry 2).state = .idle) (fault isOver : Bool) :
    (windowReports fault isOver true p).entry 2 = (p.entry 2).tripped := by
  have hp := windowReports_notLost fault isOver p
  exact (reportEvent_trips (p := windowReports fault isOver false p) (by rw [hp]; exact h)).trans (by rw [hp])

theorem windowRsq_entry (s : State) {e : Entry} (h4 : e ≠ 4) (h8 : e ≠ 8) (h9 : e ≠ 9) :
    (windowRsq s).pru.entry e = s.pru.entry e :=
  (movesEngine_windowRsq s).entry e h4 h8 h9

/-- A window at the overspeed limit trips OVERSPEED (R48). -/
theorem windowEnd_over {s : State} (h : s.cfg.active.overspeedLimit ≤ ((windowSpd s).1.overspeed : Int))
    (hi : (s.pru.entry 1).state = .idle) : (windowEnd s).pru.entry 1 = (s.pru.entry 1).tripped := by
  have he := windowRsq_entry s (e := 1) (by decide) (by decide) (by decide)
  rw [windowEnd_entry s (by decide) (by decide) (by decide), windowPru, decide_eq_true h, ← he]
  exact windowReports_over (by rw [he]; exact hi) _ _

theorem windowEnd_notLost {s : State} (h : (windowSpd s).2 = false) : (windowEnd s).pru.entry 2 = s.pru.entry 2 := by
  rw [windowEnd_entry s (by decide) (by decide) (by decide), windowPru, h, windowReports_notLost]
  exact windowRsq_entry s (by decide) (by decide) (by decide)

theorem windowPru_lost {s : State} (h : (windowSpd s).2 = true) (hi : (s.pru.entry 2).state = .idle) :
    (windowPru s (windowRsq s).pru).entry 2 = (s.pru.entry 2).tripped := by
  have he := windowRsq_entry s (e := 2) (by decide) (by decide) (by decide)
  rw [windowPru, h, ← he]
  exact windowReports_lost (by rw [he]; exact hi) _ _

theorem windowEnd_lost {s : State} (h : (windowSpd s).2 = true) (hi : (s.pru.entry 2).state = .idle) :
    (windowEnd s).pru.entry 2 = (s.pru.entry 2).tripped := by
  rw [windowEnd_entry s (by decide) (by decide) (by decide)]
  exact windowPru_lost h hi

/-- The loss of the speed takes a fuelled engine to rest by R3, on the speed of this window (R50, R51). -/
theorem windowEnd_engine_of_lost {s : State} (hc : s.cfg.checking = false)
    (he : s.rsq.engine = .accelerating ∨ s.rsq.engine = .running ∨ s.rsq.engine = .unloading)
    (h : (windowSpd s).2 = true) (hi : (s.pru.entry 2).state = .idle) :
    (windowEnd s).rsq.engine = if 0 < (windowSpd s).1.measured then .rundown else .lockedOut := by
  have hentered : shutdownEntered (windowRsq s).pru (windowTable s).pru = true := by
    refine (shutdownEntered_iff _ _).2 ⟨2, rfl, ?_, ?_⟩
    · rw [windowRsq_entry s (by decide) (by decide) (by decide), EntryRec.inService, hi]
    · rw [show (windowTable s).pru.entry 2 = _ from windowPru_lost h hi]
      rfl
  have hmoving : (windowTable s).rsq.engine.atRest = false ∧ (windowTable s).rsq.engine ≠ .rundown := by
    cases windowTable_engine s with
    | stays hn => rcases he with he | he | he <;> simp [hn, he, Engine.atRest]
    | fires ho hn => simp [hn, Engine.atRest]
    | starts ho hn => simp [hn, Engine.atRest]
  have hck : (windowTable s).cfg.checking = false := by
    rw [show (windowTable s).cfg = s.cfg from (movesEngine_windowRsq s).cfg, hc]
  obtain ⟨htake, -⟩ := takeShutdown_engine hck (shutdownInService_of_entered hentered)
  have hout : (handOff (windowRsq s).pru (windowTable s)).rsq.engine =
      if 0 < (windowSpd s).1.measured then .rundown else .lockedOut := by
    rw [(handOff_of_entered hentered).rsq, htake, windowTable_spd]
    by_cases hm : (windowSpd s).1.measured = 0
    · simp [hm, hmoving]
    · simp [hm, hmoving, Nat.pos_of_ne_zero hm]
  have hne : (handOff (windowRsq s).pru (windowTable s)).rsq.engine ≠ .unloading := by
    rw [hout]
    split <;> simp
  obtain ⟨hr, -, -, -⟩ := windowEnd_blocks s
  rw [hr, (settle_of_ne hne).1, hout]

end Sys2Proof.Machine
end

section
/-! SUPPORT. Between windows, pulses and resets SPD changes in the sense-lost latch and the stored force alone (R51, R53),
so that at most one pickup is FAILED at any time (R43). -/

namespace Sys2Proof.Machine

/-! ### The shared operations -/

/-- SPD is the same but for the sense-lost latch and the stored force. -/
def SpeedStays (s t : State) : Prop := t.spd = { s.spd with senseLost := t.spd.senseLost, force := t.spd.force }

theorem speedStays_of_eq {s t : State} (h : t.spd = s.spd) : SpeedStays s t := by rw [SpeedStays, h]

theorem SpeedStays.refl (s : State) : SpeedStays s s := rfl

theorem SpeedStays.trans {s t u : State} (h : SpeedStays s t) (k : SpeedStays t u) : SpeedStays s u := by
  rw [SpeedStays, k, h]

theorem SpeedStays.from_eq {s t u : State} (k : SpeedStays t u) (h : t.spd = s.spd) : SpeedStays s u :=
  (speedStays_of_eq h).trans k

theorem SameInputs.speedStays {s t : State} (h : SameInputs s t) : SpeedStays s t := by rw [SpeedStays, h.spd]

theorem MovesEngine.speedStays {s t : State} (h : MovesEngine s t) : SpeedStays s t := h.sameInputs.speedStays

theorem SpeedStays.settle {s t : State} (h : SpeedStays s t) (s0 : State) (test : Bool) :
    SpeedStays s (settle s0 test t) :=
  h.trans (movesEngine_settle s0 test t).speedStays

theorem SpeedStays.finish {s t : State} (h : SpeedStays s t) (s0 : State) (test : Bool) :
    SpeedStays s (finish s0 test t) :=
  (h.settle s0 test).trans (speedStays_of_eq (rejudgeAttn_spd _))

theorem speedStays_pruEvent (f : Pru → Pru) (s : State) : SpeedStays s (pruEvent f s) :=
  (sameInputs_pruEvent f s).speedStays

theorem speedStays_trainlineChange (f : Trainline → Trainline) (s : State) : SpeedStays s (trainlineChange f s) :=
  (speedStays_pruEvent _ _).from_eq rfl

theorem speedStays_forceDiscrete (d : Discrete) (v : Option Bool) (s : State) :
    SpeedStays s (forceDiscrete d v s) :=
  (sameInputs_forceDiscrete d v s).speedStays.from_eq rfl

theorem speedStays_forceSpeed (v : Option Nat) (s : State) : SpeedStays s (forceSpeed v s) := rfl

theorem speedStays_applyForce (v : ForceValue) (s : State) : SpeedStays s (applyForce v s) := by
  cases v with
  | speed rpm => exact speedStays_forceSpeed _ s
  | channel c x => exact speedStays_of_eq rfl
  | discrete d x => exact speedStays_forceDiscrete d _ s
  | wires w => exact speedStays_trainlineChange _ s

theorem speedStays_releaseTarget (n : Nat) (s : State) : SpeedStays s (releaseTarget n s) := by
  unfold releaseTarget
  (repeat' split)
  · exact speedStays_forceSpeed _ s
  · exact speedStays_trainlineChange _ s
  · exact speedStays_of_eq rfl
  · exact speedStays_forceDiscrete _ _ s
  · exact .refl s

theorem speedStays_releaseInputs (s : State) : SpeedStays s (releaseInputs s) := by
  unfold releaseInputs
  have h : SpeedStays s (forceSpeed none s) := speedStays_forceSpeed none s
  refine .trans ?_ (speedStays_forceDiscrete _ _ _)
  refine .trans ?_ (speedStays_forceDiscrete _ _ _)
  refine .trans ?_ (speedStays_forceDiscrete _ _ _)
  exact (h.trans (speedStays_of_eq rfl)).trans (speedStays_forceDiscrete _ _ _)

theorem speedStays_afterHolderChange (old : Option Source) (s : State) : SpeedStays s (afterHolderChange old s) := by
  have h1 : SpeedStays s
      (if old = some .service ∧ s.aut.holder ≠ some .service then clearForcesAndMasks s else s) := by
    split
    · exact ((speedStays_releaseInputs s).trans (speedStays_trainlineChange _ _)).trans (speedStays_pruEvent _ _)
    · exact .refl s
  unfold afterHolderChange
  extract_lets s1 s2
  have h2 : SpeedStays s s2 := h1.trans (speedStays_of_eq rfl)
  split
  · exact h2.trans (movesEngine_demandArrival _ _ _).speedStays
  · exact h2

theorem speedStays_trainlineEvent (f : Trainline → Trainline) (s : State) : SpeedStays s (trainlineEvent f s) := by
  have h := speedStays_trainlineChange f s
  unfold trainlineEvent
  dsimp only
  (repeat' split) <;> try exact h
  · exact h.trans ((movesEngine_demandArrival _ _ _).speedStays.from_eq (by simp))
  · exact h.trans (speedStays_afterHolderChange _ _)

theorem speedStays_leaveActive (l : Link) (st : LinkState) (s : State) : SpeedStays s (leaveActive l st s) := by
  unfold leaveActive lapse releaseHolder
  dsimp only
  (repeat' split)
  · exact (speedStays_afterHolderChange _ _).from_eq (by simp)
  all_goals exact speedStays_of_eq (by simp)

theorem speedStays_grantLink (l : Link) (s : State) : SpeedStays s (grantLink l s) :=
  (speedStays_afterHolderChange _ _).from_eq rfl

theorem speedStays_releaseHolder (s : State) : SpeedStays s (releaseHolder s) :=
  (speedStays_afterHolderChange _ _).from_eq rfl

theorem movesEngine_noteRefusal (why : Reason) (s : State) : MovesEngine s (noteRefusal why s) :=
  .of_eq rfl rfl rfl rfl rfl rfl rfl

theorem movesEngine_holderStart (s : State) : MovesEngine s (holderStart s).1 := by
  unfold holderStart
  (repeat' split)
  · exact movesEngine_acceptStart _ s
  · exact movesEngine_noteRefusal _ s
  · exact movesEngine_acceptStart _ s
  · exact movesEngine_noteRefusal _ s
  · exact movesEngine_cancelStop s
  · exact .refl s

theorem movesEngine_runRequest (l : Link) (run : RunRequest) (s : State) : MovesEngine s (runRequest l run s).1 := by
  have hs := movesEngine_holderStart s
  unfold runRequest
  (repeat' split) <;> try exact .refl s
  · next w => rwa [w] at hs
  · next w => rwa [w] at hs
  · exact movesEngine_holderStop s

theorem movesEngine_autoStop (s : State) : MovesEngine s (autoStop s) := by
  unfold autoStop
  split
  · exact movesEngine_beginUnloading _ s
  · exact .refl s

theorem speedStays_failStart (result : StartResult) (s : State) : SpeedStays s (failStart result s) :=
  (speedStays_pruEvent _ _).from_eq rfl

theorem speedStays_endRest (s : State) : SpeedStays s (endRest s) := by
  unfold endRest
  split
  · exact (movesEngine_enterCranking _).speedStays.from_eq rfl
  · exact speedStays_failStart _ s

theorem speedStays_handOn (c : Channel) (s : State) : SpeedStays s (handOn c s) :=
  ((movesEngine_rsqValue c s).speedStays.trans (speedStays_pruEvent _ _)).trans (movesEngine_iruValue c _).speedStays

/-! ### The requests -/

/-- An owner whose answer leaves the speed sensing as it was. -/
def KeepsSpeed (owner : State → Answer) : Prop := ∀ u, SpeedStays u (owner u).state

theorem speedStays_screenRequest {l : Link} {f : Frame} {s : State} {a : Answer} (h : screenRequest l f s = some a) :
    SpeedStays s a.state := by
  unfold screenRequest answer at h
  (repeat' split at h) <;> cases h
  any_goals exact .refl _
  exact SpeedStays.settle (speedStays_of_eq (by simp)) _ _

theorem speedStays_conclude (l : Link) (f : Frame) (a : Answer) : SpeedStays a.state (conclude l f a) := by
  unfold conclude
  split <;> exact speedStays_of_eq rfl

theorem speedStays_request {owner : State → Answer} (h : KeepsSpeed owner) (l : Link) (f : Frame) (s : State) :
    SpeedStays s (request l f owner s) := by
  unfold request
  dsimp only
  (repeat' split)
  · exact speedStays_of_eq rfl
  · next a ha => exact ((speedStays_screenRequest ha).trans (speedStays_conclude l f a)).from_eq rfl
  · exact ((h _).trans (speedStays_conclude l f _)).from_eq rfl
  · exact .refl s

theorem speedStays_readRequest {owner : State → Answer} (h : KeepsSpeed owner) (t : ReadTarget) (l : Link) (seq : Byte)
    (payload : List Byte) (s : State) : SpeedStays s (readRequest t l seq payload owner s) := by
  unfold readRequest
  split
  · exact speedStays_request h l _ s
  · exact .refl s

/-- An owner that changes no block but AUT, NTU, the link interfaces and CFG, and settles nothing. -/
theorem keepsSpeed_of_eq {owner : State → Answer} (h : ∀ u, (owner u).state.spd = u.spd) : KeepsSpeed owner :=
  fun u => speedStays_of_eq (h u)

theorem keepsSpeed_ownerEnrol (l : Link) (payload : List Byte) : KeepsSpeed (ownerEnrol l payload) := by
  intro s
  unfold ownerEnrol
  (repeat' split)
  · exact .refl s
  · exact speedStays_of_eq rfl
  · have h : SpeedStays s ((leaveActive l .inert s).mapLink l LinkIf.discardQueue) :=
      (speedStays_leaveActive l .inert s).trans (speedStays_of_eq rfl)
    exact h.settle _ _

theorem keepsSpeed_ownerDemand (l : Link) (payload : List Byte) : KeepsSpeed (ownerDemand l payload) := by
  intro s
  unfold ownerDemand
  split
  · exact .refl s
  · dsimp only
    split
    · unfold holderDemandEvent
      extract_lets s1 f r s2
      have h2 : SpeedStays s s2 :=
        (((movesEngine_runRequest l _ s1).trans (movesEngine_demandArrival _ _ _)).speedStays.from_eq rfl).settle _ _
      split <;> exact h2
    · exact speedStays_of_eq rfl

theorem keepsSpeed_ownerClaim (l : Link) (payload : List Byte) : KeepsSpeed (ownerClaim l payload) := by
  intro s
  unfold ownerClaim
  dsimp only
  (repeat' split) <;> try exact .refl s
  · exact (speedStays_grantLink l s).settle _ _
  · exact SpeedStays.settle (speedStays_of_eq (by simp [beginHandover])) _ _

theorem keepsSpeed_ownerYield (l : Link) (payload : List Byte) : KeepsSpeed (ownerYield l payload) := by
  intro s
  unfold ownerYield
  (repeat' split) <;> try exact .refl s
  · exact (speedStays_releaseHolder s).settle _ _
  · have h : SpeedStays s (yieldToTrainline s) := (speedStays_afterHolderChange _ _).from_eq rfl
    exact h.settle _ _
  · have h : SpeedStays s (advanceHandover s) := speedStays_of_eq rfl
    exact h.settle _ _

theorem keepsSpeed_ownerTake (l : Link) (payload : List Byte) : KeepsSpeed (ownerTake l payload) := by
  intro s
  unfold ownerTake
  (repeat' split) <;> try exact .refl s
  exact (speedStays_grantLink l s).settle _ _

theorem keepsSpeed_ownerKeep (l : Link) : KeepsSpeed (ownerKeep l) := by
  intro s
  unfold ownerKeep
  (repeat' split) <;> try exact .refl s
  exact SpeedStays.settle (speedStays_of_eq (by simp)) _ _

theorem keepsSpeed_ownerResetProtection (l : Link) (payload : List Byte) :
    KeepsSpeed (ownerResetProtection l payload) := by
  intro s
  unfold ownerResetProtection
  (repeat' split) <;> try exact .refl s
  exact (speedStays_pruEvent _ s).settle _ _

theorem keepsSpeed_ownerResetAll (l : Link) : KeepsSpeed (ownerResetAll l) := by
  intro s
  unfold ownerResetAll
  dsimp only
  (repeat' split) <;> try exact .refl s
  exact (speedStays_pruEvent _ s).settle _ _

theorem keepsSpeed_ownerUnmask (payload : List Byte) : KeepsSpeed (ownerUnmask payload) := by
  intro s
  unfold ownerUnmask
  split
  · exact .refl s
  · exact (speedStays_pruEvent _ s).settle _ _

theorem keepsSpeed_ownerApply : KeepsSpeed ownerApply := by
  intro s
  unfold ownerApply
  (repeat' split) <;> try exact .refl s
  have h : SpeedStays s (s.mapCfg fun c => { c with active := c.edited, writing := true }) := speedStays_of_eq rfl
  exact (h.trans (speedStays_trainlineEvent _ _)).settle _ _

theorem keepsSpeed_ownerForce (payload : List Byte) : KeepsSpeed (ownerForce payload) := by
  intro s
  unfold ownerForce
  (repeat' split) <;> try exact .refl s
  exact (speedStays_applyForce _ s).settle _ _

theorem keepsSpeed_ownerReleaseForce (payload : List Byte) : KeepsSpeed (ownerReleaseForce payload) := by
  intro s
  unfold ownerReleaseForce
  (repeat' split) <;> try exact .refl s
  · exact ((speedStays_releaseInputs s).trans (speedStays_trainlineChange _ _)).settle _ _
  · exact (speedStays_releaseTarget _ s).settle _ _

theorem keepsSpeed_ownerMask (payload : List Byte) : KeepsSpeed (ownerMask payload) :=
  keepsSpeed_of_eq fun s => by unfold ownerMask; split <;> rfl

theorem keepsSpeed_ownerClearTripCount (payload : List Byte) : KeepsSpeed (ownerClearTripCount payload) :=
  keepsSpeed_of_eq fun s => by unfold ownerClearTripCount; split <;> rfl

theorem keepsSpeed_ownerWriteEntry (payload : List Byte) : KeepsSpeed (ownerWriteEntry payload) :=
  keepsSpeed_of_eq fun s => by unfold ownerWriteEntry; (repeat' split) <;> rfl

theorem keepsSpeed_groupRequest (allowed : GroupState → Bool) (act : Fin 5 → Cfg → Cfg) (payload : List Byte) :
    KeepsSpeed (groupRequest allowed act payload) :=
  keepsSpeed_of_eq fun s => by unfold groupRequest; (repeat' split) <;> rfl

theorem keepsSpeed_ownerLatch (l : Link) (payload : List Byte) : KeepsSpeed (ownerLatch l payload) :=
  keepsSpeed_of_eq fun s => by unfold ownerLatch; dsimp only; (repeat' split) <;> rfl

theorem keepsSpeed_ownerReadLatched (l : Link) (payload : List Byte) : KeepsSpeed (ownerReadLatched l payload) :=
  keepsSpeed_of_eq fun s => by unfold ownerReadLatched; (repeat' split) <;> rfl

theorem keepsSpeed_ownerReadCrankHistory (payload : List Byte) : KeepsSpeed (ownerReadCrankHistory payload) :=
  keepsSpeed_of_eq fun s => by unfold ownerReadCrankHistory; (repeat' split) <;> rfl

theorem keepsSpeed_ownerReadProtectionTable (payload : List Byte) : KeepsSpeed (ownerReadProtectionTable payload) :=
  keepsSpeed_of_eq fun s => by unfold ownerReadProtectionTable; (repeat' split) <;> rfl

theorem keepsSpeed_ownerReadAnalogChannelRecords (payload : List Byte) :
    KeepsSpeed (ownerReadAnalogChannelRecords payload) :=
  keepsSpeed_of_eq fun s => by unfold ownerReadAnalogChannelRecords; (repeat' split) <;> rfl

theorem keepsSpeed_ownerReadSourceTableSummary (payload : List Byte) :
    KeepsSpeed (ownerReadSourceTableSummary payload) :=
  keepsSpeed_of_eq fun s => by unfold ownerReadSourceTableSummary; (repeat' split) <;> rfl

theorem keepsSpeed_ownerReadConfigurationEntry (payload : List Byte) :
    KeepsSpeed (ownerReadConfigurationEntry payload) :=
  keepsSpeed_of_eq fun s => by unfold ownerReadConfigurationEntry; (repeat' split) <;> rfl

theorem keepsSpeed_ownerReadEngineRunRecord (payload : List Byte) : KeepsSpeed (ownerReadEngineRunRecord payload) :=
  keepsSpeed_of_eq fun s => by unfold ownerReadEngineRunRecord; (repeat' split) <;> rfl

/-! ### Every command -/

/-- An outcome whose next state has the speed sensing as it was. -/
def SpeedOutcome (s : State) (o : Host.Outcome State Fault Refusal) : Prop := ∀ t, o = .next t → SpeedStays s t

theorem speedOutcome_next {s t : State} (h : SpeedStays s t) : SpeedOutcome s (.next t) := by
  intro u hu
  cases hu
  exact h

theorem speedOutcome_request {owner : State → Answer} (h : KeepsSpeed owner) (l : Link) (f : Frame) (s : State) :
    SpeedOutcome s (.next (request l f owner s)) := speedOutcome_next (speedStays_request h l f s)

theorem speedOutcome_read {owner : State → Answer} (h : KeepsSpeed owner) (t : ReadTarget) (l : Link) (q : Byte)
    (p : List Byte) (s : State) : SpeedOutcome s (.next (readRequest t l q p owner s)) :=
  speedOutcome_next (speedStays_readRequest h t l q p s)

/-- An event that is one operation, and then the settling. -/
theorem speedOutcome_event {s u : State} {p : Prop} [Decidable p] (test : Bool) (h : SpeedStays s u) :
    SpeedOutcome s (.next (if p then finish s test u else s)) := by
  refine speedOutcome_next ?_
  split
  · exact h.finish s test
  · exact .refl s

theorem speedStays_ite {s t u : State} {p : Prop} [Decidable p] (h : SpeedStays s t) (k : SpeedStays s u) :
    SpeedStays s (if p then t else u) := by
  split
  · exact h
  · exact k

theorem speedOutcome_selfCheckEnd (s : State) : SpeedOutcome s (exec .selfCheckEnd s) := by
  have h : SpeedStays s (firstEngineState (s.mapCfg checkedCfg)) :=
    (movesEngine_firstEngineState _).speedStays.from_eq rfl
  exact speedOutcome_event false (h.trans (speedStays_trainlineEvent _ _))

theorem speedOutcome_goodFrame (l : Link) (k q : Byte) (p : List Byte) (s : State) :
    SpeedOutcome s (exec (.goodFrame l k q p) s) := by
  refine speedOutcome_next ?_
  unfold takeGoodFrame
  (repeat' split) <;> exact speedStays_of_eq rfl

theorem speedOutcome_unknownKind (l : Link) (k q : Byte) (p : List Byte) (s : State) :
    SpeedOutcome s (exec (.unknownKind l k q p) s) := by
  refine speedOutcome_next ?_
  split
  · exact .refl s
  · exact speedStays_request (fun u => .refl u) l _ s

theorem speedOutcome_holdTimerExpiry (c : Channel) (s : State) : SpeedOutcome s (exec (.holdTimerExpiry c) s) := by
  have h : SpeedStays s (reportSensorRange (s.mapChannel c (substituted c))) := (speedStays_pruEvent _ _).from_eq rfl
  exact speedOutcome_event false (speedStays_ite h (h.trans (speedStays_handOn c _)))

theorem speedOutcome_yieldStageExpiry (s : State) : SpeedOutcome s (exec .yieldStageExpiry s) := by
  refine speedOutcome_next ?_
  (repeat' split)
  · exact SpeedStays.finish (speedStays_of_eq rfl) s false
  · exact SpeedStays.finish (speedStays_of_eq (by simp)) s false
  all_goals exact .refl s

theorem speedOutcome_takeStageExpiry (s : State) : SpeedOutcome s (exec .takeStageExpiry s) := by
  refine speedOutcome_next ?_
  (repeat' split)
  · exact SpeedStays.finish (speedStays_of_eq (by simp)) s false
  all_goals exact .refl s

/-- The commands at which SPD counts, measures or resets. -/
def Instr.sensesSpeed : Instr → Bool
  | .powerOn | .resetLine | .pickupPulse _ | .windowCompletes => true
  | _ => false

/-- Every other command leaves the speed sensing as it was. -/
theorem speedOutcome_exec {k : Instr} (h : Instr.sensesSpeed k = false) (s : State) : SpeedOutcome s (exec k s) := by
  cases k with
  | powerOn | resetLine | pickupPulse _ | windowCompletes => cases h
  | selfCheckEnd => exact speedOutcome_selfCheckEnd s
  | linkBreak l =>
    have h : SpeedStays s (s.mapLink l (LinkIf.broken (s.cfg.active.baudOf l))) := speedStays_of_eq rfl
    exact speedOutcome_next ((h.trans (speedStays_leaveActive l _ _)).finish s false)
  | goodFrame l k q p => exact speedOutcome_goodFrame l k q p s
  | badFrame l | interByteGap l | replySent l => exact speedOutcome_next (speedStays_of_eq rfl)
  | unknownKind l k q p => exact speedOutcome_unknownKind l k q p s
  | enrol l q p => exact speedOutcome_request (keepsSpeed_ownerEnrol l p) _ _ s
  | status l q p => exact speedOutcome_request (fun u => .refl u) _ _ s
  | demand l q p => exact speedOutcome_request (keepsSpeed_ownerDemand l p) _ _ s
  | claim l q p => exact speedOutcome_request (keepsSpeed_ownerClaim l p) _ _ s
  | yield l q p => exact speedOutcome_request (keepsSpeed_ownerYield l p) _ _ s
  | take l q p => exact speedOutcome_request (keepsSpeed_ownerTake l p) _ _ s
  | keep l q p => exact speedOutcome_request (keepsSpeed_ownerKeep l) _ _ s
  | resetProtection l q p => exact speedOutcome_request (keepsSpeed_ownerResetProtection l p) _ _ s
  | resetAll l q p => exact speedOutcome_request (keepsSpeed_ownerResetAll l) _ _ s
  | acknowledge l q p => exact speedOutcome_request (fun _ => speedStays_of_eq rfl) _ _ s
  | latch l q p => exact speedOutcome_request (keepsSpeed_ownerLatch l p) _ _ s
  | readLatched l q p => exact speedOutcome_read (keepsSpeed_ownerReadLatched l p) _ l q p s
  | readCrankHistory l q p => exact speedOutcome_read (keepsSpeed_ownerReadCrankHistory p) _ l q p s
  | readProtectionTable l q p => exact speedOutcome_read (keepsSpeed_ownerReadProtectionTable p) _ l q p s
  | readAnalogChannelRecords l q p => exact speedOutcome_read (keepsSpeed_ownerReadAnalogChannelRecords p) _ l q p s
  | readSourceTableSummary l q p => exact speedOutcome_read (keepsSpeed_ownerReadSourceTableSummary p) _ l q p s
  | readConfigurationEntry l q p => exact speedOutcome_read (keepsSpeed_ownerReadConfigurationEntry p) _ l q p s
  | readEngineRunRecord l q p => exact speedOutcome_read (keepsSpeed_ownerReadEngineRunRecord p) _ l q p s
  | force l q p => exact speedOutcome_request (keepsSpeed_ownerForce p) _ _ s
  | releaseForce l q p => exact speedOutcome_request (keepsSpeed_ownerReleaseForce p) _ _ s
  | mask l q p => exact speedOutcome_request (keepsSpeed_ownerMask p) _ _ s
  | unmask l q p => exact speedOutcome_request (keepsSpeed_ownerUnmask p) _ _ s
  | writeEntry l q p => exact speedOutcome_request (keepsSpeed_ownerWriteEntry p) _ _ s
  | applyTable l q p => exact speedOutcome_request keepsSpeed_ownerApply _ _ s
  | lockGroup l q p | unlockGroup l q p | fixGroup l q p =>
    exact speedOutcome_request (keepsSpeed_groupRequest _ _ p) _ _ s
  | clearTripCount l q p => exact speedOutcome_request (keepsSpeed_ownerClearTripCount p) _ _ s
  | conversion c raw =>
    have h : SpeedStays s (reportSensorRange (s.mapIns (Ins.converted s.cfg.active c raw.toNat))) :=
      (speedStays_pruEvent _ _).from_eq rfl
    exact speedOutcome_event false (h.trans (speedStays_handOn c _))
  | holdTimerExpiry c => exact speedOutcome_holdTimerExpiry c s
  | discreteInputLevelChange d level => exact speedOutcome_next (speedStays_of_eq rfl)
  | debouncedChange d =>
    exact speedOutcome_event false (speedStays_ite (speedStays_of_eq rfl)
      ((sameInputs_discreteChanged d _ _).speedStays.from_eq rfl))
  | filterTimerExpiry e => exact speedOutcome_event false (speedStays_pruEvent _ s)
  | prelubeMinimumExpiry =>
    exact speedOutcome_event false (speedStays_ite ((movesEngine_enterPriming _).speedStays.from_eq rfl)
      (speedStays_of_eq rfl))
  | prelubeLimitExpiry | primeTimerExpiry => exact speedOutcome_event false (speedStays_failStart _ s)
  | engageTimerExpiry | crankLimitExpiry | batteryDropoutExpiry | accelerationTimerExpiry | stallTimerExpiry =>
    exact speedOutcome_event false ((movesEngine_failAttempt _).speedStays.from_eq rfl)
  | budgetTimerExpiry => exact speedOutcome_event false ((movesEngine_abandonStart _ _).speedStays.from_eq rfl)
  | lubeArmingExpiry => exact speedOutcome_next (speedStays_ite (speedStays_of_eq rfl) (.refl s))
  | restTimerExpiry | zeroHoldExpiryCrankRest =>
    exact speedOutcome_event false (speedStays_ite ((speedStays_endRest _).from_eq rfl) (speedStays_of_eq rfl))
  | zeroHoldExpiryRundown => exact speedOutcome_event false (movesEngine_comeToRest s).speedStays
  | unloadTimerExpiry => exact speedOutcome_event false (movesEngine_fuelOff s).speedStays
  | minuteTick => exact speedOutcome_next (speedStays_of_eq rfl)
  | freshnessTimerExpiry l => exact speedOutcome_event false (speedStays_leaveActive l _ s)
  | trainlineWireLevelChange x level => exact speedOutcome_next (speedStays_of_eq rfl)
  | trainlineDebouncedChange x | settleTimerExpiry | invalidTimerExpiry =>
    exact speedOutcome_event false (speedStays_trainlineEvent _ s)
  | stopHoldExpiry =>
    exact speedOutcome_event false (speedStays_ite ((movesEngine_holderStop _).speedStays.from_eq rfl)
      (speedStays_of_eq rfl))
  | yieldStageExpiry => exact speedOutcome_yieldStageExpiry s
  | takeStageExpiry => exact speedOutcome_takeStageExpiry s
  | dwellTimerExpiry => exact speedOutcome_event true (speedStays_of_eq rfl)
  | rampInterval => exact speedOutcome_next (SpeedStays.finish (speedStays_of_eq rfl) s true)
  | idleDwellExpiry =>
    exact speedOutcome_event false (speedStays_ite ((movesEngine_autoStop _).speedStays.from_eq rfl)
      (speedStays_of_eq rfl))
  | lowIdleDwellExpiry => exact speedOutcome_event false ((movesEngine_autoStop _).speedStays.from_eq rfl)
  | autoStopTimerExpiry | batteryLowRestartExpiry =>
    exact speedOutcome_event false ((movesEngine_watchTrigger _).speedStays.from_eq rfl)
  | storeWriteCompletion => exact speedOutcome_next (speedStays_ite (speedStays_of_eq rfl) (.refl s))

/-- What PickupLaw says of SPD alone. -/
theorem SpeedStays.pickupLaw {s t : State} (h : SpeedStays s t) (k : PickupLaw s) : PickupLaw t := by
  rw [PickupLaw, h]
  exact k

/-- A window keeps one pickup GOOD (R43): under a force no health changes (R53). -/
theorem pickupLaw_windowEnd {s : State} (h : PickupLaw s) : PickupLaw (windowEnd s) := by
  rw [PickupLaw, windowEnd_spd]
  change ¬((windowSpd s).1.a.failed = true ∧ (windowSpd s).1.b.failed = true)
  unfold windowSpd
  cases hf : s.spd.force with
  | none =>
    rw [windowWork_of_live hf, liveWindow_eq, lostStage_eq]
    obtain ⟨ha, hb, -⟩ := judgedSpd_pickups s.cfg.active (readingOf s.cfg.active s.spd.a.count)
      (readingOf s.cfg.active s.spd.b.count) { s.spd with forceInEffect := none }
    rw [(pickupStages_pickups _ _ _ _).1] at ha
    rw [(pickupStages_pickups _ _ _ _).2] at hb
    change ¬((judgedSpd _ _ _ _).a.failed = true ∧ (judgedSpd _ _ _ _).b.failed = true)
    rw [ha, hb]
    exact judgedPickup_good h
  | some v =>
    rw [windowWork_of_forced hf]
    exact h

theorem keeps_pickupLaw : Keeps PickupLaw := by
  intro s t h hstep
  unfold step at hstep
  split at hstep
  · cases hstep
    exact h
  · next c rest _ =>
    have h1 : PickupLaw { s with pending := rest } := h
    cases hk : Instr.sensesSpeed c with
    | false => exact (speedOutcome_exec hk _ t hstep).pickupLaw h1
    | true =>
      cases c with
      | powerOn | resetLine =>
        cases hstep
        rintro ⟨w, -⟩
        cases w
      | pickupPulse p => cases p <;> cases hstep <;> exact h
      | windowCompletes =>
        rw [exec_windowCompletes] at hstep
        cases hstep
        exact pickupLaw_windowEnd h1
      | _ => cases hk

end Sys2Proof.Machine
end

section
/-! SUPPORT. A window on the pulses, from the counts to the table: the health of the pickups, their agreement, OVERSPEED
and SPEED SENSE LOST (R43 to R51). -/

namespace Sys2Proof.Machine

/-! ### The health of a pickup -/

/-- The rule of R43 and R44 for a pickup `x` beside `y`, `x'` being its record after the window. -/
def PickupRec.Judged (t : Table) (rx ry : Reading) (x y x' : PickupRec) : Prop :=
  (x.failed = false → rx.failing ry y = true → 4 ≤ x.failCount →
      x'.failed = true ∧ x'.failCount = 0 ∧ x'.recoveryCount = 0) ∧
    (x.failed = false → rx.failing ry y = true → x.failCount < 4 →
      x'.failed = false ∧ x'.failCount = x.failCount + 1) ∧
    (x.failed = false → rx.failing ry y = false → x'.failed = false ∧ x'.failCount = 0) ∧
    (x.failed = true → rx.recovers t ry = true → 19 ≤ x.recoveryCount →
      x'.failed = false ∧ x'.failCount = 0 ∧ x'.recoveryCount = 0) ∧
    (x.failed = true → rx.recovers t ry = true → x.recoveryCount < 19 →
      x'.failed = true ∧ x'.recoveryCount = x.recoveryCount + 1) ∧
    (x.failed = true → rx.recovers t ry = false → x'.failed = true ∧ x'.recoveryCount = 0)

theorem judged_judgedPickup {x y : PickupRec} (h : ¬(x.failed = true ∧ y.failed = true)) (t : Table)
    (rx ry : Reading) : x.Judged t rx ry y (judgedPickup t rx ry x y) := by
  cases hx : x.failed with
  | false =>
    obtain ⟨h1, h2, h3⟩ := judgedPickup_of_good hx t rx ry y
    refine ⟨fun _ => h1, fun _ => h2, fun _ => h3, ?_, ?_, ?_⟩ <;> exact fun w => absurd (hx.symm.trans w) (by decide)
  | true =>
    have hy : y.failed = false := by
      cases hy : y.failed
      · rfl
      · exact absurd ⟨hx, hy⟩ h
    have hj := judgedPickup_of_failed hx hy t rx ry
    refine ⟨fun w => absurd (hx.symm.trans w) (by decide), fun w => absurd (hx.symm.trans w) (by decide),
      fun w => absurd (hx.symm.trans w) (by decide), fun _ hr hc => ?_, fun _ hr hc => ?_, fun _ hr => ?_⟩
    · rw [hj, if_pos hr, if_pos hc]
      exact ⟨rfl, rfl, rfl⟩
    · rw [hj, if_pos hr, if_neg (Nat.not_le.2 hc)]
      exact ⟨hx, rfl⟩
    · rw [hj, if_neg (by simp [hr])]
      exact ⟨hx, rfl⟩

/-! ### The agreement of the pickups -/

/-- The rule of R45, `d` being SPD before the window and `w` after it. -/
def AgreementJudged (agrees : Bool) (d w : Spd) : Prop :=
  (w.a.failed = true ∨ w.b.failed = true → w.speedDisagree = false ∧ w.disagreeCount = 0 ∧ w.agreeCount = 0) ∧
    (w.a.failed = false → w.b.failed = false →
      (d.speedDisagree = false → agrees = true →
          w.speedDisagree = false ∧ w.disagreeCount = 0 ∧ w.agreeCount = d.agreeCount) ∧
        (d.speedDisagree = false → agrees = false → d.disagreeCount < 9 →
          w.speedDisagree = false ∧ w.disagreeCount = d.disagreeCount + 1 ∧ w.agreeCount = d.agreeCount) ∧
        (d.speedDisagree = false → agrees = false → 9 ≤ d.disagreeCount →
          w.speedDisagree = true ∧ w.agreeCount = 0) ∧
        (d.speedDisagree = true → agrees = false →
          w.speedDisagree = true ∧ w.agreeCount = 0 ∧ w.disagreeCount = d.disagreeCount) ∧
        (d.speedDisagree = true → agrees = true → d.agreeCount < 9 →
          w.speedDisagree = true ∧ w.agreeCount = d.agreeCount + 1 ∧ w.disagreeCount = d.disagreeCount) ∧
        (d.speedDisagree = true → agrees = true → 9 ≤ d.agreeCount →
          w.speedDisagree = false ∧ w.disagreeCount = 0))

theorem agreementJudged_disagreeTest (t : Table) (ra rb : Reading) (d : Spd) :
    AgreementJudged (agree t ra rb) d (disagreeTest t ra rb d) := by
  have hp : (disagreeTest t ra rb d).a = d.a ∧ (disagreeTest t ra rb d).b = d.b := by
    rw [disagreeTest_eq]
    exact ⟨rfl, rfl⟩
  obtain ⟨ha, hb⟩ := hp
  refine ⟨fun h => ?_, fun wa wb => ?_⟩
  · rw [ha, hb] at h
    rw [disagreeTest_of_failed h]
    exact ⟨rfl, rfl, rfl⟩
  rw [ha] at wa
  rw [hb] at wb
  have hclear (hs : d.speedDisagree = false) := disagreeTest_of_clear wa wb hs t ra rb
  have hset (hs : d.speedDisagree = true) := disagreeTest_of_set wa wb hs t ra rb
  refine ⟨fun hs hg => ?_, fun hs hg hc => ?_, fun hs hg hc => ?_, fun hs hg => ?_, fun hs hg hc => ?_,
    fun hs hg hc => ?_⟩
  · rw [hclear hs, if_pos hg]
    exact ⟨hs, rfl, rfl⟩
  · rw [hclear hs, if_neg (by simp [hg]), if_neg (Nat.not_le.2 hc)]
    exact ⟨hs, rfl, rfl⟩
  · rw [hclear hs, if_neg (by simp [hg]), if_pos hc]
    exact ⟨rfl, rfl⟩
  · rw [hset hs, if_neg (by simp [hg])]
    exact ⟨hs, rfl, rfl⟩
  · rw [hset hs, if_pos hg, if_neg (Nat.not_le.2 hc)]
    exact ⟨hs, rfl, rfl⟩
  · rw [hset hs, if_pos hg, if_pos hc]
    exact ⟨rfl, rfl⟩

/-! ### An unforced window of a state -/

/-- The reading of pickup A at a window (R42). -/
def State.readingA (s : State) : Reading := readingOf s.cfg.active s.spd.a.count

/-- The reading of pickup B at a window (R42). -/
def State.readingB (s : State) : Reading := readingOf s.cfg.active s.spd.b.count

/-- Whether the window is blind: every GOOD pickup silent while a fuelled engine runs (R50). -/
def windowBlind (s : State) : Bool :=
  ((windowEnd s).spd.a.failed || s.readingA.silent) && ((windowEnd s).spd.b.failed || s.readingB.silent) && fuelled s

/-- Whether the window declares SPEED SENSE LOST (R51). -/
def windowLost (s : State) : Bool := windowBlind s && decide (4 ≤ s.spd.lostCount)

section Live

variable {s : State} (hf : s.spd.force = none)
include hf

theorem windowSpd_of_live :
    windowSpd s =
      lostStage
        (blind (fuelled s) s.readingA s.readingB
          (judgedSpd s.cfg.active s.readingA s.readingB { s.spd with forceInEffect := none }))
        (speedStages s.cfg.active s.readingA s.readingB
          (judgedSpd s.cfg.active s.readingA s.readingB { s.spd with forceInEffect := none })) := by
  rw [windowSpd, windowWork_of_live hf, liveWindow_eq]
  rfl

theorem windowEnd_pickups :
    (windowEnd s).spd.a = judgedPickup s.cfg.active s.readingA s.readingB s.spd.a s.spd.b ∧
      (windowEnd s).spd.b = judgedPickup s.cfg.active s.readingB s.readingA s.spd.b s.spd.a := by
  obtain ⟨ha, hb, -⟩ := judgedSpd_pickups s.cfg.active s.readingA s.readingB { s.spd with forceInEffect := none }
  rw [windowEnd_spd, windowSpd_of_live hf, lostStage_eq]
  exact ⟨ha, hb⟩

theorem windowEnd_agreement :
    AgreementJudged (agree s.cfg.active s.readingA s.readingB) s.spd (windowEnd s).spd := by
  rw [windowEnd_spd, windowSpd_of_live hf, lostStage_eq]
  exact agreementJudged_disagreeTest s.cfg.active s.readingA s.readingB
    (pickupStages s.cfg.active s.readingA s.readingB { s.spd with forceInEffect := none })

/-- What the last stage makes of a window (R50, R51). -/
theorem windowSpd_lost :
    (windowSpd s).1.lostCount = (if windowBlind s = true ∧ windowLost s = false then s.spd.lostCount + 1 else 0) ∧
      (windowSpd s).1.senseLost = (windowLost s || s.spd.senseLost) ∧ (windowSpd s).2 = windowLost s := by
  obtain ⟨ha, hb, hl, hs, -⟩ :=
    judgedSpd_pickups s.cfg.active s.readingA s.readingB { s.spd with forceInEffect := none }
  have hblind : blind (fuelled s) s.readingA s.readingB
      (judgedSpd s.cfg.active s.readingA s.readingB { s.spd with forceInEffect := none }) = windowBlind s := by
    obtain ⟨hwa, hwb⟩ := windowEnd_pickups hf
    rw [blind, windowBlind, ha, hb, hwa, hwb]
    rfl
  have hcount : windowBlind s = true ∧ s.spd.lostCount < 4 ↔ windowBlind s = true ∧ windowLost s = false := by
    rw [windowLost]
    cases windowBlind s <;> simp
  rw [windowSpd_of_live hf, lostStage_eq, hblind]
  refine ⟨?_, ?_, ?_⟩
  · simp only [speedStages, hl]
    exact if_congr hcount rfl rfl
  · simp only [speedStages, hl, hs, windowLost]
  · simp only [speedStages, hl, windowLost]

end Live

theorem fuelled_eq (s : State) :
    fuelled s =
      (s.rsq.fuelEnable && (decide (s.rsq.engine = .accelerating) || decide (s.rsq.engine = .running) ||
        decide (s.rsq.engine = .unloading))) := by
  rw [fuelled]
  cases s.rsq.engine <;> rfl

/-- Only a moving engine is declared lost (R50). -/
theorem engine_of_windowLost {s : State} (h : windowLost s = true) :
    s.rsq.engine = .accelerating ∨ s.rsq.engine = .running ∨ s.rsq.engine = .unloading := by
  have hf : fuelled s = true := by
    simp only [windowLost, windowBlind, Bool.and_eq_true] at h
    obtain ⟨⟨-, hfuel⟩, -⟩ := h
    exact hfuel
  rw [fuelled_eq] at hf
  simp only [Bool.and_eq_true, Bool.or_eq_true, decide_eq_true_eq] at hf
  tauto

/-- A window that declares no loss leaves the latch, unless it brings the engine to rest (R51). -/
theorem windowEnd_senseLost_of_notLost {s : State} (hf : s.spd.force = none) (h : windowLost s = false)
    (he : (windowEnd s).rsq.engine.atRest = false ∨ (windowEnd s).rsq.engine = s.rsq.engine) :
    (windowEnd s).spd.senseLost = s.spd.senseLost := by
  have hw : (windowSpd s).1.senseLost = s.spd.senseLost := by
    obtain ⟨-, hw, -⟩ := windowSpd_lost hf
    rw [hw, h, Bool.false_or]
  cases hr : s.rsq.engine.atRest with
  | false =>
    have hn : (windowEnd s).rsq.engine.atRest = false := by
      rcases he with he | he
      · exact he
      · rw [he, hr]
    rw [windowEnd_latch hr, hw, hn, Bool.not_false, Bool.and_true]
  | true =>
    obtain ⟨hrest, hlatch⟩ := windowEnd_latch_of_rest hr
    rcases he with he | he
    · exact absurd (hrest.symm.trans he) (by decide)
    · rw [hlatch he, hw]

/-- The declaration sets the latch, unless this event brings the engine to rest (R51). -/
theorem windowEnd_senseLost_of_lost {s : State} (hf : s.spd.force = none) (h : windowLost s = true) :
    (windowEnd s).spd.senseLost = !(windowEnd s).rsq.engine.atRest := by
  have hmoving : s.rsq.engine.atRest = false := by
    rcases engine_of_windowLost h with he | he | he <;> rw [he] <;> rfl
  obtain ⟨-, hw, -⟩ := windowSpd_lost hf
  rw [windowEnd_latch hmoving, hw, h, Bool.true_or, Bool.true_and]

/-- Settles O44: a window on the pulses is SPD's stages, and the rest of the event reports OVERSPEED and the loss. -/
theorem windowsJudgeThePickups : Obligations.WindowsJudgeThePickups := by
  refine ⟨keeps_pickupLaw, fun s hf hlaw => ?_⟩
  dsimp only
  rw [← fuelled_eq]
  obtain ⟨ha, hb⟩ := windowEnd_pickups hf
  obtain ⟨hfailed, hgood⟩ := windowEnd_agreement hf
  obtain ⟨hcount, -, hlost⟩ := windowSpd_lost hf
  refine ⟨windowEnd s, exec_windowCompletes s, ⟨hfailed, hgood, ?_, fun h => ?_, fun h => ?_⟩, ?_, ?_, fun ho hi => ?_⟩
  · exact (congrArg Spd.lostCount (windowEnd_spd s)).trans hcount
  · exact ⟨windowEnd_notLost (hlost.trans h), windowEnd_senseLost_of_notLost hf h⟩
  · refine ⟨windowEnd_senseLost_of_lost hf h, fun hi => ?_⟩
    rw [windowEnd_lost (hlost.trans h) hi]
    refine ⟨rfl, rfl, rfl, fun hc => ?_⟩
    rw [windowEnd_engine_of_lost hc (engine_of_windowLost h) (hlost.trans h) hi,
      show (windowEnd s).spd.measured = _ from congrArg Spd.measured (windowEnd_spd s)]
  · rw [ha]
    exact judged_judgedPickup hlaw s.cfg.active s.readingA s.readingB
  · rw [hb]
    exact judged_judgedPickup (fun w => hlaw w.symm) s.cfg.active s.readingB s.readingA
  · rw [show (windowEnd s).spd.overspeed = _ from congrArg Spd.overspeed (windowEnd_spd s)] at ho
    rw [windowEnd_over ho hi]
    exact ⟨rfl, rfl, rfl⟩

end Sys2Proof.Machine
end

section
/-! SUPPORT. DISCRETE_INPUT_LEVEL_CHANGE and DEBOUNCED_CHANGE (R70 to R72, R75, R78, R79). -/

namespace Sys2Proof.Machine

/-! ### An arrival judged at one entry (R75, R78) -/

/-- The set test starts the filter of an entry whose condition is false, and lets a running one run on. -/
theorem judge_set {e : Entry} {p : Pru} (h : (p.entry e).condition = false) (clearTest : Bool) (ms : Nat) :
    (judge e true clearTest (some ms) p).entry e =
      { p.entry e with filter := if (p.entry e).filter = none then some ms else (p.entry e).filter } := by
  by_cases hf : (p.entry e).filter = none
  · simp [judge, h, hf]
  · have hruns : judge e true clearTest (some ms) p = p := by simp [judge, h, hf]
    rw [hruns, if_neg hf]

/-- A failed set test cancels the filter. -/
theorem judge_unset {e : Entry} {p : Pru} (h : (p.entry e).condition = false) (clearTest : Bool) (ms : Nat) :
    (judge e false clearTest (some ms) p).entry e = { p.entry e with filter := none } := by
  simp [judge, h]

/-- The clear test ends a true condition. -/
theorem judge_clear {e : Entry} {p : Pru} (h : (p.entry e).condition = true) (setTest : Bool) (filter : Option Nat) :
    judge e setTest true filter p = setCondition e false p := by
  simp [judge, h]

/-- A latching entry is HELD once its condition has turned false (R75). -/
theorem setCondition_false_held {e : Entry} {p : Pru} (hl : latching e = true) (hc : (p.entry e).condition = true)
    (hs : (p.entry e).state = .active) : ((setCondition e false p).entry e).state = .held := by
  simp [setCondition, EntryRec.withCondition, hl, hc, hs]

/-- A lawful entry that is not masked is ACTIVE under a true condition (R75). -/
theorem setCondition_true_active {e : Entry} {p : Pru} {isLatching : Bool} (hr : (p.entry e).Lawful isLatching)
    (hm : (p.entry e).masked = false) : ((setCondition e true p).entry e).state = .active := by
  obtain ⟨-, hpending, hcond, -, -⟩ := hr
  have hp : (p.entry e).state ≠ .pending := fun w => absurd (hm.symm.trans (hpending w)) (by decide)
  cases hc : (p.entry e).condition with
  | true =>
    have ha : (p.entry e).state = .active := (hcond.1 hc).resolve_right hp
    simp [setCondition, EntryRec.withCondition, hc, ha]
  | false =>
    rw [setCondition_true hc, Pru.entry_setEntry_same, EntryRec.afterTrue]
    cases hs : (p.entry e).state <;> simp_all

/-- What is handed on of an event at the table, and the end of the event, touch no entry but 4, 8 and 9. -/
theorem finish_pruEvent_entry (f : Pru → Pru) (s0 s : State) (test : Bool) {e : Entry} (h4 : e ≠ 4) (h8 : e ≠ 8)
    (h9 : e ≠ 9) : (finish s0 test (pruEvent f s)).pru.entry e = (f s.pru).entry e :=
  ((movesEngine_handOff s.pru _).trans (movesEngine_settle s0 test _)).entry e h4 h8 h9

/-! ### The record of an input (R70 to R72) -/

theorem debounceMs_eq (d : Discrete) :
    debounceMs d = if d = .emergencyStop ∨ d = .starterEngaged then 20 else 100 := by
  cases d <;> rfl

/-- The record once its debounced state has taken the level. -/
def DiscreteRec.debouncedNow (r : DiscreteRec) : DiscreteRec := { r with debounced := r.level, timer := none }

/-- Whether the consumer sees the debounced change: it is one, and no force stands (R72). -/
def DiscreteRec.seen (r : DiscreteRec) : Bool := r.forced.isNone && (r.level != r.debounced)

theorem used_debouncedNow_iff (r : DiscreteRec) : r.used = r.debouncedNow.used ↔ r.seen = false := by
  simp only [DiscreteRec.used, DiscreteRec.debouncedNow, DiscreteRec.seen]
  cases r.forced with
  | none => cases r.level <;> cases r.debounced <;> decide
  | some v => exact iff_of_true rfl rfl

/-! ### DEBOUNCED_CHANGE -/

/-- INS has taken the debounced change, and the consumer has acted where it sees one. -/
def debouncedEvent (d : Discrete) (s : State) : State :=
  if (s.ins.discrete d).seen then
    discreteChanged d (s.ins.discrete d).level (s.mapDiscrete d DiscreteRec.debouncedNow)
  else s.mapDiscrete d DiscreteRec.debouncedNow

theorem exec_debouncedChange {d : Discrete} {s : State} (h : (s.ins.discrete d).timer.isSome = true) :
    exec (.debouncedChange d) s = .next (finish s false (debouncedEvent d s)) := by
  have hused : (s.ins.discrete d).used = ((s.mapDiscrete d DiscreteRec.debouncedNow).ins.discrete d).used ↔
      (s.ins.discrete d).seen = false := by
    rw [State.mapDiscrete_ins, Ins.discrete_setDiscrete_same]
    exact used_debouncedNow_iff _
  change Host.Outcome.next (if (s.ins.discrete d).timer.isSome = true then finish s false (if (s.ins.discrete d).used =
    ((s.mapDiscrete d DiscreteRec.debouncedNow).ins.discrete d).used then _ else _) else s) = _
  rw [if_pos h, debouncedEvent]
  cases hs : (s.ins.discrete d).seen with
  | false => rw [if_pos (hused.2 hs)]; rfl
  | true => rw [if_neg (by rw [hused, hs]; decide)]; rfl

theorem debouncedEvent_of_unseen {d : Discrete} {s : State} (h : (s.ins.discrete d).seen = false) :
    debouncedEvent d s = s.mapDiscrete d DiscreteRec.debouncedNow := by
  rw [debouncedEvent, h]
  rfl

theorem debouncedEvent_of_seen {d : Discrete} {s : State} (h : (s.ins.discrete d).seen = true) :
    debouncedEvent d s =
      discreteChanged d (s.ins.discrete d).level (s.mapDiscrete d DiscreteRec.debouncedNow) := by
  rw [debouncedEvent, if_pos h]

/-- Whether a consumer acts or not, INS holds the new record and the link interfaces and CFG stay. -/
theorem debouncedEvent_blocks (d : Discrete) (s : State) :
    (debouncedEvent d s).ins = s.ins.setDiscrete d (s.ins.discrete d).debouncedNow ∧
      (debouncedEvent d s).links = s.links ∧ (debouncedEvent d s).cfg = s.cfg ∧
      (debouncedEvent d s).pending = s.pending := by
  unfold debouncedEvent
  split <;> simp

/-- An unseen change is handed to nobody, and no block acts on a change of TURNING GEAR (R71, R72). -/
theorem debouncedEvent_of_silent {d : Discrete} {s : State}
    (h : (s.ins.discrete d).seen = false ∨ d = .turningGear) :
    debouncedEvent d s = s.mapDiscrete d DiscreteRec.debouncedNow := by
  rcases h with h | rfl
  · exact debouncedEvent_of_unseen h
  · unfold debouncedEvent
    split <;> rfl

/-- An entry after a seen change that its consumer takes to the protection table by `f`. -/
theorem debouncedEvent_entry {d : Discrete} {s : State} {f : Pru → Pru}
    (hd : discreteChanged d (s.ins.discrete d).level (s.mapDiscrete d DiscreteRec.debouncedNow) =
      pruEvent f (s.mapDiscrete d DiscreteRec.debouncedNow))
    (h : (s.ins.discrete d).seen = true) {e : Entry} (h4 : e ≠ 4) (h8 : e ≠ 8) (h9 : e ≠ 9) :
    (finish s false (debouncedEvent d s)).pru.entry e = (f s.pru).entry e := by
  rw [debouncedEvent_of_seen h, hd]
  exact finish_pruEvent_entry f s _ false h4 h8 h9

/-- A rise of STARTER ENGAGED in CRANKING stops the engage timer (R71). -/
theorem debouncedEvent_starterEngaged {s : State} (h : (s.ins.discrete .starterEngaged).seen = true) :
    (debouncedEvent .starterEngaged s).rsq =
        (if (s.ins.discrete .starterEngaged).level = true ∧ s.rsq.engine = .cranking then
          { s.rsq with timers := { s.rsq.timers with engage := none } }
        else s.rsq) ∧
      (debouncedEvent .starterEngaged s).spd = s.spd ∧ (debouncedEvent .starterEngaged s).pru = s.pru ∧
      (debouncedEvent .starterEngaged s).aut = s.aut := by
  by_cases hc : (s.ins.discrete .starterEngaged).level = true ∧ s.rsq.engine = .cranking
  · rw [(debouncedEvent_of_seen h).trans (if_pos hc), if_pos hc]
    exact ⟨rfl, rfl, rfl, rfl⟩
  · rw [(debouncedEvent_of_seen h).trans (if_neg hc), if_neg hc]
    exact ⟨rfl, rfl, rfl, rfl⟩

/-- Settles O48: the level change is one write to INS; the debounced change is one, and then its consumer's event. -/
theorem discreteInputsAreDebounced : Obligations.DiscreteInputsAreDebounced := by
  refine ⟨fun d level s => ?_, fun d s ht => ?_⟩
  · dsimp only
    rw [← debounceMs_eq]
    rfl
  obtain ⟨hi, hl, hk, hq⟩ := debouncedEvent_blocks d s
  have hpending := (finish_pending s false (debouncedEvent d s)).trans hq
  refine ⟨_, exec_debouncedChange ht, settled_finish _ _ _,
    unchanged_cons (agreesOn_links_finish s false hl) (unchanged_cons ((finish_cfg _ _ _).trans hk)
      (unchanged_nil hpending)),
    (finish_ins _ _ _).trans hi, fun h hne => ?_, ?_, ?_, ?_⟩
  · have he := debouncedEvent_of_silent h
    obtain ⟨hr, hs, hp, ha⟩ := finish_of_ne (s0 := s) (test := false) (s := debouncedEvent d s) (by rw [he]; exact hne)
    rw [he] at hr hs hp ha hpending
    rw [he]
    exact unchanged_cons hr (unchanged_cons hs (unchanged_cons hp (unchanged_cons ha (unchanged_nil hpending))))
  · rintro rfl hseen
    rw [debouncedEvent_entry (f := setCondition 0 (s.ins.discrete .emergencyStop).level) rfl hseen (by decide)
      (by decide) (by decide)]
    refine ⟨setCondition_condition 0 _ _, fun hlaw hm => ⟨fun hlevel => ?_, fun hlevel ha => ?_⟩⟩
    · rw [hlevel]
      exact setCondition_true_active hlaw hm
    · obtain ⟨-, -, hcond, -, -⟩ := hlaw
      rw [hlevel]
      exact setCondition_false_held rfl (hcond.2 (.inl ha)) ha
  · rintro rfl hseen
    rw [debouncedEvent_entry (f := judge 7 (s.ins.discrete .groundRelay).level (!(s.ins.discrete .groundRelay).level)
      (some (tenthsMs s.cfg.active.groundFilter))) rfl hseen (by decide) (by decide) (by decide)]
    refine ⟨fun hlevel hc => ?_, fun hlevel hc => ?_, fun hlevel hc => ?_⟩ <;> rw [hlevel]
    · exact judge_set hc _ _
    · exact judge_unset hc _ _
    · rw [Bool.not_false, judge_clear hc]
      exact ⟨setCondition_condition 7 false _, setCondition_false_held rfl hc⟩
  · rintro rfl hseen hne
    obtain ⟨hr, hs, hp, ha⟩ := debouncedEvent_starterEngaged hseen
    have hmoving : (debouncedEvent .starterEngaged s).rsq.engine ≠ .unloading := by
      rw [hr]
      split <;> exact hne
    obtain ⟨hfr, hfs, hfp, hfa⟩ := finish_of_ne (s0 := s) (test := false) hmoving
    exact ⟨unchanged_cons (hfs.trans hs) (unchanged_cons (hfp.trans hp) (unchanged_cons (hfa.trans ha)
      (unchanged_nil hpending))), hfr.trans hr⟩

end Sys2Proof.Machine
end

section
/-! SUPPORT. The laws of the protection table, of the load reference, and of sources, forces and masks, as they stand
within an event; and the single moves of PRU, NTU and AUT that keep them (R74 to R78, R87, R95, R100, R136, R150 to
R152). -/

namespace Sys2Proof.Machine

/-! ### The laws within an event -/

/-- The event entries (R76). -/
def IsEvent (e : Entry) : Prop := e = 1 ∨ e = 2 ∨ e = 5

/-- All that the law of the protection table says of one entry. -/
structure EntryRec.Proper (e : Entry) (r : EntryRec) : Prop where
  lawful : r.Lawful (latching e)
  unmasked : e.val ≤ 5 → r.masked = false
  event : IsEvent e → r.EventLawful

theorem protectionLaw_iff (s : State) : ProtectionLaw s ↔ ∀ e : Entry, (s.pru.entry e).Proper e :=
  ⟨fun ⟨h, k, w⟩ e => ⟨h e, k e, w e⟩, fun h => ⟨fun e => (h e).lawful, fun e => (h e).unmasked, fun e => (h e).event⟩⟩

/-- LOAD PERMIT is at the level R150 gives it. -/
def PermitLaw (s : State) : Prop := s.ntu.loadPermit = loadPermitWanted s

/-- The law of the load reference but for LOAD PERMIT, which is brought up to date at the end of an event only. -/
structure LoadHeld (s : State) : Prop where
  notch : NotchLaw s
  off : s.ntu.loadPermit = false → s.ntu.loadTarget = 0 ∧ s.ntu.loadRef = 0 ∧ s.ntu.excitationRef = 0
  tables : TableLaw s
  coolant : s.pru.coolantPct ≤ 100
  intake : s.pru.intakePct ≤ 100
  ofNotch : s.ntu.loadRef ≤ s.cfg.active.loadAt s.ntu.applied
  ofMax : s.ntu.loadRef ≤ s.cfg.active.loadMax

theorem loadReferenceLaw_iff (s : State) : LoadReferenceLaw s ↔ LoadHeld s ∧ PermitLaw s :=
  ⟨fun ⟨hn, ⟨hp, ho⟩, ht, hc, hi, ha, hm⟩ => ⟨⟨hn, ho, ht, hc, hi, ha, hm⟩, hp⟩,
    fun ⟨⟨hn, ho, ht, hc, hi, ha, hm⟩, hp⟩ => ⟨hn, ⟨hp, ho⟩, ht, hc, hi, ha, hm⟩⟩

/-- The way from `s` to `t` keeps each of the laws. -/
structure KeepsLaws (s t : State) : Prop where
  protection : ProtectionLaw s → ProtectionLaw t
  bell : BellLaw s → BellLaw t
  load : LoadHeld s → LoadHeld t
  source : SourceLaw s → SourceLaw t
  service : ServiceLaw s → ServiceLaw t

theorem KeepsLaws.refl (s : State) : KeepsLaws s s := ⟨id, id, id, id, id⟩

theorem KeepsLaws.trans {s t u : State} (h : KeepsLaws s t) (k : KeepsLaws t u) : KeepsLaws s u :=
  ⟨k.protection ∘ h.protection, k.bell ∘ h.bell, k.load ∘ h.load, k.source ∘ h.source, k.service ∘ h.service⟩

theorem BellLaw.congr {s t : State} (hp : t.pru = s.pru) (h : BellLaw s) : BellLaw t := by
  simpa only [BellLaw, hp] using h

theorem LoadHeld.congr {s t : State} (he : t.rsq.engine = s.rsq.engine) (hc : t.pru.coolantPct = s.pru.coolantPct)
    (hi : t.pru.intakePct = s.pru.intakePct) (hn : t.ntu = s.ntu) (hf : t.cfg = s.cfg) (h : LoadHeld s) :
    LoadHeld t := by
  obtain ⟨h1, h2, h3, h4, h5, h6, h7⟩ := h
  refine ⟨?_, ?_, ?_, ?_, ?_, ?_, ?_⟩ <;> simp only [NotchLaw, TableLaw, he, hc, hi, hn, hf] at * <;> assumption

theorem SourceLaw.congr {s t : State} (h : SourceLaw s) (ha : ∀ l, t.aut.source l = s.aut.source l) : SourceLaw t :=
  fun l => ha l ▸ h l

theorem serviceLaw_of_service {s : State} (h : s.aut.holder = some .service) : ServiceLaw s :=
  ⟨fun _ => h, fun _ _ => h⟩

theorem serviceLaw_of_none {s : State} (hf : forcesActive s = false)
    (hm : ∀ e : Entry, (s.pru.entry e).masked = false) : ServiceLaw s :=
  ⟨fun h => absurd (hf.symm.trans h) (by decide), fun e h => absurd ((hm e).symm.trans h) (by decide)⟩

/-- Under the law, forces and masks that come from none before need no holder, and others only SERVICE. -/
theorem ServiceLaw.mono {s t : State} (h : ServiceLaw s) (hh : t.aut.holder = s.aut.holder)
    (hf : forcesActive t = true → forcesActive s = true ∨ s.aut.holder = some .service)
    (hm : ∀ e : Entry, (t.pru.entry e).masked = true → (s.pru.entry e).masked = true) : ServiceLaw t := by
  refine ⟨fun w => ?_, fun e w => hh.trans (h.2 e (hm e w))⟩
  rcases hf w with k | k
  · exact hh.trans (h.1 k)
  · exact hh.trans k

/-- What leaves the engine state, PRU, NTU, CFG and the holder alone, keeps the sources lawful, and stores a force only
under SERVICE. -/
theorem KeepsLaws.of_calm {s t : State} (he : t.rsq.engine = s.rsq.engine) (hp : t.pru = s.pru) (hn : t.ntu = s.ntu)
    (hc : t.cfg = s.cfg) (hh : t.aut.holder = s.aut.holder) (hs : SourceLaw s → SourceLaw t)
    (hf : forcesActive t = true → forcesActive s = true ∨ s.aut.holder = some .service) : KeepsLaws s t where
  protection := by simp only [ProtectionLaw, hp]; exact id
  bell := BellLaw.congr hp
  load := LoadHeld.congr he (by rw [hp]) (by rw [hp]) hn hc
  source := hs
  service h := h.mono hh hf (by rw [hp]; exact fun _ => id)

/-- What moves RSQ, but for the engine state, IRU and the link interfaces alone. -/
theorem KeepsLaws.of_same {s t : State} (he : t.rsq.engine = s.rsq.engine) (hs : t.spd = s.spd) (hi : t.ins = s.ins)
    (hp : t.pru = s.pru) (ha : t.aut = s.aut) (hn : t.ntu = s.ntu) (hc : t.cfg = s.cfg) : KeepsLaws s t := by
  refine .of_calm he hp hn hc (by rw [ha]) (fun h => h.congr fun l => by rw [ha]) fun h => .inl ?_
  rw [← h]
  simp only [forcesActive, hs, hi, ha]

theorem keepsLaws_mapRsq (f : Rsq → Rsq) (s : State) (h : (f s.rsq).engine = s.rsq.engine) : KeepsLaws s (s.mapRsq f) :=
  .of_same h rfl rfl rfl rfl rfl rfl

theorem keepsLaws_mapTimers (f : SeqTimers → SeqTimers) (s : State) : KeepsLaws s (s.mapTimers f) :=
  keepsLaws_mapRsq _ s rfl

theorem keepsLaws_mapIru (f : Iru → Iru) (s : State) : KeepsLaws s (s.mapIru f) := .of_same rfl rfl rfl rfl rfl rfl rfl

theorem keepsLaws_mapLink (l : Link) (f : LinkIf → LinkIf) (s : State) : KeepsLaws s (s.mapLink l f) :=
  .of_same rfl rfl rfl rfl rfl rfl rfl

/-- An input whose force stays or goes. -/
theorem keepsLaws_inputs {s t : State} (hr : t.rsq = s.rsq) (hp : t.pru = s.pru) (ha : t.aut = s.aut)
    (hn : t.ntu = s.ntu) (hc : t.cfg = s.cfg)
    (hf : forcesActive t = true → forcesActive s = true ∨ s.aut.holder = some .service) :
    KeepsLaws s t :=
  .of_calm (by rw [hr]) hp hn hc (by rw [ha]) (fun h => h.congr fun l => by rw [ha]) hf

/-! ### One entry of the protection table -/

/-- A condition set or withdrawn keeps an entry proper (R75, R77). -/
theorem EntryRec.Proper.withCondition {e : Entry} {r : EntryRec} (h : r.Proper e) (he : ¬IsEvent e) (v : Bool) :
    (if v then { r.withCondition (latching e) v with filter := none }
      else r.withCondition (latching e) v).Proper e := by
  obtain ⟨⟨hheld, hpending, hcond, hfilter, hack⟩, hu, -⟩ := h
  by_cases hv : r.condition = v
  · have hw : r.withCondition (latching e) v = r := by simp [EntryRec.withCondition, hv]
    rw [hw]
    cases v with
    | true => exact ⟨⟨hheld, hpending, hcond, fun _ => rfl, hack⟩, hu, fun w => absurd w he⟩
    | false => exact ⟨⟨hheld, hpending, hcond, hfilter, hack⟩, hu, fun w => absurd w he⟩
  · cases v with
    | true =>
      rw [Bool.not_eq_true] at hv
      refine ⟨?_, ?_, fun w => absurd w he⟩
      · cases hs : r.state <;> cases hm : r.masked <;>
          simp_all [EntryRec.withCondition, EntryRec.Lawful, EntryRec.entered]
      · cases hs : r.state <;> cases hm : r.masked <;> simp_all [EntryRec.withCondition, EntryRec.entered]
    | false =>
      rw [Bool.not_eq_false] at hv
      refine ⟨?_, ?_, fun w => absurd w he⟩
      · cases hs : r.state <;> cases hl : latching e <;>
          simp_all [EntryRec.withCondition, EntryRec.Lawful, EntryRec.left]
      · cases hs : r.state <;> cases hl : latching e <;> simp_all [EntryRec.withCondition, EntryRec.left]

@[simp] theorem withCondition_masked (b v : Bool) (r : EntryRec) : (r.withCondition b v).masked = r.masked := by
  unfold EntryRec.withCondition
  split
  · rfl
  · dsimp only
    (repeat' split) <;> rfl

/-- A filter started or cancelled while the condition is false keeps an entry proper (R78). -/
theorem EntryRec.Proper.withFilter {e : Entry} {r : EntryRec} (h : r.Proper e) (t : Timer)
    (ht : t = none ∨ r.condition = false ∧ ¬IsEvent e) : ({ r with filter := t } : EntryRec).Proper e := by
  obtain ⟨⟨hheld, hpending, hcond, hfilter, hack⟩, hu, hev⟩ := h
  refine ⟨⟨hheld, hpending, hcond, fun w => ?_, hack⟩, hu, fun w => ⟨(hev w).1, (hev w).2.1, ?_⟩⟩
  · rcases ht with ht | ⟨ht, -⟩
    · exact ht
    · exact absurd (ht.symm.trans w) (by decide)
  · exact ht.resolve_right fun k => k.2 w

/-- A report of an event entry (R76). -/
theorem EntryRec.Proper.reported {e : Entry} {r : EntryRec} (h : r.Proper e) (he : IsEvent e) (hs : r.state = .idle) :
    ({ r.entered with state := .held } : EntryRec).Proper e := by
  obtain ⟨⟨hheld, hpending, hcond, hfilter, hack⟩, hu, hev⟩ := h
  obtain ⟨-, hm, hf⟩ := hev he
  have hl : latching e = true := by rcases he with rfl | rfl | rfl <;> rfl
  exact ⟨by simp_all [EntryRec.Lawful, EntryRec.entered], hu, fun _ => ⟨.inr rfl, hm, hf⟩⟩

/-- An entry returned from HELD to IDLE (R77, R91). -/
theorem EntryRec.Proper.left {e : Entry} {r : EntryRec} (h : r.Proper e) (hs : r.state = .held) :
    r.left.Proper e := by
  obtain ⟨⟨hheld, hpending, hcond, hfilter, hack⟩, hu, hev⟩ := h
  refine ⟨?_, hu, fun w => ⟨.inl rfl, (hev w).2⟩⟩
  simp_all [EntryRec.Lawful, EntryRec.left]

/-- A mask cleared (R95). -/
theorem EntryRec.Proper.unmask {e : Entry} {r : EntryRec} (h : r.Proper e) : r.unmasked.Proper e := by
  obtain ⟨⟨hheld, hpending, hcond, hfilter, hack⟩, hu, hev⟩ := h
  refine ⟨?_, fun _ => ?_, fun w => ?_⟩
  · cases hs : r.state <;> simp_all [EntryRec.Lawful, EntryRec.unmasked, EntryRec.entered]
  · cases hs : r.state <;> simp [EntryRec.unmasked, EntryRec.entered, hs]
  · obtain ⟨hi, -, hf⟩ := hev w
    rcases hi with hi | hi <;> simp [EntryRec.EventLawful, EntryRec.unmasked, hi, hf]

@[simp] theorem unmasked_masked (r : EntryRec) : r.unmasked.masked = false := by
  cases hs : r.state <;> simp [EntryRec.unmasked, EntryRec.entered, hs]

/-- An entry acknowledged (R90). -/
theorem EntryRec.Proper.acknowledge {e : Entry} {r : EntryRec} (h : r.Proper e) : r.acknowledge.Proper e := by
  unfold EntryRec.acknowledge
  split
  · obtain ⟨⟨hheld, hpending, hcond, hfilter, -⟩, hu, hev⟩ := h
    exact ⟨⟨hheld, hpending, hcond, hfilter, fun _ => rfl⟩, hu, hev⟩
  · exact h

@[simp] theorem acknowledge_masked (r : EntryRec) : r.acknowledge.masked = r.masked := by
  unfold EntryRec.acknowledge
  split <;> rfl

/-- A mask set on an entry that may carry one, or the trip count changed (R94, R95). -/
theorem EntryRec.Proper.marked {e : Entry} {r : EntryRec} (h : r.Proper e) (m : Bool) (n : Nat)
    (hm : m = r.masked ∨ m = true ∧ 5 < e.val) : ({ r with masked := m, tripCount := n } : EntryRec).Proper e := by
  obtain ⟨⟨hheld, hpending, hcond, hfilter, hack⟩, hu, hev⟩ := h
  rcases hm with rfl | ⟨rfl, h5⟩
  · exact ⟨⟨hheld, hpending, hcond, hfilter, hack⟩, hu, hev⟩
  · refine ⟨⟨hheld, fun _ => rfl, hcond, hfilter, hack⟩, fun w => absurd h5 (by omega), fun w => ?_⟩
    rcases w with rfl | rfl | rfl <;> exact absurd h5 (by decide)

/-! ### Moves of the protection table -/

/-- From `p` to `q` every entry stays proper, none becomes masked, and the derate percentages stay within what they are
taken of, table `t` being in range (R87). -/
structure TableMove (t : Table) (p q : Pru) : Prop where
  proper : (∀ e : Entry, (p.entry e).Proper e) → ∀ e : Entry, (q.entry e).Proper e
  masked : ∀ e : Entry, (q.entry e).masked = true → (p.entry e).masked = true
  coolant : t.InRange → p.coolantPct ≤ 100 → q.coolantPct ≤ 100
  intake : t.InRange → p.intakePct ≤ 100 → q.intakePct ≤ 100

theorem TableMove.refl (t : Table) (p : Pru) : TableMove t p p := ⟨id, fun _ => id, fun _ => id, fun _ => id⟩

theorem TableMove.trans {t : Table} {p q r : Pru} (h : TableMove t p q) (k : TableMove t q r) : TableMove t p r where
  proper := k.proper ∘ h.proper
  masked e := h.masked e ∘ k.masked e
  coolant ht := k.coolant ht ∘ h.coolant ht
  intake ht := k.intake ht ∘ h.intake ht

/-- A move of each entry by itself, the percentages as they were. -/
theorem TableMove.of_entries {t : Table} {p q : Pru} (hp : ∀ e : Entry, (p.entry e).Proper e → (q.entry e).Proper e)
    (hm : ∀ e : Entry, (q.entry e).masked = true → (p.entry e).masked = true) (hc : q.coolantPct = p.coolantPct)
    (hi : q.intakePct = p.intakePct) : TableMove t p q :=
  ⟨fun h e => hp e (h e), hm, fun _ h => hc ▸ h, fun _ h => hi ▸ h⟩

/-- A move of one entry. -/
theorem tableMove_setEntry {t : Table} {p : Pru} {e : Entry} {r : EntryRec}
    (hp : (p.entry e).Proper e → r.Proper e) (hm : r.masked = true → (p.entry e).masked = true) :
    TableMove t p (p.setEntry e r) := by
  refine .of_entries (fun d => ?_) (fun d => ?_) rfl rfl <;> rw [Pru.entry_setEntry] <;> split
  · next h => subst h; exact hp
  · exact id
  · next h => subst h; exact hm
  · exact id

theorem tableMove_setCondition (t : Table) {e : Entry} (he : ¬IsEvent e) (v : Bool) (p : Pru) :
    TableMove t p (setCondition e v p) :=
  tableMove_setEntry (fun h => h.withCondition he v) (by cases v <;> simp)

/-- An event entry has no filter to expire (R76). -/
theorem tableMove_filterExpires (t : Table) {e : Entry} {p : Pru} (hf : (p.entry e).filter.isSome = true) :
    TableMove t p (setCondition e true p) := by
  by_cases he : IsEvent e
  · refine tableMove_setEntry (fun h => absurd (h.event he).2.2 ?_) (by simp)
    intro w
    simp [w] at hf
  · exact tableMove_setCondition t he true p

theorem tableMove_setFilter (t : Table) {e : Entry} {p : Pru} {f : Timer}
    (hf : f = none ∨ (p.entry e).condition = false ∧ ¬IsEvent e) :
    TableMove t p (p.setEntry e { p.entry e with filter := f }) :=
  tableMove_setEntry (fun h => h.withFilter f hf) id

theorem tableMove_withdrawCondition (t : Table) {e : Entry} (he : ¬IsEvent e) (p : Pru) :
    TableMove t p (withdrawCondition e p) :=
  (tableMove_setCondition t he false p).trans (tableMove_setFilter t (.inl rfl))

theorem tableMove_judge (t : Table) {e : Entry} (he : ¬IsEvent e) (a b : Bool) (f : Option Nat) (p : Pru) :
    TableMove t p (judge e a b f p) := by
  unfold judge
  dsimp only
  split
  · split
    · exact tableMove_setCondition t he false p
    · exact .refl t p
  · next hc =>
    rw [Bool.not_eq_true] at hc
    split
    · split
      · exact tableMove_setCondition t he true p
      · exact .refl t p
    · split
      · split
        · exact tableMove_setFilter t (.inr ⟨hc, he⟩)
        · exact .refl t p
      · exact tableMove_setFilter t (.inl rfl)

theorem tableMove_reportEvent (t : Table) {e : Entry} (he : IsEvent e) (p : Pru) : TableMove t p (reportEvent e p) := by
  unfold reportEvent
  dsimp only
  split
  · next hs => exact tableMove_setEntry (fun h => h.reported he hs) id
  · exact .refl t p

theorem tableMove_leaveService (t : Table) {e : Entry} {p : Pru} (hs : (p.entry e).state = .held) :
    TableMove t p (leaveService e p) :=
  tableMove_setEntry (fun h => h.left hs) id

/-- HELD entries returned to IDLE one after another (R92). -/
theorem tableMove_leaveAll (t : Table) {es : List Entry} {p : Pru} (hs : ∀ e ∈ es, (p.entry e).state = .held) :
    TableMove t p (leaveAll es p) := by
  obtain ⟨hc, hi⟩ := leaveAll_pct es p
  refine .of_entries (fun e => ?_) (fun e => ?_) hc hi <;> rw [leaveAll_entry] <;> split
  · next he => exact fun h => h.left (hs e he)
  · exact id
  · exact id
  · exact id

theorem tableMove_clearMask (t : Table) (e : Entry) (p : Pru) : TableMove t p (clearMask e p) :=
  tableMove_setEntry (fun h => h.unmask) (by simp)

theorem tableMove_unmaskAll (t : Table) (p : Pru) : TableMove t p (p.mapEntries EntryRec.unmasked) :=
  .of_entries (fun e h => by rw [Pru.entry_mapEntries]; exact h.unmask) (fun e h => by simp [Pru.entry_mapEntries] at h)
    rfl rfl

theorem tableMove_acknowledgeAll (t : Table) (p : Pru) : TableMove t p (p.mapEntries EntryRec.acknowledge) :=
  .of_entries (fun e h => by rw [Pru.entry_mapEntries]; exact h.acknowledge)
    (fun e h => by simpa [Pru.entry_mapEntries] using h) rfl rfl

/-- A derate percentage is at most 100 where its floor is (R87). -/
theorem deratePercent_le {start stop floorPct v : Int} (h : floorPct ≤ 100) :
    deratePercent start stop floorPct v ≤ 100 := by
  unfold deratePercent
  split
  · exact le_rfl
  · split
    · exact h
    · have hq : 0 ≤ (v - start) * (100 - floorPct) / (stop - start) :=
        Int.ediv_nonneg (Int.mul_nonneg (by omega) (by omega)) (by omega)
      omega

theorem Table.InRange.coolantFloor_le {t : Table} (h : t.InRange) : t.coolantFloor ≤ 100 := by
  obtain ⟨-, hi⟩ : 10 ≤ t.coolantFloor ∧ t.coolantFloor ≤ 99 := h 2 16 ⟨50, 10, 99⟩ rfl
  omega

theorem Table.InRange.intakeFloor_le {t : Table} (h : t.InRange) : t.intakeFloor ≤ 100 := by
  obtain ⟨-, hi⟩ : 10 ≤ t.intakeFloor ∧ t.intakeFloor ≤ 99 := h 2 20 ⟨70, 10, 99⟩ rfl
  omega

theorem not_isEvent_of_gt {e : Entry} (h : 5 < e.val) : ¬IsEvent e := by
  rintro (rfl | rfl | rfl) <;> exact absurd h (by decide)

theorem tableMove_pruValue (c : Channel) (s : State) (p : Pru) : TableMove s.cfg.active p (pruValue c s p) := by
  have j {e : Entry} (he : ¬IsEvent e) (a b : Bool) (f : Option Nat) (q : Pru) :
      TableMove s.cfg.active q (judge e a b f q) := tableMove_judge _ he a b f q
  unfold pruValue
  dsimp only
  cases c <;> dsimp only
  case lube =>
    split
    · exact j (by simp [IsEvent]) _ _ _ p
    · exact .refl _ p
  case coolant =>
    refine .trans (q := judge 10 _ _ none
      (if s.rsq.engine.runningFamily then judge 9 _ _ none (judge 6 _ _ _ p) else judge 6 _ _ _ p)) ?_
      ⟨id, fun _ => id, fun ht _ => deratePercent_le ht.coolantFloor_le, fun _ => id⟩
    refine .trans ?_ (j (by simp [IsEvent]) _ _ _ _)
    split
    · exact (j (by simp [IsEvent]) _ _ _ p).trans (j (by simp [IsEvent]) _ _ _ _)
    · exact j (by simp [IsEvent]) _ _ _ p
  case fuel =>
    split
    · exact j (by simp [IsEvent]) _ _ _ p
    · exact .refl _ p
  case battery => exact j (by simp [IsEvent]) _ _ _ p
  case intake =>
    exact (j (by simp [IsEvent]) _ _ _ p).trans
      ⟨id, fun _ => id, fun _ => id, fun ht _ => deratePercent_le ht.intakeFloor_le⟩
  case crankcase => exact j (by simp [IsEvent]) _ _ _ p

theorem tableMove_engineChanged (t : Table) (old new : Engine) (disarmed : Bool) (fuel coolant : Int) (p : Pru) :
    TableMove t p (p.engineChanged old new disarmed t fuel coolant) := by
  have hq : TableMove t p (if disarmed then withdrawCondition 4 p else p) := by
    split
    · exact tableMove_withdrawCondition t (by simp [IsEvent]) p
    · exact .refl t p
  unfold Pru.engineChanged
  dsimp only
  split
  · exact (hq.trans (tableMove_withdrawCondition t (by simp [IsEvent]) _)).trans
      (tableMove_withdrawCondition t (by simp [IsEvent]) _)
  · split
    · exact (hq.trans (tableMove_judge t (by simp [IsEvent]) _ _ _ _)).trans
        (tableMove_judge t (by simp [IsEvent]) _ _ _ _)
    · exact hq

theorem tableMove_windowReports (t : Table) (fault isOver isLost : Bool) (p : Pru) :
    TableMove t p (windowReports fault isOver isLost p) := by
  have h13 : TableMove t p (setCondition 13 fault p) := tableMove_setCondition t (by simp [IsEvent]) fault p
  have h1 : TableMove t p (if isOver then reportEvent 1 (setCondition 13 fault p) else setCondition 13 fault p) := by
    split
    · exact h13.trans (tableMove_reportEvent t (.inl rfl) _)
    · exact h13
  unfold windowReports
  dsimp only
  split
  · exact h1.trans (tableMove_reportEvent t (.inr (.inl rfl)) _)
  · exact h1

end Sys2Proof.Machine
end

section
/-! SUPPORT. The moves of NTU, and those that move a whole block, keep the laws (R87, R143 to R152). -/

namespace Sys2Proof.Machine

/-! ### PRU -/

/-- An event at the protection table, before it is handed on. -/
theorem keepsLaws_mapPru {f : Pru → Pru} {s : State} (h : TableMove s.cfg.active s.pru (f s.pru)) :
    KeepsLaws s (s.mapPru fun p => ringBell (f p)) where
  protection := by
    rw [protectionLaw_iff, protectionLaw_iff]
    exact h.proper
  bell _ := rfl
  load := fun ⟨h1, h2, h3, h4, h5, h6, h7⟩ => ⟨h1, h2, h3, h.coolant h3.1 h4, h.intake h3.1 h5, h6, h7⟩
  source := id
  service k := k.mono rfl .inl h.masked

/-- A mask set on an entry that may carry one, under SERVICE, or the trip count changed: the bell hears nothing of it
(R94, R95). -/
theorem keepsLaws_marks {s : State} (e : Entry) (m : Bool) (n : Nat)
    (hm : m = (s.pru.entry e).masked ∨ m = true ∧ 5 < e.val ∧ s.aut.holder = some .service) :
    KeepsLaws s (s.mapPru fun p => p.setEntry e { p.entry e with masked := m, tripCount := n }) where
  protection := by
    rw [protectionLaw_iff, protectionLaw_iff]
    intro h d
    rw [State.mapPru_pru, Pru.entry_setEntry]
    split
    · next hd =>
      subst hd
      exact (h d).marked m n (hm.imp_right fun ⟨w, k, _⟩ => ⟨w, k⟩)
    · exact h d
  bell h := by
    have hw : (s.pru.setEntry e { s.pru.entry e with masked := m, tripCount := n }).bellWanted =
        s.pru.bellWanted := by
      unfold Pru.bellWanted
      congr 1
      funext d
      rw [Pru.entry_setEntry]
      split
      · next hd => subst hd; rfl
      · rfl
    exact h.trans hw.symm
  load := LoadHeld.congr rfl rfl rfl rfl rfl
  source := id
  service h := by
    rcases hm with hm | ⟨-, -, hm⟩
    · refine h.mono rfl .inl fun d hd => ?_
      rw [State.mapPru_pru, Pru.entry_setEntry] at hd
      split at hd
      · next hde => subst hde; exact hm ▸ hd
      · exact hd
    · exact serviceLaw_of_service hm

/-! ### NTU -/

/-- What moves NTU alone keeps the laws if it keeps that of the load reference. -/
theorem keepsLaws_mapNtu {f : Ntu → Ntu} {s : State} (h : LoadHeld s → LoadHeld (s.mapNtu f)) :
    KeepsLaws s (s.mapNtu f) :=
  ⟨id, id, h, id, id⟩

/-- E, the governor, and the load taken off: nothing that the law of the load reference holds moves up. -/
theorem keepsLaws_refreshE (s : State) : KeepsLaws s (refreshE s) :=
  keepsLaws_mapNtu fun ⟨h1, h2, h3, h4, h5, h6, h7⟩ => ⟨h1, h2, h3, h4, h5, h6, h7⟩

theorem keepsLaws_refreshGovernor (s : State) : KeepsLaws s (refreshGovernor s) := by
  unfold refreshGovernor
  dsimp only
  split
  · exact .refl s
  · exact keepsLaws_mapNtu fun ⟨h1, h2, h3, h4, h5, h6, h7⟩ => ⟨h1, h2, h3, h4, h5, h6, h7⟩

theorem keepsLaws_refreshPermit (s : State) : KeepsLaws s (refreshPermit s) := by
  unfold refreshPermit
  (repeat' split) <;> try exact .refl s
  · exact keepsLaws_mapNtu fun ⟨h1, _, h3, h4, h5, _, _⟩ =>
      ⟨h1, fun _ => ⟨rfl, rfl, rfl⟩, h3, h4, h5, Nat.zero_le _, Nat.zero_le _⟩
  · exact keepsLaws_mapNtu fun ⟨h1, _, h3, h4, h5, _, _⟩ =>
      ⟨h1, fun _ => ⟨rfl, rfl, rfl⟩, h3, h4, h5, Nat.zero_le _, Nat.zero_le _⟩

theorem keepsLaws_refreshLowIdle (s : State) : KeepsLaws s (refreshLowIdle s) := by
  unfold refreshLowIdle
  (repeat' split) <;> try exact .refl s
  · refine keepsLaws_mapNtu fun ⟨⟨h8, h0⟩, h2, h3, h4, h5, h6, h7⟩ => ⟨⟨h8, fun w => ?_⟩, h2, h3, h4, h5, h6, h7⟩
    obtain ⟨ha, -, hd, hu⟩ := h0 w
    exact ⟨ha, rfl, hd, hu⟩
  · next h =>
    refine keepsLaws_mapNtu fun ⟨⟨h8, h0⟩, h2, h3, h4, h5, h6, h7⟩ => ⟨⟨h8, fun w => ?_⟩, h2, h3, h4, h5, h6, h7⟩
    obtain ⟨-, hr, -⟩ := h
    exact absurd w (by simp [hr, Engine.runningFamily])

theorem keepsLaws_judgeIdle (s : State) : KeepsLaws s (judgeIdle s) := by
  unfold judgeIdle
  (repeat' split) <;> first | exact .refl s | exact keepsLaws_mapIru _ s

theorem keepsLaws_settleInputs (s : State) : KeepsLaws s (settleInputs s) :=
  (((keepsLaws_refreshE s).trans (keepsLaws_refreshPermit _)).trans (keepsLaws_judgeIdle _)).trans
    (keepsLaws_refreshLowIdle _)

theorem keepsLaws_idleDownJump (s : State) : KeepsLaws s (idleDownJump s) := by
  refine .trans ?_ (keepsLaws_refreshGovernor _)
  refine keepsLaws_mapNtu fun ⟨⟨_, h0⟩, _, h3, h4, h5, _, _⟩ =>
    ⟨⟨Nat.zero_le _, fun w => ?_⟩, fun _ => ⟨rfl, rfl, rfl⟩, h3, h4, h5, Nat.zero_le _, Nat.zero_le _⟩
  obtain ⟨-, hl, -, hu⟩ := h0 w
  exact ⟨rfl, hl, rfl, hu⟩

/-- The loads rise up to the load of notch 8, which LOAD MAX covers. -/
theorem Table.LoadsRise.mono {t : Table} (h : t.LoadsRise) {p q : Nat} (hpq : p ≤ q) (hq : q ≤ 8) :
    t.loadAt p ≤ t.loadAt q := by
  induction q, hpq using Nat.le_induction with
  | base => exact le_rfl
  | succ q _ ih => exact (ih (by omega)).trans (h.1 q (by omega))

theorem Table.LoadsRise.le_loadMax {t : Table} (h : t.LoadsRise) {p : Nat} (hp : p ≤ 8) : t.loadAt p ≤ t.loadMax :=
  (h.mono hp le_rfl).trans h.2

/-- One test of the step channel with E at most 8: up, the load reference stays below the higher notch's load; down, the
gate has waited until it is below the lower one's (R144). -/
theorem keepsLaws_stepChannel {s : State} (he : s.ntu.e ≤ 8) : KeepsLaws s (stepChannel s) := by
  unfold stepChannel
  dsimp only
  split
  · next hu =>
    simp only [upStepOpen, Bool.and_eq_true, decide_eq_true_eq] at hu
    obtain ⟨⟨⟨⟨hr, -⟩, ha⟩, -⟩, -⟩ := hu
    refine keepsLaws_mapNtu fun ⟨⟨_, _⟩, h2, h3, h4, h5, h6, h7⟩ =>
      ⟨⟨?_, fun w => absurd w (by simp [hr, Engine.runningFamily])⟩, h2, h3, h4, h5, ?_, h7⟩
    · simp only [State.mapNtu_ntu]
      omega
    · exact h6.trans (h3.2.2.2.1.1 s.ntu.applied (by omega))
  · split
    · next hd =>
      simp only [downStepOpen, Bool.and_eq_true, decide_eq_true_eq] at hd
      obtain ⟨⟨hw, -⟩, hl⟩ := hd
      refine keepsLaws_mapNtu fun ⟨⟨h8, _⟩, h2, h3, h4, h5, _, h7⟩ =>
        ⟨⟨(Nat.sub_le _ _).trans h8, fun w => ?_⟩, h2, h3, h4, h5, hl, h7⟩
      have hf : s.rsq.engine.runningFamily = true := by
        unfold downDwellOpen at hw
        split at hw <;> simp_all [Engine.runningFamily]
      exact absurd (hf.symm.trans w) (by decide)
    · exact .refl s

/-- The percentage that NTU takes of a load is at most 100 (R87). -/
theorem LoadHeld.deratePct_le {s : State} (h : LoadHeld s) : s.pru.deratePct ≤ 100 := by
  have hc := h.coolant
  unfold Pru.deratePct
  split <;> omega

/-- The load target is within the load of the applied notch (R151, R152). -/
theorem LoadHeld.loadTargetNow_le {s : State} (h : LoadHeld s) :
    loadTargetNow s ≤ s.cfg.active.loadAt s.ntu.applied := by
  obtain ⟨h8, -⟩ := h.notch
  obtain ⟨-, -, -, hrise, -⟩ := h.tables
  unfold loadTargetNow
  split
  · extract_lets q
    have hq : q ≤ s.ntu.applied := (min_le_left _ _).trans (min_le_left _ _)
    have hload := hrise.mono hq h8
    have hpct := h.deratePct_le
    have hmul : (s.cfg.active.loadAt q : Int) * s.pru.deratePct ≤ (s.cfg.active.loadAt q : Int) * 100 :=
      Int.mul_le_mul_of_nonneg_left hpct (by omega)
    omega
  · exact Nat.zero_le _

/-- A ramp goes no further than its target or where it stood. -/
theorem ramped_le {t : Table} {target ref n : Nat} (ht : target ≤ n) (hr : ref ≤ n) : ramped t target ref ≤ n := by
  unfold ramped
  split
  · exact (min_le_left _ _).trans ht
  · split
    · exact max_le ht ((Nat.sub_le _ _).trans hr)
    · exact hr

theorem keepsLaws_rampLoad (s : State) : KeepsLaws s (rampLoad s) := by
  unfold rampLoad
  refine keepsLaws_mapNtu fun h => ?_
  have hle : ramped s.cfg.active (loadTargetNow s) s.ntu.loadRef ≤ s.cfg.active.loadAt s.ntu.applied :=
    ramped_le h.loadTargetNow_le h.ofNotch
  refine ⟨h.notch, fun w => ?_, h.tables, h.coolant, h.intake, hle, hle.trans ?_⟩
  · obtain ⟨-, hr, -⟩ := h.off w
    have ht : loadTargetNow s = 0 := by
      have hw : s.ntu.loadPermit = false := w
      simp [loadTargetNow, hw]
    simp [ht, hr, ramped, excitationRefOf, perMille]
  · exact h.tables.2.2.2.1.le_loadMax h.notch.1

/-- The dwell stopped, and the unload-complete report, which is made in UNLOADING (R142, R148). -/
theorem keepsLaws_stopDwell (s : State) : KeepsLaws s (s.mapNtu fun n => { n with dwell := none }) := by
  refine keepsLaws_mapNtu fun ⟨⟨h8, h0⟩, h2, h3, h4, h5, h6, h7⟩ => ⟨⟨h8, fun w => ?_⟩, h2, h3, h4, h5, h6, h7⟩
  obtain ⟨ha, hl, -, hu⟩ := h0 w
  exact ⟨ha, hl, rfl, hu⟩

theorem keepsLaws_noteUnloaded {s : State} (he : s.rsq.engine = .unloading) :
    KeepsLaws s (s.mapNtu fun n => { n with unloadReported := true }) :=
  keepsLaws_mapNtu fun ⟨⟨h8, _⟩, h2, h3, h4, h5, h6, h7⟩ =>
    ⟨⟨h8, fun w => absurd w (by simp [he, Engine.runningFamily])⟩, h2, h3, h4, h5, h6, h7⟩

/-! ### A change of engine state -/

theorem loadHeld_changeEngine (new : Engine) {s : State} (h : LoadHeld s) : LoadHeld (changeEngine new s) := by
  obtain ⟨⟨h8, h0⟩, h2, h3, h4, h5, h6, h7⟩ := h
  have hcfg : (changeEngine new s).cfg = s.cfg := by simp
  have hn := changeEngine_ntu new s
  refine ⟨⟨?_, fun w => ?_⟩, ?_, ?_, by simpa using h4, by simpa using h5, ?_, ?_⟩
  · rw [hn]
    unfold Ntu.engineChanged
    (repeat' split) <;> simp [h8]
  · rw [changeEngine_engine] at w
    rw [hn]
    unfold Ntu.engineChanged
    cases ho : s.rsq.engine.runningFamily with
    | true => simp [w]
    | false =>
      have hnew : new ≠ .running := by rintro rfl; cases w
      simpa [hnew] using h0 ho
  · rw [hn]
    unfold Ntu.engineChanged dropLoad
    (repeat' split) <;> simp_all
  · simpa only [TableLaw, hcfg] using h3
  · rw [hn, hcfg]
    unfold Ntu.engineChanged dropLoad
    (repeat' split) <;> simp_all
  · rw [hn, hcfg]
    unfold Ntu.engineChanged dropLoad
    (repeat' split) <;> simp_all

/-- A claim outcome says nothing that the law of the sources holds. -/
theorem FramedSource.Lawful.congr {f g : FramedSource} (h : f.Lawful) (hl : g.linkState = f.linkState)
    (he : g.envelope = f.envelope) (hd : g.demand = f.demand) (hr : g.run = f.run) (hm : g.limited = f.limited)
    (hf : g.fresh = f.fresh ∨ g.fresh = false) (ht : g.freshness = f.freshness) : g.Lawful := by
  obtain ⟨h1, h2, h3, h4⟩ := h
  have hx : g.maxNotch = f.maxNotch := by simp only [FramedSource.maxNotch, he]
  refine ⟨by rw [hl, he]; exact h1, fun w => ?_, by rw [hd, hx]; exact h3, by rw [hx]; exact h4⟩
  obtain ⟨k1, k2, k3, k4, k5⟩ := h2 (he ▸ w)
  exact ⟨hd.trans k1, hr.trans k2, hm.trans k3, hf.elim (·.trans k4) id, ht.trans k5⟩

/-- One source's entry that stays lawful. -/
theorem sourceLaw_setSource {s t : State} (l : Link) {f : FramedSource} (h : SourceLaw s)
    (ha : ∀ k, t.aut.source k = (s.aut.setSource l f).source k) (hf : (s.aut.source l).Lawful → f.Lawful) :
    SourceLaw t := by
  intro k
  rw [ha]
  by_cases hk : k = l
  · subst hk
    rw [Aut.source_setSource_same]
    exact hf (h k)
  · rw [Aut.source_setSource_other _ _ hk]
    exact h k

theorem sourceLaw_outcome {s t : State} (l : Link) (o : ClaimOutcome) (h : SourceLaw s)
    (ha : ∀ k, t.aut.source k = (s.aut.setSource l { s.aut.source l with outcome := o }).source k) : SourceLaw t :=
  sourceLaw_setSource l h ha fun w => w.congr rfl rfl rfl rfl rfl (.inl rfl) rfl

/-- RSQ's own operations move no force. -/
theorem MovesEngine.forcesActive {s t : State} (h : MovesEngine s t) : forcesActive t = forcesActive s := by
  rw [Bool.eq_iff_iff, forcesActive_iff, forcesActive_iff, h.sameInputs.forcesOf]

theorem keepsLaws_changeEngine (new : Engine) (s : State) : KeepsLaws s (changeEngine new s) where
  protection := by
    rw [protectionLaw_iff, protectionLaw_iff, changeEngine_pru]
    exact (tableMove_engineChanged _ _ _ _ _ _ _).proper
  bell _ := bellLaw_changeEngine new s
  load := loadHeld_changeEngine new
  source h := by
    rw [SourceLaw, changeEngine_aut]
    split
    · exact sourceLaw_outcome (t := { s with aut := s.aut.ended .service .refused }) .service .refused h fun k => by
        cases k <;> rfl
    · exact h
  service h := by
    refine h.mono (by simp) (fun w => .inl ?_) ?_
    · rwa [(movesEngine_changeEngine new s).forcesActive] at w
    · rw [changeEngine_pru]
      exact (tableMove_engineChanged _ _ _ _ _ _ _).masked

end Sys2Proof.Machine
end

section
/-! SUPPORT. Every operation of Ops.lean, and the arrivals of values, windows and times, keep the laws of the protection
table, of the load reference, and of sources, forces and masks. -/

namespace Sys2Proof.Machine

/-! ### Coming to rest, and starting (R3, R6, R7, R23, R27) -/

theorem keepsLaws_enterRundown (s : State) : KeepsLaws s (enterRundown s) :=
  (keepsLaws_changeEngine _ s).trans (keepsLaws_mapTimers _ _)

theorem keepsLaws_enterPrelube (s : State) : KeepsLaws s (enterPrelube s) :=
  (keepsLaws_changeEngine _ s).trans (keepsLaws_mapTimers _ _)

theorem keepsLaws_acceptStart (k : StartKind) (s : State) : KeepsLaws s (acceptStart k s) := by
  unfold acceptStart
  exact ((keepsLaws_mapRsq _ s rfl).trans (keepsLaws_mapIru _ _)).trans (keepsLaws_enterPrelube _)

theorem keepsLaws_noteRefusal (why : Reason) (s : State) : KeepsLaws s (noteRefusal why s) := keepsLaws_mapRsq _ s rfl

theorem keepsLaws_noteRestart (s : State) : KeepsLaws s (noteRestart s) := by
  unfold noteRestart
  split
  · exact keepsLaws_mapRsq _ s rfl
  · exact .refl s

theorem keepsLaws_handRestartTrigger (s : State) : KeepsLaws s (handRestartTrigger s) :=
  (keepsLaws_mapIru _ s).trans (keepsLaws_noteRestart _)

theorem keepsLaws_autoRestart (s : State) : KeepsLaws s (autoRestart s) := by
  unfold autoRestart
  split
  · split
    · exact keepsLaws_acceptStart _ s
    · exact ((keepsLaws_noteRefusal _ s).trans (keepsLaws_changeEngine _ _)).trans (keepsLaws_mapIru _ _)
  · exact keepsLaws_noteRestart s
  · exact .refl s

theorem keepsLaws_comeToRest (s : State) : KeepsLaws s (comeToRest s) := by
  have h : KeepsLaws s ((changeEngine (restState s) s).mapRsq fun r => { r with restartPending := false }) :=
    (keepsLaws_changeEngine _ s).trans (keepsLaws_mapRsq _ _ rfl)
  unfold comeToRest
  dsimp only
  split
  · exact h.trans (keepsLaws_autoRestart _)
  · exact h

theorem keepsLaws_toRest (s : State) : KeepsLaws s (toRest s) := by
  unfold toRest
  split
  · exact keepsLaws_enterRundown s
  · exact keepsLaws_comeToRest s

/-! ### An event at the protection table, handed on (R25, R26, R77, R85) -/

theorem keepsLaws_setStopCause (c : StopCause) (s : State) : KeepsLaws s (setStopCause c s) := by
  unfold setStopCause
  dsimp only
  split
  · exact (keepsLaws_mapRsq _ s rfl).trans (keepsLaws_mapIru _ _)
  · exact keepsLaws_mapRsq _ s rfl

theorem keepsLaws_cutAttempt (o : CrankOutcome) (s : State) : KeepsLaws s (cutAttempt o s) := by
  unfold cutAttempt
  split
  · exact keepsLaws_mapRsq _ s rfl
  · exact keepsLaws_mapRsq _ s rfl
  · exact .refl s

theorem keepsLaws_stopByProtection (s : State) : KeepsLaws s (stopByProtection s) := by
  unfold stopByProtection
  split
  · exact .refl s
  · exact keepsLaws_setStopCause _ s

theorem keepsLaws_noteProtection (s : State) : KeepsLaws s (noteProtection s) := by
  unfold noteProtection
  split
  · exact keepsLaws_mapRsq _ s rfl
  · exact .refl s

theorem keepsLaws_takeShutdown (s : State) : KeepsLaws s (takeShutdown s) := by
  unfold takeShutdown
  (repeat' split) <;> try exact .refl s
  · exact keepsLaws_changeEngine _ s
  · exact keepsLaws_changeEngine _ s
  · exact (keepsLaws_stopByProtection s).trans (keepsLaws_mapRsq _ _ rfl)
  · exact (((keepsLaws_cutAttempt _ s).trans (keepsLaws_noteProtection _)).trans (keepsLaws_stopByProtection _)).trans
      (keepsLaws_toRest _)

theorem keepsLaws_takeLastLeft (s : State) : KeepsLaws s (takeLastLeft s) := by
  unfold takeLastLeft
  (repeat' split) <;> try exact .refl s
  exact (keepsLaws_changeEngine _ s).trans (keepsLaws_mapRsq _ _ rfl)

theorem keepsLaws_handOff (before : Pru) (s : State) : KeepsLaws s (handOff before s) :=
  handOff_cases before s (KeepsLaws s) (fun u h => h.trans (keepsLaws_idleDownJump u))
    (fun _ => keepsLaws_takeShutdown s) (fun _ _ => keepsLaws_takeLastLeft s) fun _ => .refl s

theorem keepsLaws_pruEvent {f : Pru → Pru} {s : State} (h : TableMove s.cfg.active s.pru (f s.pru)) :
    KeepsLaws s (pruEvent f s) :=
  (keepsLaws_mapPru h).trans (keepsLaws_handOff _ _)

/-! ### The ways a start goes on and ends (R8 to R18) -/

theorem keepsLaws_abandonStart (why : Reason) (s : State) : KeepsLaws s (abandonStart why s) :=
  (keepsLaws_mapRsq _ s rfl).trans (keepsLaws_toRest _)

theorem keepsLaws_failStart (result : StartResult) (s : State) : KeepsLaws s (failStart result s) :=
  (keepsLaws_mapRsq _ s rfl).trans (keepsLaws_pruEvent (tableMove_reportEvent _ (.inr (.inr rfl)) _))

theorem keepsLaws_beginCranking (s : State) : KeepsLaws s (beginCranking s) := by
  unfold beginCranking
  exact ((keepsLaws_mapRsq _ s rfl).trans (keepsLaws_changeEngine _ _)).trans (keepsLaws_mapRsq _ _ rfl)

theorem keepsLaws_enterCranking (s : State) : KeepsLaws s (enterCranking s) := by
  unfold enterCranking
  split
  · exact keepsLaws_abandonStart _ s
  · exact keepsLaws_beginCranking s

theorem keepsLaws_enterPriming (s : State) : KeepsLaws s (enterPriming s) := by
  have h : KeepsLaws s ((changeEngine .priming s).mapTimers
      fun x => { x with prime := some (tenthsMs s.cfg.active.primeLimit) }) :=
    (keepsLaws_changeEngine _ s).trans (keepsLaws_mapTimers _ _)
  unfold enterPriming
  dsimp only
  split
  · exact h.trans (keepsLaws_enterCranking _)
  · exact h

theorem keepsLaws_failAttempt (s : State) : KeepsLaws s (failAttempt s) :=
  (keepsLaws_changeEngine _ s).trans (keepsLaws_mapRsq _ _ rfl)

theorem keepsLaws_endAttempt (o : CrankOutcome) (tenths : Nat) (s : State) : KeepsLaws s (endAttempt o tenths s) :=
  (keepsLaws_mapRsq _ s rfl).trans (keepsLaws_failAttempt _)

theorem keepsLaws_endRest (s : State) : KeepsLaws s (endRest s) := by
  unfold endRest
  split
  · exact (keepsLaws_mapRsq _ s rfl).trans (keepsLaws_enterCranking _)
  · exact keepsLaws_failStart _ s

/-! ### Stop and start requests at RSQ (R19 to R27) -/

theorem keepsLaws_beginUnloading (c : StopCause) (s : State) : KeepsLaws s (beginUnloading c s) :=
  ((keepsLaws_setStopCause c s).trans (keepsLaws_changeEngine _ _)).trans (keepsLaws_mapTimers _ _)

theorem keepsLaws_cancelStop (s : State) : KeepsLaws s (cancelStop s) :=
  (keepsLaws_changeEngine _ s).trans (keepsLaws_mapRsq _ _ rfl)

/-- A start in progress is stopped in the same way in every state of the start sequence. -/
theorem keepsLaws_stoppedStart (s : State) : KeepsLaws s
    (toRest ((setStopCause .command (cutAttempt .command s)).mapRsq fun r =>
      { r with startResult := .stoppedByCommand })) :=
  (((keepsLaws_cutAttempt _ s).trans (keepsLaws_setStopCause _ _)).trans (keepsLaws_mapRsq _ _ rfl)).trans
    (keepsLaws_toRest _)

theorem keepsLaws_holderStop (s : State) : KeepsLaws s (holderStop s) := by
  unfold holderStop
  cases s.rsq.engine <;> dsimp only
  case prelube | priming | cranking | crankRest | accelerating => exact keepsLaws_stoppedStart s
  case running => exact keepsLaws_beginUnloading _ s
  case unloading => exact keepsLaws_setStopCause _ s
  case rundown =>
    have h : KeepsLaws s (s.mapRsq fun r => { r with restartPending := false }) := keepsLaws_mapRsq _ s rfl
    split
    · exact h.trans (keepsLaws_setStopCause _ _)
    · exact h
  case autoStopped => exact (keepsLaws_changeEngine _ s).trans (keepsLaws_mapRsq _ _ rfl)
  case stopped | lockedOut => exact .refl s

theorem keepsLaws_holderStart (s : State) : KeepsLaws s (holderStart s).1 := by
  unfold holderStart
  cases s.rsq.engine <;> dsimp only
  case stopped | autoStopped =>
    split
    · exact keepsLaws_acceptStart _ s
    · exact keepsLaws_noteRefusal _ s
  case unloading => exact keepsLaws_cancelStop s
  all_goals exact .refl s

theorem keepsLaws_autoStop (s : State) : KeepsLaws s (autoStop s) := by
  unfold autoStop
  split
  · exact keepsLaws_beginUnloading _ s
  · exact .refl s

theorem keepsLaws_autoStopCancel (s : State) : KeepsLaws s (autoStopCancel s) := by
  unfold autoStopCancel
  split
  · exact keepsLaws_cancelStop s
  · exact .refl s

theorem keepsLaws_fuelOff (s : State) : KeepsLaws s (fuelOff s) := by
  refine .trans (t := fuelOffNoted s) ?_ ?_
  · unfold fuelOffNoted
    split
    · exact .of_same rfl rfl rfl rfl rfl rfl rfl
    · exact .refl s
  · rw [fuelOff_eq]
    exact keepsLaws_enterRundown _

/-! ### IRU's arrivals (R159, R161 to R163) -/

theorem keepsLaws_watchTrigger (s : State) : KeepsLaws s (watchTrigger s) := by
  unfold watchTrigger
  split
  · exact (keepsLaws_mapIru _ s).trans (keepsLaws_autoRestart _)
  · exact .refl s

theorem keepsLaws_demandArrival (notch : Nat) (run : RunRequest) (s : State) :
    KeepsLaws s (demandArrival notch run s) := by
  unfold demandArrival
  (repeat' split) <;> try exact .refl s
  · exact (keepsLaws_mapIru _ s).trans (keepsLaws_autoStopCancel _)
  · exact keepsLaws_handRestartTrigger s
  · exact keepsLaws_watchTrigger s

/-! ### The end of an event (R141 to R149) -/

theorem effectiveNotch_le (s : State) : effectiveNotch s ≤ 8 := by
  unfold effectiveNotch
  split
  · exact Nat.zero_le _
  · dsimp only
    (repeat' split) <;> omega

theorem keepsLaws_reportUnload (s : State) : KeepsLaws s (reportUnload s) := by
  unfold reportUnload
  split
  · next h => exact (keepsLaws_noteUnloaded h.1).trans (keepsLaws_fuelOff _)
  · exact .refl s

theorem keepsLaws_settle (s0 : State) (test : Bool) (s : State) : KeepsLaws s (settle s0 test s) := by
  obtain ⟨x, hx, h⟩ := settle_form s0 test s
  have hk : KeepsLaws s x := by
    rcases h with rfl | rfl
    · exact .refl _
    · exact (keepsLaws_settleInputs s).trans (keepsLaws_stepChannel (by simpa using effectiveNotch_le s))
  rw [hx]
  exact ((hk.trans (keepsLaws_settleInputs x)).trans (keepsLaws_refreshGovernor _)).trans (keepsLaws_reportUnload _)

theorem keepsLaws_rejudgeAttn (s : State) : KeepsLaws s (rejudgeAttn s) := .of_same rfl rfl rfl rfl rfl rfl rfl

theorem permitLaw_settle (s0 : State) (test : Bool) (s : State) : PermitLaw (settle s0 test s) :=
  (settled_finish s0 test s).2.1

/-! ### Values and windows -/

theorem keepsLaws_rsqValue (c : Channel) (s : State) : KeepsLaws s (rsqValue c s) := by
  unfold rsqValue
  dsimp only
  (repeat' split) <;> try exact .refl s
  · exact keepsLaws_enterPriming s
  · exact keepsLaws_enterCranking s
  · exact keepsLaws_mapRsq _ s rfl

theorem keepsLaws_iruValue (c : Channel) (s : State) : KeepsLaws s (iruValue c s) := by
  unfold iruValue coolantTrigger batteryWatch
  (repeat' split) <;> try exact .refl s
  · exact keepsLaws_handRestartTrigger s
  · exact keepsLaws_watchTrigger s
  all_goals exact keepsLaws_mapIru _ s

theorem keepsLaws_handOn (c : Channel) (s : State) : KeepsLaws s (handOn c s) :=
  ((keepsLaws_rsqValue c s).trans (keepsLaws_pruEvent (tableMove_pruValue c _ _))).trans (keepsLaws_iruValue c _)

theorem keepsLaws_reportSensorRange (s : State) : KeepsLaws s (reportSensorRange s) :=
  keepsLaws_pruEvent (tableMove_setCondition _ (by simp [IsEvent]) _ _)

theorem keepsLaws_crankingThresholds (s : State) : KeepsLaws s (crankingThresholds s) := by
  unfold crankingThresholds
  (repeat' split) <;> try exact .refl s
  · unfold fireAttempt
    exact ((keepsLaws_mapRsq _ s rfl).trans (keepsLaws_changeEngine _ _)).trans (keepsLaws_mapTimers _ _)
  · exact keepsLaws_mapRsq _ s rfl

theorem keepsLaws_acceleratingWindow (s : State) : KeepsLaws s (acceleratingWindow s) := by
  unfold acceleratingWindow
  split
  · exact (keepsLaws_mapRsq _ s rfl).trans (keepsLaws_changeEngine _ _)
  · exact keepsLaws_mapTimers _ s

theorem keepsLaws_rsqWindow (s : State) : KeepsLaws s (rsqWindow s) := by
  cases hc : s.cfg.checking with
  | true => simpa [rsqWindow, hc] using KeepsLaws.refl s
  | false =>
    have h : KeepsLaws s (runCounted s) := by
      unfold runCounted
      split
      · exact keepsLaws_mapRsq _ s rfl
      · exact .refl s
    rw [rsqWindow_eq hc]
    cases s.rsq.engine <;> dsimp only
    case cranking => exact (h.trans (keepsLaws_mapRsq _ _ rfl)).trans (keepsLaws_crankingThresholds _)
    case accelerating => exact h.trans (keepsLaws_acceleratingWindow _)
    case crankRest => exact h.trans (keepsLaws_mapRsq _ _ rfl)
    case rundown => exact h.trans (keepsLaws_mapTimers _ _)
    all_goals exact h

/-! ### The trainline, discrete inputs, and forces -/

/-- What moves the trainline's entry alone; a force is put on the wire set only under SERVICE (R117). -/
theorem keepsLaws_mapTrainline (t : Trainline) (s : State)
    (hf : t.forced.isSome = true → s.aut.trainline.forced.isSome = true ∨ s.aut.holder = some .service) :
    KeepsLaws s (s.mapAut fun a => { a with trainline := t }) := by
  refine .of_calm rfl rfl rfl rfl rfl (fun h => h.congr fun l => by cases l <;> rfl) fun h => ?_
  rw [forcesActive_iff] at h ⊢
  rcases h with h | h | h | h
  · exact .inl (.inl h)
  · exact .inl (.inr (.inl h))
  · exact .inl (.inr (.inr (.inl h)))
  · exact (hf h).imp_left fun w => .inr (.inr (.inr w))

theorem keepsLaws_trainlineChange (f : Trainline → Trainline) (s : State)
    (hf : (f s.aut.trainline).forced.isSome = true →
      s.aut.trainline.forced.isSome = true ∨ s.aut.holder = some .service) : KeepsLaws s (trainlineChange f s) :=
  (keepsLaws_mapTrainline (f s.aut.trainline).refreshEffective s hf).trans
    (keepsLaws_pruEvent (tableMove_setCondition _ (e := 15) (by simp [IsEvent]) _ _))

theorem keepsLaws_discreteChanged (d : Discrete) (v : Bool) (s : State) : KeepsLaws s (discreteChanged d v s) := by
  unfold discreteChanged
  cases d <;> dsimp only
  case emergencyStop => exact keepsLaws_pruEvent (tableMove_setCondition _ (by simp [IsEvent]) _ _)
  case groundRelay => exact keepsLaws_pruEvent (tableMove_judge _ (by simp [IsEvent]) _ _ _ _)
  case turningGear => exact .refl s
  case starterEngaged =>
    split
    · exact keepsLaws_mapTimers _ s
    · exact .refl s

/-- A discrete input whose force stays, goes, or is put on under SERVICE. -/
theorem keepsLaws_mapDiscrete (d : Discrete) (f : DiscreteRec → DiscreteRec) (s : State)
    (hf : (f (s.ins.discrete d)).forced.isSome = true →
      (s.ins.discrete d).forced.isSome = true ∨ s.aut.holder = some .service) : KeepsLaws s (s.mapDiscrete d f) := by
  refine keepsLaws_inputs rfl rfl rfl rfl rfl fun h => ?_
  rw [forcesActive_iff] at h ⊢
  rcases h with h | ⟨c, h⟩ | ⟨k, h⟩ | h
  · exact .inl (.inl h)
  · exact .inl (.inr (.inl ⟨c, by simpa [forcesOf] using h⟩))
  · by_cases hk : k = d
    · subst hk
      exact (hf (by simpa [forcesOf] using h)).imp_left fun w => .inr (.inr (.inl ⟨k, w⟩))
    · exact .inl (.inr (.inr (.inl ⟨k, by simpa [forcesOf, Ins.discrete_setDiscrete_other _ _ hk] using h⟩)))
  · exact .inl (.inr (.inr (.inr h)))

/-- An analog channel whose force stays, goes, or is put on under SERVICE. -/
theorem keepsLaws_mapChannel (c : Channel) (f : ChannelRec → ChannelRec) (s : State)
    (hf : (f (s.ins.channel c)).forced.isSome = true →
      (s.ins.channel c).forced.isSome = true ∨ s.aut.holder = some .service) : KeepsLaws s (s.mapChannel c f) := by
  refine keepsLaws_inputs rfl rfl rfl rfl rfl fun h => ?_
  rw [forcesActive_iff] at h ⊢
  rcases h with h | ⟨k, h⟩ | ⟨d, h⟩ | h
  · exact .inl (.inl h)
  · by_cases hk : k = c
    · subst hk
      exact (hf (by simpa [forcesOf] using h)).imp_left fun w => .inr (.inl ⟨k, w⟩)
    · exact .inl (.inr (.inl ⟨k, by simpa [forcesOf, Ins.channel_setChannel_other _ _ hk] using h⟩))
  · exact .inl (.inr (.inr (.inl ⟨d, by simpa [forcesOf] using h⟩)))
  · exact .inl (.inr (.inr (.inr h)))

/-- SPD moved, its force staying, going, or put on under SERVICE. -/
theorem keepsLaws_spd {s t : State} (hr : t.rsq = s.rsq) (hi : t.ins = s.ins) (hp : t.pru = s.pru) (ha : t.aut = s.aut)
    (hn : t.ntu = s.ntu) (hc : t.cfg = s.cfg)
    (hf : t.spd.force.isSome = true → s.spd.force.isSome = true ∨ s.aut.holder = some .service) : KeepsLaws s t := by
  refine keepsLaws_inputs hr hp ha hn hc fun h => ?_
  rw [forcesActive_iff] at h ⊢
  simp only [forcesOf, hi, ha] at h ⊢
  rcases h with h | h
  · exact (hf h).imp_left .inl
  · exact .inl (.inr h)

theorem keepsLaws_forceSpeed (v : Option Nat) (s : State) (hv : v.isSome = true → s.aut.holder = some .service) :
    KeepsLaws s (forceSpeed v s) :=
  keepsLaws_spd rfl rfl rfl rfl rfl rfl fun h => .inr (hv h)

theorem keepsLaws_forceChannel (c : Channel) (v : Option Int) (s : State)
    (hv : v.isSome = true → s.aut.holder = some .service) : KeepsLaws s (forceChannel c v s) :=
  keepsLaws_mapChannel c _ s fun h => .inr (hv h)

theorem keepsLaws_forceDiscrete (d : Discrete) (v : Option Bool) (s : State)
    (hv : v.isSome = true → s.aut.holder = some .service) : KeepsLaws s (forceDiscrete d v s) := by
  have h : KeepsLaws s (s.mapDiscrete d fun r => { r with forced := v }) :=
    keepsLaws_mapDiscrete d _ s fun h => .inr (hv h)
  unfold forceDiscrete
  dsimp only
  split
  · exact h
  · exact h.trans (keepsLaws_discreteChanged _ _ _)

theorem keepsLaws_forceWires (v : Option WireLevels) (s : State)
    (hv : v.isSome = true → s.aut.holder = some .service) : KeepsLaws s (forceWires v s) :=
  keepsLaws_trainlineChange _ s fun h => .inr (hv (by
    rwa [Trainline.withForce, levelsChanged_forced] at h))

theorem keepsLaws_releaseInputs (s : State) : KeepsLaws s (releaseInputs s) := by
  have hn {α : Type} {u : State} : (none : Option α).isSome = true → u.aut.holder = some .service := by simp
  have hc (c : Channel) (u : State) : KeepsLaws u (forceChannel c none u) := keepsLaws_forceChannel c none u hn
  have hd (d : Discrete) (u : State) : KeepsLaws u (forceDiscrete d none u) := keepsLaws_forceDiscrete d none u hn
  exact (((((((((((keepsLaws_forceSpeed none s hn).trans (hc .lube _)).trans (hc .coolant _)).trans (hc .fuel _)).trans
    (hc .battery _)).trans (hc .intake _)).trans (hc .crankcase _)).trans (hd .emergencyStop _)).trans
    (hd .turningGear _)).trans (hd .groundRelay _)).trans (hd .starterEngaged _))

/-! ### A change of holder (R96, R118, R136) -/

theorem keepsLaws_clearForcesAndMasks (s : State) : KeepsLaws s (clearForcesAndMasks s) :=
  ((keepsLaws_releaseInputs s).trans (keepsLaws_forceWires none _ (by simp))).trans
    (keepsLaws_pruEvent (tableMove_unmaskAll _ _))

/-- With every force released and every mask cleared, no holder is asked for. -/
theorem serviceLaw_clearForcesAndMasks (s : State) : ServiceLaw (clearForcesAndMasks s) := by
  refine (keepsLaws_handOff _ _).service (serviceLaw_of_none ?_ fun e => ?_)
  · exact forcesActive_of_none (s := forceWires none (releaseInputs s))
      (by rw [forcesOf_forceWires, forcesOf_releaseInputs])
  · rw [State.mapPru_pru, ringBell_entry, Pru.entry_mapEntries, unmasked_masked]

/-- The holder changes from that of `s` in `t`, and the event goes on to `u`, where forces and masks are gone if SERVICE
has stopped holding. -/
theorem keepsLaws_hands {s t u : State} (hr : t.rsq = s.rsq) (hspd : t.spd = s.spd) (hi : t.ins = s.ins)
    (hp : t.pru = s.pru) (hn : t.ntu = s.ntu) (hc : t.cfg = s.cfg)
    (ht : t.aut.trainline.forced = s.aut.trainline.forced) (hs : SourceLaw s → SourceLaw t) (k : KeepsLaws t u)
    (hu : s.aut.holder = some .service → ServiceLaw u) : KeepsLaws s u where
  protection h := k.protection (by simpa only [ProtectionLaw, hp] using h)
  bell h := k.bell (h.congr hp)
  load h := k.load (h.congr (by rw [hr]) (by rw [hp]) (by rw [hp]) hn hc)
  source h := k.source (hs h)
  service h := by
    by_cases hh : s.aut.holder = some .service
    · exact hu hh
    · refine k.service (serviceLaw_of_none ?_ fun e => ?_)
      · rw [← Bool.not_eq_true]
        intro hf
        refine hh (h.1 ?_)
        simpa only [forcesActive, hspd, hi, ht] using hf
      · rw [← Bool.not_eq_true, hp]
        exact fun hm => hh (h.2 e hm)

theorem keepsLaws_autoTake (s : State) : KeepsLaws s (s.mapAut autoTake) := by
  by_cases h : s.aut.holder = none ∧ s.aut.trainline.state = .live
  · have hm : s.mapAut autoTake = s.mapAut grantTrainline := by simp [State.mapAut, autoTake, h]
    rw [hm]
    refine keepsLaws_hands (t := s.mapAut grantTrainline) rfl rfl rfl rfl rfl rfl rfl
      (fun k => k.congr fun l => ?_) (.refl _) (by simp [h.1])
    cases l <;> rfl
  · have hm : s.mapAut autoTake = s := by simp only [State.mapAut, autoTake, if_neg h]
    rw [hm]
    exact .refl s

/-- A change of holder from that of `s`, which AUT has made in `t`, and all that follows from it. -/
theorem keepsLaws_afterHolderChange {s t : State} (hr : t.rsq = s.rsq) (hspd : t.spd = s.spd) (hi : t.ins = s.ins)
    (hp : t.pru = s.pru) (hn : t.ntu = s.ntu) (hc : t.cfg = s.cfg)
    (ht : t.aut.trainline.forced = s.aut.trainline.forced) (hs : SourceLaw s → SourceLaw t) :
    KeepsLaws s (afterHolderChange s.aut.holder t) := by
  have h1 : KeepsLaws s
      (if s.aut.holder = some .service ∧ t.aut.holder ≠ some .service then clearForcesAndMasks t else t) := by
    split
    · exact keepsLaws_hands hr hspd hi hp hn hc ht hs (keepsLaws_clearForcesAndMasks t)
        fun _ => serviceLaw_clearForcesAndMasks t
    · next h =>
      refine keepsLaws_hands hr hspd hi hp hn hc ht hs (.refl t) fun hh => serviceLaw_of_service ?_
      by_contra w
      exact h ⟨hh, w⟩
  unfold afterHolderChange
  extract_lets s1 s2
  have h2 : KeepsLaws s s2 := h1.trans (keepsLaws_autoTake _)
  split
  · exact h2.trans (keepsLaws_demandArrival _ _ _)
  · exact h2

theorem keepsLaws_advanceHandover (s : State) : KeepsLaws s (advanceHandover s) :=
  .of_calm rfl rfl rfl rfl rfl (fun h => h.congr fun l => by cases l <;> rfl) .inl

theorem keepsLaws_trainlineYield (s : State) : KeepsLaws s (trainlineYield s) := by
  unfold trainlineYield
  split
  · exact keepsLaws_advanceHandover s
  · exact .refl s

theorem keepsLaws_trainlineEvent (f : Trainline → Trainline) (s : State)
    (hf : (f s.aut.trainline).forced = s.aut.trainline.forced) : KeepsLaws s (trainlineEvent f s) := by
  have h : KeepsLaws s (trainlineChange f s) := keepsLaws_trainlineChange f s fun w => .inl (hf ▸ w)
  have hh : (trainlineChange f s).aut.holder = s.aut.holder := by rw [trainlineChange_eq]; rfl
  unfold trainlineEvent
  dsimp only
  split
  · split
    · exact h
    · exact (h.trans (keepsLaws_trainlineYield _)).trans (keepsLaws_demandArrival _ _ _)
  · split
    · refine h.trans ?_
      rw [← hh]
      exact keepsLaws_afterHolderChange rfl rfl rfl rfl rfl rfl rfl id
    · exact h

theorem keepsLaws_endHandover (o : ClaimOutcome) (s : State) : KeepsLaws s (endHandover o s) := by
  refine .of_calm (by simp) (by simp) (by simp) (by simp) (by simp) (fun h => ?_) fun h => .inl ?_
  · unfold endHandover
    split
    · next x _ => exact sourceLaw_outcome x.claimant o h fun k => by cases k <;> rfl
    · exact h
  · simpa [forcesActive] using h

theorem keepsLaws_mapSource {l : Link} {f : FramedSource → FramedSource} {s : State}
    (hf : (s.aut.source l).Lawful → (f (s.aut.source l)).Lawful) : KeepsLaws s (s.mapSource l f) :=
  .of_calm rfl rfl rfl rfl (by simp) (fun h => sourceLaw_setSource l h (fun _ => rfl) hf) fun h => .inl (by
    simpa [forcesActive] using h)

theorem keepsLaws_grantLink (l : Link) (s : State) : KeepsLaws s (grantLink l s) := by
  have h : KeepsLaws s (s.mapSource l fun f => { f with outcome := .granted, fresh := false }) :=
    keepsLaws_mapSource fun w => w.congr rfl rfl rfl rfl rfl (.inr rfl) rfl
  refine h.trans ?_
  have ho : s.aut.holder = (s.mapSource l fun f => { f with outcome := .granted, fresh := false }).aut.holder := by simp
  unfold grantLink
  dsimp only
  rw [ho]
  exact keepsLaws_afterHolderChange rfl rfl rfl rfl rfl rfl rfl fun k => k.congr fun l => by cases l <;> rfl

theorem keepsLaws_releaseHolder (s : State) : KeepsLaws s (releaseHolder s) :=
  keepsLaws_afterHolderChange rfl rfl rfl rfl rfl rfl rfl fun k => k.congr fun l => by cases l <;> rfl

theorem keepsLaws_lapse (l : Link) (s : State) : KeepsLaws s (lapse l s) :=
  ((keepsLaws_mapSource fun w => w.congr rfl rfl rfl rfl rfl (.inl rfl) rfl).trans (keepsLaws_endHandover _ _)).trans
    (keepsLaws_releaseHolder _)

/-- A source that is not ACTIVE has no envelope and an empty record (R100, R106). -/
theorem FramedSource.lawful_dropped {st : LinkState} (h : st ≠ .active) (f : FramedSource) : (f.dropped st).Lawful := by
  simp [FramedSource.Lawful, FramedSource.dropped, FramedSource.maxNotch, h]

theorem keepsLaws_leaveActive (l : Link) {st : LinkState} (h : st ≠ .active) (s : State) :
    KeepsLaws s (leaveActive l st s) := by
  have hd : KeepsLaws s (s.mapSource l (FramedSource.dropped st)) :=
    keepsLaws_mapSource fun _ => FramedSource.lawful_dropped h _
  unfold leaveActive
  dsimp only
  (repeat' split) <;> try exact hd
  · exact hd.trans (keepsLaws_lapse l _)
  · exact hd.trans (keepsLaws_endHandover _ _)

end Sys2Proof.Machine
end

section
/-! SUPPORT. Every command keeps the laws of the protection table, of the load reference, and of sources, forces and
masks; LOAD PERMIT is brought up to date wherever what it reads moves. -/

namespace Sys2Proof.Machine

/-! ### A whole event -/

/-- A whole event: it keeps the laws, LOAD PERMIT among them (R150). -/
structure Turn (s t : State) : Prop where
  keeps : KeepsLaws s t
  permit : PermitLaw s → PermitLaw t

theorem Turn.refl (s : State) : Turn s s := ⟨.refl s, id⟩

theorem Turn.trans {s t u : State} (h : Turn s t) (k : Turn t u) : Turn s u :=
  ⟨h.keeps.trans k.keeps, k.permit ∘ h.permit⟩

/-- An event that moves nothing that LOAD PERMIT reads. -/
theorem KeepsLaws.still {s t : State} (h : KeepsLaws s t) (he : t.rsq.engine = s.rsq.engine)
    (hd : t.pru.idleDown = s.pru.idleDown) (hn : t.ntu = s.ntu) : Turn s t := by
  refine ⟨h, fun k => ?_⟩
  simpa only [PermitLaw, loadPermitWanted, he, hd, hn] using k

/-- An event goes on through its settling. -/
theorem KeepsLaws.settle {s t : State} (h : KeepsLaws s t) (s0 : State) (test : Bool) : Turn s (settle s0 test t) :=
  ⟨h.trans (keepsLaws_settle s0 test t), fun _ => permitLaw_settle s0 test t⟩

theorem Turn.rejudgeAttn {s t : State} (h : Turn s t) : Turn s (rejudgeAttn t) :=
  h.trans ((keepsLaws_rejudgeAttn t).still rfl rfl rfl)

theorem KeepsLaws.finish {s t : State} (h : KeepsLaws s t) (s0 : State) (test : Bool) : Turn s (finish s0 test t) :=
  (h.settle s0 test).rejudgeAttn

/-- An event that is one operation, and then the settling. -/
theorem turn_event {s u : State} {p : Prop} [Decidable p] (test : Bool) (h : p → KeepsLaws s u) :
    Turn s (if p then finish s test u else s) := by
  split
  · next hp => exact (h hp).finish s test
  · exact .refl s

theorem turn_mapLink (l : Link) (f : LinkIf → LinkIf) (s : State) : Turn s (s.mapLink l f) :=
  (keepsLaws_mapLink l f s).still rfl rfl rfl

/-! ### Requests -/

theorem turn_screenRequest {l : Link} {f : Frame} {s : State} {a : Answer} (h : screenRequest l f s = some a) :
    Turn s a.state := by
  unfold screenRequest answer at h
  (repeat' split at h) <;> cases h
  any_goals exact .refl _
  exact (keepsLaws_endHandover _ s).settle _ _

theorem turn_conclude (l : Link) (f : Frame) (a : Answer) : Turn a.state (conclude l f a) := by
  unfold conclude
  split
  · exact (turn_mapLink l _ _).rejudgeAttn
  · exact (Turn.refl _).rejudgeAttn

/-- A request that comes to its owner, ENROL and STATUS apart, comes from an ACTIVE source (R169). -/
theorem active_of_unscreened {l : Link} {f : Frame} {s : State} (hi : (s.aut.source l).linkState ≠ .inert)
    (h : screenRequest l f s = none) (he : f.kind ≠ kindEnrol) (hs : f.kind ≠ kindStatus) :
    (s.aut.source l).linkState = .active := by
  have hd : (s.aut.source l).linkState ≠ .down := by
    intro w
    unfold screenRequest at h
    rw [if_pos (⟨w, he, hs⟩ : _ ∧ _ ∧ _)] at h
    (repeat' split at h) <;> cases h
  cases hl : (s.aut.source l).linkState <;> simp_all

theorem turn_request (l : Link) (f : Frame) {owner : State → Answer}
    (h : ∀ u, (f.kind ≠ kindEnrol → f.kind ≠ kindStatus → (u.aut.source l).linkState = .active) →
      Turn u (owner u).state) (s : State) : Turn s (request l f owner s) := by
  have hd : Turn s (dequeued l s) := turn_mapLink l _ s
  unfold request
  split
  · change Turn s (if (s.aut.source l).linkState = .inert then _ else
      match screenRequest l f (dequeued l s) with
      | some a => conclude l f a
      | none => conclude l f (owner (dequeued l s)))
    split
    · exact hd.trans (turn_mapLink l _ _)
    · next hi =>
      split
      · next a ha => exact (hd.trans (turn_screenRequest ha)).trans (turn_conclude l f a)
      · next hs => exact (hd.trans (h _ (active_of_unscreened hi hs))).trans (turn_conclude l f _)
  · exact .refl s

/-- An owner that keeps the laws whatever the link. -/
def OwnerKeeps (owner : State → Answer) : Prop := ∀ u, Turn u (owner u).state

theorem OwnerKeeps.request {owner : State → Answer} (h : OwnerKeeps owner) (l : Link) (f : Frame) (s : State) :
    Turn s (request l f owner s) :=
  turn_request l f (fun u _ => h u) s

/-! ### The owners of AUT's requests -/

/-- An envelope's max notch is at most 8 (R102). -/
theorem maxNotch_le_of_enrolOperand {t : Table} {l : Link} {payload : List Byte} {e : Envelope}
    (h : enrolOperand t l payload = some e) : e.maxNotch ≤ 8 := by
  unfold enrolOperand at h
  (repeat' split at h) <;> cases h
  next hc => exact hc.2.2.2.2

theorem FramedSource.lawful_enrolled {e : Envelope} (h : e.maxNotch ≤ 8) (f : FramedSource) :
    (f.enrolled e).Lawful := by
  simp [FramedSource.Lawful, FramedSource.enrolled, FramedSource.maxNotch, h]

theorem ownerKeeps_ownerEnrol (l : Link) (payload : List Byte) : OwnerKeeps (ownerEnrol l payload) := by
  intro s
  unfold ownerEnrol
  split
  · exact .refl s
  · split
    · next he =>
      exact (keepsLaws_mapSource fun _ =>
        FramedSource.lawful_enrolled (maxNotch_le_of_enrolOperand he) _).still rfl rfl rfl
    · have h : KeepsLaws s ((leaveActive l .inert s).mapLink l LinkIf.discardQueue) :=
        (keepsLaws_leaveActive l (by decide) s).trans (keepsLaws_mapLink _ _ _)
      exact h.settle _ _

theorem keepsLaws_runRequest (l : Link) (run : RunRequest) (s : State) : KeepsLaws s (runRequest l run s).1 := by
  have hs := keepsLaws_holderStart s
  unfold runRequest
  (repeat' split) <;> try exact .refl s
  · next w => rwa [w] at hs
  · next w => rwa [w] at hs
  · exact keepsLaws_holderStop s

/-- An ACTIVE source has an envelope, so that its record and its fresh flag are its own to set (R100, R108). -/
theorem FramedSource.Lawful.envelope_ne {f : FramedSource} (h : f.Lawful) (ha : f.linkState = .active) :
    f.envelope ≠ none := by
  intro w
  simpa [w] using h.1.1 ha

theorem FramedSource.Lawful.recorded {f : FramedSource} (h : f.Lawful) (ha : f.linkState = .active) (notch : Nat)
    (run : RunRequest) : (f.recorded notch run).Lawful :=
  ⟨h.1, fun w => absurd w (h.envelope_ne ha), min_le_right _ _, h.2.2.2⟩

theorem FramedSource.Lawful.freshened {f : FramedSource} (h : f.Lawful) (ha : f.linkState = .active) :
    ({ f with fresh := true } : FramedSource).Lawful :=
  ⟨h.1, fun w => absurd w (h.envelope_ne ha), h.2.2⟩

theorem turn_ownerDemand {l : Link} (payload : List Byte) {s : State} (ha : (s.aut.source l).linkState = .active) :
    Turn s (ownerDemand l payload s).state := by
  unfold ownerDemand
  split
  · exact .refl s
  · next notch run _ =>
    have h1 : KeepsLaws s (s.mapSource l (FramedSource.recorded notch run)) :=
      keepsLaws_mapSource fun w => w.recorded ha notch run
    dsimp only
    split
    · have h2 : KeepsLaws s ((s.mapSource l (FramedSource.recorded notch run)).mapSource l
          fun f => { f with fresh := true }) :=
        h1.trans (keepsLaws_mapSource fun w => w.freshened (by simpa [FramedSource.recorded] using ha))
      unfold holderDemandEvent
      extract_lets s1 f r s2
      have h : Turn s s2 :=
        ((h2.trans (keepsLaws_runRequest l run s1)).trans (keepsLaws_demandArrival _ _ _)).settle _ _
      split <;> exact h
    · exact h1.still rfl rfl rfl

theorem turn_execDemand (l : Link) (q : Byte) (p : List Byte) (s : State) :
    Turn s (request l ⟨kindDemand, q, p⟩ (ownerDemand l p) s) :=
  turn_request l _
    (fun _ ha => turn_ownerDemand p (ha (by simp [kindDemand, kindEnrol]) (by simp [kindDemand, kindStatus]))) s

theorem keepsLaws_beginHandover (l : Link) (holder : Source) (override : Bool) (s : State) :
    KeepsLaws s (beginHandover l holder override s) := by
  unfold beginHandover
  have h : KeepsLaws s (s.mapSource l fun f => { f with outcome := .none }) :=
    keepsLaws_mapSource fun w => w.congr rfl rfl rfl rfl rfl (.inl rfl) rfl
  refine (h.trans ?_).trans (keepsLaws_trainlineYield _)
  exact .of_calm rfl rfl rfl rfl rfl (fun k => k.congr fun l => by cases l <;> rfl) .inl

theorem ownerKeeps_ownerClaim (l : Link) (payload : List Byte) : OwnerKeeps (ownerClaim l payload) := by
  intro s
  unfold ownerClaim
  dsimp only
  (repeat' split) <;> try exact .refl s
  · exact (keepsLaws_grantLink l s).settle _ _
  · exact (keepsLaws_beginHandover _ _ _ s).settle _ _

theorem keepsLaws_yieldToTrainline (s : State) : KeepsLaws s (yieldToTrainline s) :=
  keepsLaws_afterHolderChange rfl rfl rfl rfl rfl rfl rfl fun k => k.congr fun l => by cases l <;> rfl

theorem ownerKeeps_ownerYield (l : Link) (payload : List Byte) : OwnerKeeps (ownerYield l payload) := by
  intro s
  unfold ownerYield
  (repeat' split) <;> try exact .refl s
  · exact (keepsLaws_releaseHolder s).settle _ _
  · exact (keepsLaws_yieldToTrainline s).settle _ _
  · exact (keepsLaws_advanceHandover s).settle _ _

theorem ownerKeeps_ownerTake (l : Link) (payload : List Byte) : OwnerKeeps (ownerTake l payload) := by
  intro s
  unfold ownerTake
  (repeat' split) <;> try exact .refl s
  exact (keepsLaws_grantLink l s).settle _ _

theorem ownerKeeps_ownerKeep (l : Link) : OwnerKeeps (ownerKeep l) := by
  intro s
  unfold ownerKeep
  (repeat' split) <;> try exact .refl s
  exact (keepsLaws_endHandover _ s).settle _ _

/-! ### The owners of PRU's requests -/

theorem ownerKeeps_ownerResetProtection (l : Link) (payload : List Byte) :
    OwnerKeeps (ownerResetProtection l payload) := by
  intro s
  unfold ownerResetProtection
  (repeat' split) <;> try exact .refl s
  next hs _ => exact (keepsLaws_pruEvent (tableMove_leaveService _ (by simpa using hs))).settle _ _

theorem ownerKeeps_ownerResetAll (l : Link) : OwnerKeeps (ownerResetAll l) := by
  intro s
  unfold ownerResetAll
  dsimp only
  (repeat' split) <;> try exact .refl s
  refine (keepsLaws_pruEvent (tableMove_leaveAll _ fun e he => ?_)).settle _ _
  simp only [resettable, List.mem_filter, Bool.and_eq_true, decide_eq_true_eq] at he
  obtain ⟨-, hs, -⟩ := he
  exact hs

theorem inService_eq_of_state {r r' : EntryRec} (h : r'.state = r.state) : r'.inService = r.inService := by
  simp only [EntryRec.inService, h]

theorem idleDown_mapEntries {p : Pru} {f : EntryRec → EntryRec} (h : ∀ r, (f r).state = r.state) :
    (p.mapEntries f).idleDown = p.idleDown :=
  SameDown.idleDown fun e _ => by rw [Pru.entry_mapEntries]; exact inService_eq_of_state (h _)

theorem idleDown_setEntry {p : Pru} {e : Entry} {r : EntryRec} (h : r.state = (p.entry e).state) :
    (p.setEntry e r).idleDown = p.idleDown :=
  SameDown.idleDown fun d _ => inService_setEntry h d

theorem acknowledge_state (r : EntryRec) : r.acknowledge.state = r.state := by
  unfold EntryRec.acknowledge
  split <;> rfl

theorem ownerKeeps_ownerAcknowledge : OwnerKeeps ownerAcknowledge := fun _ =>
  (keepsLaws_mapPru (tableMove_acknowledgeAll _ _)).still rfl (idleDown_mapEntries acknowledge_state) rfl

theorem holder_of_holds_service {s : State} (h : ¬s.aut.holds .service = false) : s.aut.holder = some .service :=
  (holds_service_iff s.aut).1 (Bool.eq_true_of_not_eq_false h)

theorem maskOperand_ok {payload : List Byte} {s : State} {e : Entry} (h : maskOperand payload s = .ok e) :
    5 < e.val ∧ s.aut.holder = some .service := by
  unfold maskOperand at h
  (repeat' split at h) <;> cases h
  next hh _ h5 => exact ⟨by omega, holder_of_holds_service hh⟩

theorem ownerKeeps_ownerMask (payload : List Byte) : OwnerKeeps (ownerMask payload) := by
  intro s
  unfold ownerMask
  split
  · exact .refl s
  · next e he =>
    obtain ⟨h5, hh⟩ := maskOperand_ok he
    exact (keepsLaws_marks e true (s.pru.entry e).tripCount (.inr ⟨rfl, h5, hh⟩)).still rfl (idleDown_setEntry rfl) rfl

theorem ownerKeeps_ownerUnmask (payload : List Byte) : OwnerKeeps (ownerUnmask payload) := by
  intro s
  unfold ownerUnmask
  split
  · exact .refl s
  · exact (keepsLaws_pruEvent (tableMove_clearMask _ _ _)).settle _ _

theorem ownerKeeps_ownerClearTripCount (payload : List Byte) : OwnerKeeps (ownerClearTripCount payload) := by
  intro s
  unfold ownerClearTripCount
  split
  · exact .refl s
  · next e _ =>
    exact (keepsLaws_marks e (s.pru.entry e).masked 0 (.inl rfl)).still rfl (idleDown_setEntry rfl) rfl

/-! ### The owners of forces -/

theorem keepsLaws_applyForce (v : ForceValue) {s : State} (h : s.aut.holder = some .service) :
    KeepsLaws s (applyForce v s) := by
  unfold applyForce
  split
  · exact keepsLaws_forceSpeed _ s fun _ => h
  · exact keepsLaws_forceChannel _ _ s fun _ => h
  · exact keepsLaws_forceDiscrete _ _ s fun _ => h
  · exact keepsLaws_forceWires _ s fun _ => h

theorem ownerKeeps_ownerForce (payload : List Byte) : OwnerKeeps (ownerForce payload) := by
  intro s
  unfold ownerForce
  (repeat' split) <;> try exact .refl s
  next hh _ _ _ _ => exact (keepsLaws_applyForce _ (holder_of_holds_service hh)).settle _ _

theorem keepsLaws_releaseTarget (n : Nat) (s : State) : KeepsLaws s (releaseTarget n s) := by
  unfold releaseTarget
  (repeat' split) <;> try exact .refl s
  · exact keepsLaws_forceSpeed none s (by simp)
  · exact keepsLaws_forceWires none s (by simp)
  · exact keepsLaws_forceChannel _ none s (by simp)
  · exact keepsLaws_forceDiscrete _ none s (by simp)

theorem ownerKeeps_ownerReleaseForce (payload : List Byte) : OwnerKeeps (ownerReleaseForce payload) := by
  intro s
  unfold ownerReleaseForce
  (repeat' split) <;> try exact .refl s
  · exact ((keepsLaws_releaseInputs s).trans (keepsLaws_forceWires none _ (by simp))).settle _ _
  · exact (keepsLaws_releaseTarget _ s).settle _ _

/-! ### The owners of LATCH and of the READ rows -/

theorem turn_answer_mapLink (l : Link) (r : Result) (p : List Byte) (f : LinkIf → LinkIf) (s : State) :
    Turn s (answer r p (s.mapLink l f)).state :=
  turn_mapLink l f s

theorem ownerKeeps_ownerLatch (l : Link) (payload : List Byte) : OwnerKeeps (ownerLatch l payload) := by
  intro s
  unfold ownerLatch
  dsimp only
  (repeat' split) <;> first | exact .refl s | exact turn_answer_mapLink l _ _ _ s

theorem turn_readRequest (t : ReadTarget) (l : Link) (seq : Byte) (payload : List Byte) {owner : State → Answer}
    (h : OwnerKeeps owner) (s : State) : Turn s (readRequest t l seq payload owner s) := by
  unfold readRequest
  split
  · exact h.request l _ s
  · exact .refl s

theorem ownerKeeps_ownerReadLatched (l : Link) (payload : List Byte) : OwnerKeeps (ownerReadLatched l payload) := by
  intro s
  unfold ownerReadLatched
  (repeat' split) <;> first | exact .refl s | exact turn_answer_mapLink l _ _ _ s

/-- The other READ rows change nothing. -/
theorem ownerKeeps_of_state {owner : State → Answer} (h : ∀ u, (owner u).state = u) : OwnerKeeps owner := fun u => by
  rw [h]
  exact .refl u

theorem ownerReadCrankHistory_state (payload : List Byte) (s : State) :
    (ownerReadCrankHistory payload s).state = s := by
  unfold ownerReadCrankHistory
  (repeat' split) <;> rfl

theorem ownerReadProtectionTable_state (payload : List Byte) (s : State) :
    (ownerReadProtectionTable payload s).state = s := by
  unfold ownerReadProtectionTable
  (repeat' split) <;> rfl

theorem ownerReadAnalogChannelRecords_state (payload : List Byte) (s : State) :
    (ownerReadAnalogChannelRecords payload s).state = s := by
  unfold ownerReadAnalogChannelRecords
  (repeat' split) <;> rfl

theorem ownerReadSourceTableSummary_state (payload : List Byte) (s : State) :
    (ownerReadSourceTableSummary payload s).state = s := by
  unfold ownerReadSourceTableSummary
  (repeat' split) <;> rfl

theorem ownerReadConfigurationEntry_state (payload : List Byte) (s : State) :
    (ownerReadConfigurationEntry payload s).state = s := by
  unfold ownerReadConfigurationEntry
  (repeat' split) <;> rfl

theorem ownerReadEngineRunRecord_state (payload : List Byte) (s : State) :
    (ownerReadEngineRunRecord payload s).state = s := by
  unfold ownerReadEngineRunRecord
  (repeat' split) <;> rfl

/-! ### The owners of CFG's requests -/

/-- What moves CFG alone: the tables stay in range, and another active table comes into use only at rest, where nothing
is loaded (R182). -/
theorem keepsLaws_mapCfg {f : Cfg → Cfg} {s : State} (ha : (f s.cfg).active = s.cfg.active ∨ s.rsq.engine.atRest = true)
    (ht : TableLaw s → TableLaw (s.mapCfg f)) : KeepsLaws s (s.mapCfg f) := by
  refine ⟨id, id, fun ⟨h1, h2, h3, h4, h5, h6, h7⟩ => ?_, id, id⟩
  have hl : s.ntu.loadRef ≤ (f s.cfg).active.loadAt s.ntu.applied ∧ s.ntu.loadRef ≤ (f s.cfg).active.loadMax := by
    rcases ha with ha | ha
    · exact ha ▸ ⟨h6, h7⟩
    · obtain ⟨h0, -⟩ := h1.2 (by revert ha; cases s.rsq.engine <;> decide)
      rw [h0] at h6
      have hz : s.ntu.loadRef = 0 := Nat.le_zero.1 h6
      rw [hz]
      exact ⟨Nat.zero_le _, Nat.zero_le _⟩
  exact ⟨h1, h2, ht h3, h4, h5, hl.1, hl.2⟩

theorem ownerKeeps_ownerWriteEntry (payload : List Byte) : OwnerKeeps (ownerWriteEntry payload) := by
  intro s
  unfold ownerWriteEntry
  (repeat' split) <;> try exact .refl s
  next g f v spec hw _ hv =>
  have h : KeepsLaws s (s.mapCfg fun c => { c with edited := c.edited.setField g.val f v }) :=
    keepsLaws_mapCfg (.inl rfl) fun ⟨ha, he, hs, hr⟩ => ⟨ha, he.setField (fieldSpec_of_writeOperand hw) hv, hs, hr⟩
  exact h.still rfl rfl rfl

theorem ownerKeeps_ownerApply : OwnerKeeps ownerApply := by
  intro s
  unfold ownerApply
  (repeat' split) <;> try exact .refl s
  next hr _ hf =>
  have h : KeepsLaws s (s.mapCfg fun c => { c with active := c.edited, writing := true }) :=
    keepsLaws_mapCfg (.inr (by simpa using hr)) fun ⟨_, he, hs, _, hst⟩ => ⟨he, he, hs, loadsRise_of_checks hf, hst⟩
  exact (h.trans (keepsLaws_trainlineEvent _ _ rfl)).settle _ _

/-- What changes a group's state, and of the tables at most the pending one, within its ranges. -/
theorem ownerKeeps_groupRequest {allowed : GroupState → Bool} {act : Fin 5 → Cfg → Cfg} (payload : List Byte)
    (h : ∀ g c, (act g c).active = c.active ∧ (act g c).store = c.store ∧
      (c.active.InRange → c.edited.InRange → (act g c).edited.InRange)) :
    OwnerKeeps (groupRequest allowed act payload) := by
  intro s
  unfold groupRequest
  (repeat' split) <;> try exact .refl s
  next g _ _ =>
  obtain ⟨ha, hs, he⟩ := h g s.cfg
  refine (keepsLaws_mapCfg (.inl ha) fun ⟨ra, re, rs, la, ls⟩ => ?_).still rfl rfl rfl
  have ht : (act g s.cfg).active.InRange ∧ (act g s.cfg).edited.InRange ∧ (act g s.cfg).store.InRange ∧
      (act g s.cfg).active.LoadsRise ∧ (act g s.cfg).store.LoadsRise := by
    rw [ha, hs]
    exact ⟨ra, he ra re, rs, la, ls⟩
  exact ht

theorem ownerKeeps_ownerLockGroup (payload : List Byte) : OwnerKeeps (ownerLockGroup payload) :=
  ownerKeeps_groupRequest (act := fun g => Cfg.closeGroup g .locked) payload fun g _ =>
    ⟨rfl, rfl, fun ra re => re.copyGroup ra g⟩

theorem ownerKeeps_ownerUnlockGroup (payload : List Byte) : OwnerKeeps (ownerUnlockGroup payload) :=
  ownerKeeps_groupRequest (act := fun g c => { c with groups := c.groups.set g .opened }) payload fun _ _ =>
    ⟨rfl, rfl, fun _ re => re⟩

theorem ownerKeeps_ownerFixGroup (payload : List Byte) : OwnerKeeps (ownerFixGroup payload) :=
  ownerKeeps_groupRequest (act := fun g => Cfg.closeGroup g .fixed) payload fun g _ =>
    ⟨rfl, rfl, fun ra re => re.copyGroup ra g⟩

/-! ### The other commands -/

/-- The whole part after reset meets every law (R28). -/
theorem turn_resetPart (s : State) : Turn s (resetPart s) := by
  have hd (h : TableLaw s) : TableLaw (resetPart s) := (durationLaw_resets h).1
  have hf : forcesActive (resetPart s) = false := rfl
  have he (e : Entry) : (resetPart s).pru.entry e = resetEntry := by simp [resetPart, resetPru, Pru.entry]
  refine ⟨⟨fun _ => protectionLaw_reset, fun _ => rfl, fun h => ⟨⟨Nat.zero_le _, fun _ => ⟨rfl, rfl, rfl, rfl⟩⟩,
    fun _ => ⟨rfl, rfl, rfl⟩, hd h.tables, le_refl (100 : Int), le_refl (100 : Int), Nat.zero_le _, Nat.zero_le _⟩,
    fun _ => sourceLaw_reset, fun _ => serviceLaw_of_none hf fun e => by rw [he]; rfl⟩, fun _ => rfl⟩

/-- An outcome whose next state, if there is one, comes of a whole event. -/
def TurnOutcome (s : State) (o : Host.Outcome State Fault Refusal) : Prop := ∀ t, o = .next t → Turn s t

theorem turnOutcome_next {s t : State} (h : Turn s t) : TurnOutcome s (.next t) := by
  intro u hu
  cases hu
  exact h

theorem keepsLaws_firstEngineState (s : State) : KeepsLaws s (firstEngineState s) := by
  unfold firstEngineState
  (repeat' split)
  · exact keepsLaws_enterRundown s
  · exact keepsLaws_changeEngine _ s
  · exact .refl s

theorem turn_execSelfCheckEnd (s : State) :
    Turn s (if s.cfg.checking then
      finish s false
        (trainlineEvent (Trainline.judged s.cfg.active.trainlineFollow) (firstEngineState (s.mapCfg checkedCfg)))
      else s) := by
  refine turn_event false fun _ => ?_
  have h : KeepsLaws s (s.mapCfg checkedCfg) :=
    keepsLaws_mapCfg (.inl rfl) fun ⟨ha, _, hs, hr⟩ => ⟨ha, ha, hs, hr⟩
  exact (h.trans (keepsLaws_firstEngineState _)).trans (keepsLaws_trainlineEvent _ _ rfl)

theorem FramedSource.Lawful.refreshed {f : FramedSource} (h : f.Lawful) : f.refreshed.Lawful := by
  unfold FramedSource.refreshed
  split
  · next e he => exact ⟨h.1, fun w => absurd (he.symm.trans w) (by simp), h.2.2⟩
  · exact h

theorem turn_takeGoodFrame (l : Link) (f : Frame) (s : State) : Turn s (takeGoodFrame l f s) := by
  unfold takeGoodFrame
  split
  · exact turn_mapLink l _ s
  · have h : KeepsLaws s (s.mapSource l FramedSource.refreshed) := keepsLaws_mapSource (·.refreshed)
    exact (h.still rfl rfl rfl).trans (turn_mapLink l _ _)
  · exact turn_mapLink l _ s

theorem levelsChanged_debounce (follow checking : Bool) (x : Wire) (t : Trainline) :
    (t.debounce follow checking x).forced = t.forced := by
  rw [Trainline.debounce, levelsChanged_forced]
  rfl

theorem settled_forced (t : Trainline) : t.settled.forced = t.forced := by
  unfold Trainline.settled
  split <;> rfl

theorem keepsLaws_converted (c : Channel) (raw : Nat) (s : State) :
    KeepsLaws s (s.mapIns (Ins.converted s.cfg.active c raw)) := by
  have h : KeepsLaws s (s.mapChannel c (convert s.cfg.active c raw)) :=
    keepsLaws_mapChannel c _ s fun w => .inl (by rwa [convert_forced] at w)
  refine h.trans (keepsLaws_inputs rfl rfl rfl rfl rfl fun w => .inl ?_)
  simpa [forcesActive, Ins.converted] using w

theorem keepsLaws_mapSpd (f : Spd → Spd) (s : State) (h : (f s.spd).force = s.spd.force) : KeepsLaws s (s.mapSpd f) :=
  keepsLaws_spd rfl rfl rfl rfl rfl rfl fun w => .inl (h ▸ w)

theorem keepsLaws_windowRsq (s : State) : KeepsLaws s (windowRsq s) := by
  have hf : (windowSpd s).1.force = s.spd.force := (windowed_windowWork s.cfg.active (fuelled s) s.spd).force
  have h : KeepsLaws s { s with spd := (windowSpd s).1 } := keepsLaws_mapSpd (fun _ => (windowSpd s).1) s hf
  exact h.trans (keepsLaws_rsqWindow _)

theorem turn_execHoldTimerExpiry (c : Channel) (s : State) :
    Turn s (if (s.ins.channel c).state = .held ∧ (s.ins.channel c).holdTimer.isSome = true then
      finish s false (if (s.ins.channel c).forced.isSome then reportSensorRange (s.mapChannel c (substituted c))
        else handOn c (reportSensorRange (s.mapChannel c (substituted c)))) else s) := by
  refine turn_event false fun _ => ?_
  have hs : KeepsLaws s (reportSensorRange (s.mapChannel c (substituted c))) :=
    (keepsLaws_mapChannel c _ s .inl).trans (keepsLaws_reportSensorRange _)
  split
  · exact hs
  · exact hs.trans (keepsLaws_handOn c _)

theorem turn_execDebouncedChange (d : Discrete) (s : State) :
    TurnOutcome s (execDebouncedChange d s) := by
  refine turnOutcome_next ?_
  refine turn_event false fun _ => ?_
  have h : KeepsLaws s (s.mapDiscrete d fun r => { r with debounced := r.level, timer := none }) :=
    keepsLaws_mapDiscrete d _ s .inl
  split
  · exact h
  · exact h.trans (keepsLaws_discreteChanged _ _ _)

theorem turn_execStopHoldExpiry (s : State) : TurnOutcome s (execStopHoldExpiry s) := by
  refine turnOutcome_next ?_
  refine turn_event false fun _ => ?_
  have h : KeepsLaws s (s.mapAut fun a => { a with trainline := { a.trainline with stopHold := none } }) :=
    keepsLaws_mapTrainline { s.aut.trainline with stopHold := none } s .inl
  split
  · exact h.trans (keepsLaws_holderStop _)
  · exact h

theorem turn_execYieldStageExpiry (s : State) : TurnOutcome s (execYieldStageExpiry s) := by
  refine turnOutcome_next ?_
  split
  · refine turn_event false fun _ => ?_
    split
    · exact keepsLaws_advanceHandover s
    · exact keepsLaws_endHandover _ s
  · exact .refl s

theorem turn_execTakeStageExpiry (s : State) : TurnOutcome s (execTakeStageExpiry s) := by
  refine turnOutcome_next ?_
  split
  · exact turn_event false fun _ => keepsLaws_endHandover _ s
  · exact .refl s

theorem keepsLaws_endLowIdleDwell (s : State) : KeepsLaws s (endLowIdleDwell s) :=
  (keepsLaws_mapIru _ s).trans (keepsLaws_autoStop _)

theorem keepsLaws_endIdleDwell (s : State) : KeepsLaws s (endIdleDwell s) := by
  unfold endIdleDwell
  dsimp only
  split
  · exact (keepsLaws_mapIru _ s).trans (keepsLaws_endLowIdleDwell _)
  · exact keepsLaws_mapIru _ s

theorem turn_execPrelubeMinimumExpiry (s : State) : TurnOutcome s (execPrelubeMinimumExpiry s) := by
  refine turnOutcome_next ?_
  refine turn_event false fun _ => ?_
  have h : KeepsLaws s (s.mapTimers fun x => { x with prelubeMinimum := none }) := keepsLaws_mapTimers _ s
  split
  · exact h.trans (keepsLaws_enterPriming _)
  · exact h

theorem turn_execRestTimerExpiry (s : State) : TurnOutcome s (execRestTimerExpiry s) := by
  refine turnOutcome_next ?_
  refine turn_event false fun _ => ?_
  have h : KeepsLaws s (s.mapTimers fun x => { x with rest := none }) := keepsLaws_mapTimers _ s
  split
  · exact h.trans (keepsLaws_endRest _)
  · exact h

theorem turn_execZeroHoldExpiryCrankRest (s : State) :
    TurnOutcome s (execZeroHoldExpiryCrankRest s) := by
  refine turnOutcome_next ?_
  refine turn_event false fun _ => ?_
  have h : KeepsLaws s
      (s.mapRsq fun r => { r with zeroConfirmed := true, timers := { r.timers with zeroHold := none } }) :=
    keepsLaws_mapRsq _ s rfl
  split
  · exact h.trans (keepsLaws_endRest _)
  · exact h

theorem turn_execStoreWriteCompletion (s : State) : TurnOutcome s (execStoreWriteCompletion s) := by
  refine turnOutcome_next ?_
  have h : KeepsLaws s (s.mapCfg fun c =>
      { c with store := c.active, storeGood := true, checkBad := false, defaulted := false, writing := false }) :=
    keepsLaws_mapCfg (.inl rfl) fun ⟨ra, re, _, la, _⟩ => ⟨ra, re, ra, la, la⟩
  split
  · exact (h.still rfl rfl rfl).rejudgeAttn
  · exact .refl s

/-! ### Every command, and every step -/

theorem turn_exec (c : Instr) (s : State) : TurnOutcome s (exec c s) := by
  cases c with
  | powerOn | resetLine => exact turnOutcome_next (turn_resetPart s)
  | selfCheckEnd => exact turnOutcome_next (turn_execSelfCheckEnd s)
  | linkBreak l =>
    have h : KeepsLaws s (leaveActive l .down (s.mapLink l (LinkIf.broken (s.cfg.active.baudOf l)))) :=
      (keepsLaws_mapLink l _ s).trans (keepsLaws_leaveActive l (by decide) _)
    exact turnOutcome_next (h.finish s false)
  | goodFrame l k q p =>
    refine turnOutcome_next ?_
    split
    · exact (turn_takeGoodFrame l _ s).rejudgeAttn
    · exact turn_mapLink l _ s
  | badFrame l | interByteGap l | replySent l => exact turnOutcome_next (turn_mapLink l _ s)
  | unknownKind l k q p =>
    refine turnOutcome_next ?_
    split
    · exact .refl s
    · exact ownerKeeps_of_state (fun _ => rfl) |>.request _ _ s
  | enrol l q p => exact turnOutcome_next ((ownerKeeps_ownerEnrol l p).request _ _ s)
  | status l q p => exact turnOutcome_next (ownerKeeps_of_state (fun _ => rfl) |>.request _ _ s)
  | demand l q p => exact turnOutcome_next (turn_execDemand l q p s)
  | claim l q p => exact turnOutcome_next ((ownerKeeps_ownerClaim l p).request _ _ s)
  | yield l q p => exact turnOutcome_next ((ownerKeeps_ownerYield l p).request _ _ s)
  | take l q p => exact turnOutcome_next ((ownerKeeps_ownerTake l p).request _ _ s)
  | keep l q p => exact turnOutcome_next ((ownerKeeps_ownerKeep l).request _ _ s)
  | resetProtection l q p => exact turnOutcome_next ((ownerKeeps_ownerResetProtection l p).request _ _ s)
  | resetAll l q p => exact turnOutcome_next ((ownerKeeps_ownerResetAll l).request _ _ s)
  | acknowledge l q p => exact turnOutcome_next (ownerKeeps_ownerAcknowledge.request _ _ s)
  | latch l q p => exact turnOutcome_next ((ownerKeeps_ownerLatch l p).request _ _ s)
  | readLatched l q p => exact turnOutcome_next (turn_readRequest _ l q p (ownerKeeps_ownerReadLatched l p) s)
  | readCrankHistory l q p =>
    exact turnOutcome_next (turn_readRequest _ l q p (ownerKeeps_of_state (ownerReadCrankHistory_state p)) s)
  | readProtectionTable l q p =>
    exact turnOutcome_next (turn_readRequest _ l q p (ownerKeeps_of_state (ownerReadProtectionTable_state p)) s)
  | readAnalogChannelRecords l q p =>
    exact turnOutcome_next (turn_readRequest _ l q p (ownerKeeps_of_state (ownerReadAnalogChannelRecords_state p)) s)
  | readSourceTableSummary l q p =>
    exact turnOutcome_next (turn_readRequest _ l q p (ownerKeeps_of_state (ownerReadSourceTableSummary_state p)) s)
  | readConfigurationEntry l q p =>
    exact turnOutcome_next (turn_readRequest _ l q p (ownerKeeps_of_state (ownerReadConfigurationEntry_state p)) s)
  | readEngineRunRecord l q p =>
    exact turnOutcome_next (turn_readRequest _ l q p (ownerKeeps_of_state (ownerReadEngineRunRecord_state p)) s)
  | force l q p => exact turnOutcome_next ((ownerKeeps_ownerForce p).request _ _ s)
  | releaseForce l q p => exact turnOutcome_next ((ownerKeeps_ownerReleaseForce p).request _ _ s)
  | mask l q p => exact turnOutcome_next ((ownerKeeps_ownerMask p).request _ _ s)
  | unmask l q p => exact turnOutcome_next ((ownerKeeps_ownerUnmask p).request _ _ s)
  | writeEntry l q p => exact turnOutcome_next ((ownerKeeps_ownerWriteEntry p).request _ _ s)
  | applyTable l q p => exact turnOutcome_next (ownerKeeps_ownerApply.request _ _ s)
  | lockGroup l q p => exact turnOutcome_next ((ownerKeeps_ownerLockGroup p).request _ _ s)
  | unlockGroup l q p => exact turnOutcome_next ((ownerKeeps_ownerUnlockGroup p).request _ _ s)
  | fixGroup l q p => exact turnOutcome_next ((ownerKeeps_ownerFixGroup p).request _ _ s)
  | clearTripCount l q p => exact turnOutcome_next ((ownerKeeps_ownerClearTripCount p).request _ _ s)
  | pickupPulse k =>
    exact turnOutcome_next ((keepsLaws_mapSpd _ s (by cases k <;> rfl)).still rfl rfl rfl)
  | windowCompletes =>
    exact turnOutcome_next (((keepsLaws_windowRsq s).trans
      (keepsLaws_pruEvent (f := windowPru s) (tableMove_windowReports _ _ _ _ _))).finish s true)
  | conversion c raw =>
    exact turnOutcome_next (turn_event false fun _ =>
      ((keepsLaws_converted c raw.toNat s).trans (keepsLaws_reportSensorRange _)).trans (keepsLaws_handOn c _))
  | holdTimerExpiry c => exact turnOutcome_next (turn_execHoldTimerExpiry c s)
  | discreteInputLevelChange d level =>
    refine turnOutcome_next ((keepsLaws_mapDiscrete d _ s fun w => .inl ?_).still rfl rfl rfl)
    unfold DiscreteRec.levelChanged at w
    split at w <;> exact w
  | debouncedChange d => exact turn_execDebouncedChange d s
  | filterTimerExpiry e =>
    exact turnOutcome_next (turn_event false fun hf => keepsLaws_pruEvent (tableMove_filterExpires _ hf))
  | prelubeMinimumExpiry => exact turn_execPrelubeMinimumExpiry s
  | prelubeLimitExpiry | primeTimerExpiry => exact turnOutcome_next (turn_event false fun _ => keepsLaws_failStart _ s)
  | engageTimerExpiry | crankLimitExpiry | batteryDropoutExpiry =>
    exact turnOutcome_next (turn_event false fun _ => keepsLaws_endAttempt _ _ s)
  | budgetTimerExpiry =>
    exact turnOutcome_next (turn_event false fun _ => (keepsLaws_mapRsq _ s rfl).trans (keepsLaws_abandonStart _ _))
  | accelerationTimerExpiry | stallTimerExpiry =>
    exact turnOutcome_next (turn_event false fun _ => (keepsLaws_mapRsq _ s rfl).trans (keepsLaws_failAttempt _))
  | lubeArmingExpiry =>
    refine turnOutcome_next ?_
    split
    · exact (keepsLaws_mapRsq _ s rfl).still rfl rfl rfl
    · exact .refl s
  | restTimerExpiry => exact turn_execRestTimerExpiry s
  | zeroHoldExpiryCrankRest => exact turn_execZeroHoldExpiryCrankRest s
  | zeroHoldExpiryRundown => exact turnOutcome_next (turn_event false fun _ => keepsLaws_comeToRest s)
  | unloadTimerExpiry => exact turnOutcome_next (turn_event false fun _ => keepsLaws_fuelOff s)
  | minuteTick =>
    exact turnOutcome_next (((keepsLaws_mapRsq _ s rfl).trans (keepsLaws_mapIru _ _)).still rfl rfl rfl)
  | freshnessTimerExpiry l => exact turnOutcome_next (turn_event false fun _ => keepsLaws_leaveActive l (by decide) s)
  | trainlineWireLevelChange x level =>
    exact turnOutcome_next
      ((keepsLaws_mapTrainline (s.aut.trainline.mapWire x (WireFilter.levelChanged level)) s .inl).still rfl rfl rfl)
  | trainlineDebouncedChange x =>
    exact turnOutcome_next (turn_event false fun _ => keepsLaws_trainlineEvent _ s (levelsChanged_debounce _ _ _ _))
  | settleTimerExpiry =>
    exact turnOutcome_next (turn_event false fun _ => keepsLaws_trainlineEvent _ s (settled_forced _))
  | invalidTimerExpiry => exact turnOutcome_next (turn_event false fun _ => keepsLaws_trainlineEvent _ s rfl)
  | stopHoldExpiry => exact turn_execStopHoldExpiry s
  | yieldStageExpiry => exact turn_execYieldStageExpiry s
  | takeStageExpiry => exact turn_execTakeStageExpiry s
  | dwellTimerExpiry => exact turnOutcome_next (turn_event true fun _ => keepsLaws_stopDwell s)
  | rampInterval => exact turnOutcome_next ((keepsLaws_rampLoad s).finish s true)
  | idleDwellExpiry => exact turnOutcome_next (turn_event false fun _ => keepsLaws_endIdleDwell s)
  | lowIdleDwellExpiry => exact turnOutcome_next (turn_event false fun _ => keepsLaws_endLowIdleDwell s)
  | autoStopTimerExpiry | batteryLowRestartExpiry =>
    exact turnOutcome_next (turn_event false fun _ => (keepsLaws_mapIru _ s).trans (keepsLaws_watchTrigger _))
  | storeWriteCompletion => exact turn_execStoreWriteCompletion s

theorem turn_step {s t : State} (h : step s = .next t) : Turn s t := by
  unfold step at h
  split at h
  · cases h
    exact .refl s
  · next c rest _ =>
    have hp : KeepsLaws s { s with pending := rest } := .of_same rfl rfl rfl rfl rfl rfl rfl
    exact (hp.still rfl rfl rfl).trans (turn_exec c _ t h)

/-- Settles O9: every move of the protection table keeps each entry proper, and the bell is judged after each. -/
theorem protectionTableStaysLawful : Obligations.ProtectionTableStaysLawful := by
  rintro s t ⟨hp, hb⟩ h
  exact ⟨(turn_step h).keeps.protection hp, (turn_step h).keeps.bell hb⟩

/-- Settles O11: within an event the load reference stays within the notch, and each event ends with LOAD PERMIT up to
date. -/
theorem loadReferenceStaysWithinTheNotch : Obligations.LoadReferenceStaysWithinTheNotch := by
  intro s t hs h
  rw [loadReferenceLaw_iff] at hs ⊢
  exact ⟨(turn_step h).keeps.load hs.1, (turn_step h).permit hs.2⟩

/-- Settles O13: SERVICE loses authority only together with every force and mask. -/
theorem sourcesForcesAndMasksStayLawful : Obligations.SourcesForcesAndMasksStayLawful := by
  rintro s t ⟨hs, hv⟩ h
  exact ⟨(turn_step h).keeps.source hs, (turn_step h).keeps.service hv⟩

end Sys2Proof.Machine
end

section
/-! SUPPORT. ACKNOWLEDGE, CLEAR TRIP COUNT, MASK and UNMASK (R89, R90, R94, R95). -/

namespace Sys2Proof.Machine

/-! ### ACKNOWLEDGE (R89, R90) -/

theorem exec_acknowledge {l : Link} {seq : Byte} {payload : List Byte} {s : State}
    (h : Heard l ⟨kindAcknowledge, seq, payload⟩ s) :
    exec (.acknowledge l seq payload) s = .next
      (conclude l ⟨kindAcknowledge, seq, payload⟩ (ownerAcknowledge (dequeued l s))) :=
  congrArg Host.Outcome.next (request_of_ready _ (h.ready (.inr (.inr (.inr rfl))))
    (by decide : knownKind kindAcknowledge = true)
    (fun w => absurd w (by decide : ¬serviceKind kindAcknowledge = true)))

theorem acknowledge_eq (r : EntryRec) :
    r.acknowledge = { r with acknowledged := r.inService || r.acknowledged } := by
  unfold EntryRec.acknowledge
  cases h : r.inService <;> simp

/-- With every entry in service acknowledged, the bell is not wanted (R89). -/
theorem bellWanted_acknowledgeAll (p : Pru) : (p.mapEntries EntryRec.acknowledge).bellWanted = false := by
  rw [Pru.bellWanted, List.any_eq_false]
  intro e _
  rw [Pru.entry_mapEntries, acknowledge_eq]
  change ¬((p.entry e).inService && !((p.entry e).inService || (p.entry e).acknowledged)) = true
  cases (p.entry e).inService <;> simp

/-- Settles O51: the request changes PRU alone, entry by entry. -/
theorem acknowledgeSilencesTheBell : Obligations.AcknowledgeSilencesTheBell := by
  intro l seq payload s h
  refine ⟨_, exec_acknowledge h, ⟨rfl, fun b hb => ?_⟩, replied_conclude rfl, fun e => ?_, ?_, rfl, rfl⟩
  · cases b <;> simp at hb <;> rfl
  · have hp : (conclude l ⟨kindAcknowledge, seq, payload⟩ (ownerAcknowledge (dequeued l s))).pru =
        ringBell (s.pru.mapEntries EntryRec.acknowledge) := rfl
    rw [hp, ringBell_entry, Pru.entry_mapEntries, acknowledge_eq]
  · exact bellWanted_acknowledgeAll s.pru

/-! ### CLEAR TRIP COUNT (R94) -/

/-- A Service request on another link is NOT PERMITTED (R169). -/
theorem screen_of_notService {l : Link} {f : Frame} {s : State} (h : Ready l f s) (hk : knownKind f.kind = true)
    (hs : serviceKind f.kind = true) (hl : l ≠ .service) :
    screenRequest l f (dequeued l s) = some (answer .notPermitted [] (dequeued l s)) := by
  obtain ⟨⟨-, hc, ha⟩, hd⟩ := h
  have hd' : deviates l f (dequeued l s) = false := hd
  simp [screenRequest, hc, hd', hk, ha, hs, hl]

theorem exec_clearTripCount {l : Link} {seq : Byte} {payload : List Byte} {s : State}
    (h : Ready l ⟨kindClearTripCount, seq, payload⟩ s) :
    exec (.clearTripCount l seq payload) s = .next
      (conclude l ⟨kindClearTripCount, seq, payload⟩
        (if l = .service then ownerClearTripCount payload (dequeued l s)
        else answer .notPermitted [] (dequeued l s))) := by
  refine congrArg Host.Outcome.next ?_
  by_cases hl : l = .service
  · rw [if_pos hl]
    exact request_of_ready _ h (by decide : knownKind kindClearTripCount = true) fun _ => hl
  · rw [if_neg hl]
    exact request_of_screened _ h.1.1 (by rw [h.1.2.2]; decide) 
      (screen_of_notService h (by decide : knownKind kindClearTripCount = true)
        (by decide : serviceKind kindClearTripCount = true) hl)

/-- The trip limits lie above 0 (R93, R179). -/
theorem Table.InRange.tripLimit_pos {t : Table} (h : t.InRange) {e : Entry} {n : Nat} (hn : tripLimit t e = some n) :
    0 < n := by
  have h1 : 0 < t.overspeedTripLimit := by
    have hf : (1 : Int) ≤ t.field 2 25 ∧ t.field 2 25 ≤ 15 := h 2 25 ⟨2, 1, 15⟩ rfl
    have he : t.overspeedTripLimit = (t.field 2 25).toNat := rfl
    omega
  have h7 : 0 < t.groundTripLimit := by
    have hf : (1 : Int) ≤ t.field 2 26 ∧ t.field 2 26 ≤ 15 := h 2 26 ⟨3, 1, 15⟩ rfl
    have he : t.groundTripLimit = (t.field 2 26).toNat := rfl
    omega
  unfold tripLimit at hn
  (repeat' split at hn) <;> cases hn
  · exact h1
  · exact h7

/-- A trip count of 0 is under every trip limit. -/
theorem heldByLimit_of_zero {l : Link} {s : State} {e : Entry} (hr : s.cfg.active.InRange)
    (h0 : (s.pru.entry e).tripCount = 0) : heldByLimit l s e = false := by
  have ho : overTripLimit s.cfg.active e (s.pru.entry e) = false := by
    unfold overTripLimit
    split
    · next n hn =>
      have := hr.tripLimit_pos hn
      simp [h0]
      omega
    · rfl
  simp [heldByLimit, ho]

/-- The reset of a HELD entry under no trip limit is DONE (R91). -/
theorem replied_resetProtection {k : Link} {q : Byte} {e : Entry} {u : State}
    (h : Ready k ⟨kindResetProtection, q, [byte e.val]⟩ u) (hh : u.aut.holds k = true)
    (hs : (u.pru.entry e).state = .held) (hl : heldByLimit k u e = false) :
    ∃ v, exec (.resetProtection k q [byte e.val]) u = .next v ∧
      Replied k ⟨kindResetProtection, q, [byte e.val]⟩ .done [] u v := by
  have ho : ownerResetProtection k [byte e.val] (dequeued k u) =
      answer .done [] (settle (dequeued k u) false (pruEvent (leaveAll [e]) (dequeued k u))) := by
    have hm : mayReset k (dequeued k u) = true := by simp [mayReset, hh]
    have hl' : heldByLimit k (dequeued k u) e = false := hl
    simp [ownerResetProtection, entryOperand_byte, hm, hs, hl']
    rfl
  refine ⟨_, exec_resetProtection h, ?_⟩
  rw [ho]
  exact replied_conclude (resetEvent_links [e] _ _)

/-- Settles O52: the count is the one thing that changes, and 0 is under every trip limit. -/
theorem clearTripCountLiftsTheLimit : Obligations.ClearTripCountLiftsTheLimit := by
  intro l seq payload s h f
  refine ⟨_, exec_clearTripCount h, ?_, fun hl => ?_, fun hl => ⟨fun hp => ?_, ?_⟩⟩
  · unfold ownerClearTripCount
    refine ⟨?_, fun b hb => ?_⟩
    · (repeat' split) <;> rfl
    · cases b <;> simp at hb <;> ((repeat' split) <;> rfl)
  · rw [if_neg hl]
    exact ⟨replied_conclude rfl, rfl⟩
  · rw [if_pos hl, ownerClearTripCount, entryOperand_none hp]
    exact ⟨replied_conclude rfl, rfl⟩
  · rintro e rfl
    rw [if_pos hl, ownerClearTripCount, entryOperand_byte]
    refine ⟨replied_conclude rfl, rfl, fun hs hr k q u hu hh hp hc => ?_⟩
    have he : u.pru.entry e = { s.pru.entry e with tripCount := 0 } := by
      rw [hp]
      exact Pru.entry_setEntry_same _ _ _
    exact replied_resetProtection hu hh (by rw [he]; exact hs)
      (heldByLimit_of_zero (by rw [hc]; exact hr) (by rw [he]))

/-! ### MASK and UNMASK (R95) -/

theorem exec_mask {seq : Byte} {payload : List Byte} {s : State} (h : Ready .service ⟨kindMask, seq, payload⟩ s) :
    exec (.mask .service seq payload) s = .next
      (conclude .service ⟨kindMask, seq, payload⟩ (ownerMask payload (dequeued .service s))) :=
  congrArg Host.Outcome.next (request_of_ready _ h (by decide : knownKind kindMask = true) fun _ => rfl)

theorem exec_unmask {seq : Byte} {payload : List Byte} {s : State} (h : Ready .service ⟨kindUnmask, seq, payload⟩ s) :
    exec (.unmask .service seq payload) s = .next
      (conclude .service ⟨kindUnmask, seq, payload⟩ (ownerUnmask payload (dequeued .service s))) :=
  congrArg Host.Outcome.next (request_of_ready _ h (by decide : knownKind kindUnmask = true) fun _ => rfl)

theorem maskOperand_none {payload : List Byte} (h : ∀ e : Entry, payload ≠ [byte e.val]) (s : State) :
    maskOperand payload s = .error .badField := by
  rw [maskOperand, entryOperand_none h]

/-- The tests that MASK and UNMASK make of an entry, in their order (R95). -/
def maskRefusal (s : State) (e : Entry) : Option Result :=
  if s.aut.holds .service = false then some .notHolder else if e.val ≤ 5 then some .notPermitted else none

theorem maskOperand_byte (e : Entry) (s : State) :
    maskOperand [byte e.val] s =
      match maskRefusal s e with
      | some r => .error r
      | none => .ok e := by
  rw [maskOperand, entryOperand_byte, maskRefusal]
  by_cases hh : s.aut.holds .service = false
  · simp [hh]
  · by_cases h5 : e.val ≤ 5 <;> simp [hh, h5]

theorem maskOperand_of_refusal {e : Entry} {s : State} {r : Result} (h : maskRefusal s e = some r) :
    maskOperand [byte e.val] s = .error r := by
  rw [maskOperand_byte, h]

theorem maskOperand_of_allowed {e : Entry} {s : State} (h : maskRefusal s e = none) :
    maskOperand [byte e.val] s = .ok e := by
  rw [maskOperand_byte, h]

theorem gt_of_maskRefusal {e : Entry} {s : State} (h : maskRefusal s e = none) : 5 < e.val :=
  (maskOperand_ok (maskOperand_of_allowed h)).1

/-- The record of an entry whose mask is cleared (R75, R77). -/
theorem unmasked_eq (r : EntryRec) :
    r.unmasked =
      if r.state = .pending then
        { r with
          masked := false, state := .active, acknowledged := false, tripCount := min 65535 (r.tripCount + 1) }
      else { r with masked := false } := by
  cases hs : r.state <;> simp [EntryRec.unmasked, EntryRec.entered, hs, satInc_eq_min]

/-- The state in which the event of a cleared mask is handed on. -/
def maskCleared (e : Entry) (s : State) : State := s.mapPru fun p => ringBell (clearMask e p)

/-- An entry that may be masked is no SHUTDOWN: RSQ hears nothing of its mask. -/
theorem onlyNtu_clearMask {e : Entry} (h : 5 < e.val) (s : State) :
    OnlyNtu (maskCleared e s) (pruEvent (clearMask e) s) := by
  have hc : classOf e ≠ .shutdown := by
    revert h e
    decide
  obtain ⟨hn, hl⟩ := sameShutdown_setEntry (p := s.pru) (r := (s.pru.entry e).unmasked) hc
  exact handOff_of_not_entered (s := maskCleared e s) hn hl

/-- What UNMASK leaves of a state, its entry being one that may be masked. -/
theorem unmask_concluded {e : Entry} (he : 5 < e.val) (s : State) (f : Frame) :
    let t := conclude .service f
      (answer .done [] (settle (dequeued .service s) false (pruEvent (clearMask e) (dequeued .service s))))
    Replied .service f .done [] s t ∧ Settled t ∧ Unchanged [.ins, .cfg] s t ∧
      (s.rsq.engine ≠ .unloading →
        Unchanged [.rsq, .spd, .aut] s t ∧ t.pru = ringBell (s.pru.setEntry e (s.pru.entry e).unmasked)) := by
  have ho := onlyNtu_clearMask he (dequeued .service s)
  generalize pruEvent (clearMask e) (dequeued .service s) = v at ho
  have hv : v.links = (dequeued .service s).links ∧ v.cfg = s.cfg ∧ v.ins = s.ins ∧ v.pending = s.pending := by
    rw [ho]
    exact ⟨rfl, rfl, rfl, rfl⟩
  obtain ⟨hl, hc, hi, hq⟩ := hv
  obtain ⟨hrep, hset, hcfg, hin⟩ := force_concluded (f := f) hl hc hq
  refine ⟨hrep, hset, hcfg.with .ins (hin.ins.trans hi), fun hne => ?_⟩
  obtain ⟨hr, hs, hp, ha⟩ := conclude_settle_of_ne (v := v) (by rw [ho.rsq]; exact hne) (dequeued .service s) f
  exact ⟨unchanged_cons (hr.trans ho.rsq) (unchanged_cons (hs.trans ho.spd) (unchanged_cons (ha.trans ho.aut)
    (unchanged_nil hcfg.1))), hp.trans ho.pru⟩

/-- Settles O53: the two requests share their tests; past them one entry is written, and what a cleared mask lets into
service is no SHUTDOWN. -/
theorem masksHoldEntriesBack : Obligations.MasksHoldEntriesBack := by
  intro seq payload s refusal unchanged
  have href : ∀ e, refusal e = maskRefusal (dequeued .service s) e := fun _ => rfl
  refine ⟨fun h => ⟨_, exec_mask h, fun hp => ?_, ?_⟩, fun h => ⟨_, exec_unmask h, fun hp => ?_, ?_⟩⟩
  · rw [ownerMask, maskOperand_none hp]
    exact refused_conclude _ _ _ _ _
  · rintro e rfl
    refine ⟨fun r hr => ?_, fun hr => ?_⟩ <;> rw [href] at hr
    · rw [ownerMask, maskOperand_of_refusal hr]
      exact refused_conclude _ _ _ _ _
    · rw [ownerMask, maskOperand_of_allowed hr]
      refine ⟨⟨rfl, fun b hb => ?_⟩, replied_conclude rfl, rfl⟩
      cases b <;> simp at hb <;> rfl
  · rw [ownerUnmask, maskOperand_none hp]
    exact refused_conclude _ _ _ _ _
  · rintro e rfl
    refine ⟨fun r hr => ?_, fun hr => ?_⟩ <;> rw [href] at hr
    · rw [ownerUnmask, maskOperand_of_refusal hr]
      exact refused_conclude _ _ _ _ _
    · rw [ownerUnmask, maskOperand_of_allowed hr]
      obtain ⟨h1, h2, h3, h4⟩ := unmask_concluded (gt_of_maskRefusal hr) s ⟨kindUnmask, seq, [byte e.val]⟩
      refine ⟨h1, h2, h3, fun hne => ?_⟩
      obtain ⟨hu, hp⟩ := h4 hne
      dsimp only
      rw [BellLaw, hp]
      refine ⟨hu, rfl, rfl, rfl, fun k hk => ?_, ?_⟩
      · rw [ringBell_entry, Pru.entry_setEntry_other _ _ hk]
      · rw [ringBell_entry, Pru.entry_setEntry_same, unmasked_eq]

end Sys2Proof.Machine
end

section
/-! SUPPORT. What a change of holder leaves of AUT, with no handover in flight, and YIELD (R96, R118, R121, R124, R133,
R134, R136). -/

namespace Sys2Proof.Machine

/-! ### AUT, with no handover in flight -/

theorem claimedBy_of_none {a : Aut} (h : a.handover = none) (l : Link) : a.claimedBy l = false := by
  simp [Aut.claimedBy, h]

/-- An event that RSQ answers leaves AUT alone. -/
theorem MovesEngine.aut_of_none {s t : State} (h : MovesEngine s t) (hn : s.aut.handover = none) : t.aut = s.aut :=
  h.aut (claimedBy_of_none hn .service)

theorem pruEvent_aut_of_none (f : Pru → Pru) {s : State} (h : s.aut.handover = none) : (pruEvent f s).aut = s.aut :=
  (movesEngine_handOff s.pru (s.mapPru fun p => ringBell (f p))).aut_of_none h

theorem discreteChanged_aut_of_none (d : Discrete) (v : Bool) {s : State} (h : s.aut.handover = none) :
    (discreteChanged d v s).aut = s.aut := by
  unfold discreteChanged
  cases d <;> dsimp only
  case emergencyStop | groundRelay => exact pruEvent_aut_of_none _ h
  case starterEngaged => split <;> rfl

theorem forceDiscrete_aut_of_none (d : Discrete) (v : Option Bool) {s : State} (h : s.aut.handover = none) :
    (forceDiscrete d v s).aut = s.aut := by
  unfold forceDiscrete
  dsimp only
  split
  · rfl
  · exact discreteChanged_aut_of_none _ _ h

theorem releaseInputs_aut_of_none {s : State} (h : s.aut.handover = none) : (releaseInputs s).aut = s.aut := by
  have hd (d : Discrete) {u : State} (hu : u.aut = s.aut) : (forceDiscrete d none u).aut = s.aut :=
    (forceDiscrete_aut_of_none d none (by rw [hu, h])).trans hu
  exact hd _ (hd _ (hd _ (hd _ rfl)))

theorem forceWires_aut (v : Option WireLevels) (s : State) :
    (forceWires v s).aut = { s.aut with trainline := (forceWires v s).aut.trainline } := by
  rw [forceWires, trainlineChange_eq]
  rfl

/-- Forces and masks cleared leave of AUT all but the trainline (R136). -/
theorem clearForcesAndMasks_aut_of_none {s : State} (h : s.aut.handover = none) :
    (clearForcesAndMasks s).aut = { s.aut with trainline := (clearForcesAndMasks s).aut.trainline } := by
  have hi := releaseInputs_aut_of_none h
  have hw := forceWires_aut none (releaseInputs s)
  have hc : (clearForcesAndMasks s).aut = (forceWires none (releaseInputs s)).aut :=
    pruEvent_aut_of_none _ (by rw [hw, hi]; exact h)
  rw [hc, hw, hi]

theorem serviceLaw_afterHolderChange {s : State} (h : s.aut.holder ≠ some .service) :
    ServiceLaw (afterHolderChange (some .service) s) := by
  unfold afterHolderChange
  extract_lets s1 s2
  have h1 : s1 = clearForcesAndMasks s := if_pos ⟨rfl, h⟩
  have h2 : ServiceLaw s2 := (keepsLaws_autoTake s1).service (h1 ▸ serviceLaw_clearForcesAndMasks s)
  split
  · exact (keepsLaws_demandArrival _ _ s2).service h2
  · exact h2

/-- Under the law of forces and masks, a state whose holder is not SERVICE has none (R95, R136). -/
theorem ServiceLaw.released {s : State} (h : ServiceLaw s) (hh : s.aut.holder ≠ some .service) :
    forcesActive s = false ∧ ∀ e : Entry, (s.pru.entry e).masked = false := by
  refine ⟨?_, fun e => ?_⟩ <;> rw [← Bool.not_eq_true]
  · exact fun w => hh (h.1 w)
  · exact fun w => hh (h.2 e w)

theorem autoTake_of_held {a : Aut} (h : a.holder ≠ none) : autoTake a = a := if_neg fun w => h w.1

theorem autoTake_of_vacant {a : Aut} (h : a.holder = none) :
    autoTake a = if a.trainline.state = .live then grantTrainline a else a := by
  simp [autoTake, h]

/-- A change of holder away from a source other than SERVICE: the auto-take, and the demand of a trainline that has been
granted authority. -/
theorem movesEngine_afterHolderChange {old : Option Source} (s : State) (h : old ≠ some .service) :
    MovesEngine (s.mapAut autoTake) (afterHolderChange old s) := by
  unfold afterHolderChange
  extract_lets s1 s2
  have h1 : s1 = s := if_neg fun w => h w.1
  have h2 : s2 = s.mapAut autoTake := congrArg (State.mapAut autoTake) h1
  rw [h2]
  split
  · exact movesEngine_demandArrival _ _ _
  · exact .refl _

/-- A change of holder to nobody, the trainline not LIVE: nothing else happens. -/
theorem afterHolderChange_of_vacant {old : Option Source} {s : State} (h : old ≠ some .service)
    (hh : s.aut.holder = none) (hl : s.aut.trainline.state ≠ .live) : afterHolderChange old s = s := by
  unfold afterHolderChange
  extract_lets s1 s2
  have h1 : s1 = s := if_neg fun w => h w.1
  have h2 : s2 = s := by
    have ha : autoTake s.aut = s.aut := by rw [autoTake_of_vacant hh, if_neg hl]
    unfold s2
    rw [h1, State.mapAut, ha]
  rw [h2, if_neg (by simp [hh])]

/-- A change of holder with no handover in flight leaves AUT, but for the trainline, to the auto-take; a LIVE trainline
may have come of the forces released. -/
theorem afterHolderChange_aut_of_none (old : Option Source) {s : State} (h : s.aut.handover = none) :
    ∃ x : Trainline, (afterHolderChange old s).aut = autoTake { s.aut with trainline := x } := by
  unfold afterHolderChange
  extract_lets s1 s2
  have h1 : s1.aut = { s.aut with trainline := s1.aut.trainline } := by
    unfold s1
    split
    · exact clearForcesAndMasks_aut_of_none h
    · rfl
  have h2 : s2.aut = autoTake { s.aut with trainline := s1.aut.trainline } := congrArg autoTake h1
  refine ⟨s1.aut.trainline, ?_⟩
  split
  · refine ((movesEngine_demandArrival _ _ s2).aut_of_none ?_).trans h2
    rw [h2]
    unfold autoTake grantTrainline
    split <;> exact h
  · exact h2

theorem autoTake_source (a : Aut) (l : Link) : (autoTake a).source l = a.source l := by
  unfold autoTake grantTrainline
  split <;> cases l <;> rfl

theorem autoTake_holder (a : Aut) :
    (autoTake a).holder = if a.holder = none ∧ a.trainline.state = .live then some .trainline else a.holder := by
  unfold autoTake grantTrainline
  split <;> rfl

theorem autoTake_handover (a : Aut) : (autoTake a).handover = a.handover := by
  unfold autoTake grantTrainline
  split <;> rfl

/-! ### YIELD (R124, R133, R134) -/

theorem exec_yield {l : Link} {seq : Byte} {payload : List Byte} {s : State}
    (h : Ready l ⟨kindYield, seq, payload⟩ s) :
    exec (.yield l seq payload) s = .next
      (conclude l ⟨kindYield, seq, payload⟩ (ownerYield l payload (dequeued l s))) :=
  congrArg Host.Outcome.next (request_of_ready _ h (by decide : knownKind kindYield = true)
    (fun w => absurd w (by decide : ¬serviceKind kindYield = true)))

theorem ownerYield_of_length {l : Link} {payload : List Byte} {s : State} (h : payload.length ≠ 1) :
    ownerYield l payload s = answer .badField [] s := by
  unfold ownerYield
  split
  · exact absurd rfl h
  · rfl

theorem ownerYield_of_gt {l : Link} {target : Byte} {s : State} (h : 4 < target.toNat) :
    ownerYield l [target] s = answer .badField [] s := by
  simp [ownerYield, h]

theorem ownerYield_of_notHolder {l : Link} {target : Byte} {s : State} (h4 : target.toNat ≤ 4)
    (h : s.aut.holds l = false) :
    ownerYield l [target] s =
      answer (if s.aut.inStage .awaitTake = true then .refusedState else .notHolder) [] s := by
  simp only [ownerYield, if_neg (Nat.not_lt.2 h4), h, if_true]
  split <;> rfl

/-! The owner's answer to a holder, by the target. -/

theorem ownerYield_nobody {l : Link} {s : State} (h : s.aut.holds l = true) :
    ownerYield l [byte 0] s =
      if s.aut.inStage .awaitYield = true then answer .handoverBusy [] s
      else answer .done [] (settle s false (releaseHolder s)) := by
  simp [ownerYield, h, byte]

theorem ownerYield_trainline {l : Link} {s : State} (h : s.aut.holds l = true) :
    ownerYield l [byte 2] s =
      if s.aut.inStage .awaitYield = true then answer .handoverBusy [] s
      else if liveForYield l s = true then answer .done [] (settle s false (yieldToTrainline s))
      else answer .refusedState [] s := by
  simp [ownerYield, h, byte]

theorem ownerYield_source {l : Link} {target : Byte} {s : State}
    (ht : target.toNat = 1 ∨ target.toNat = 3 ∨ target.toNat = 4) (h : s.aut.holds l = true) :
    ownerYield l [target] s =
      if s.aut.inStage .awaitYield = true ∧ s.aut.claimantCode = target.toNat then
        answer .done [] (settle s false (advanceHandover s))
      else answer .refusedState [] s := by
  have h4 : ¬4 < target.toNat := by omega
  have h0 : target ≠ 0 := by bv_omega
  have h2 : target ≠ 2 := by bv_omega
  simp only [ownerYield, h4, h, h0, h2, Bool.true_eq_false, if_false]

theorem inStage_of_none {a : Aut} (h : a.handover = none) (g : Stage) : a.inStage g = false := by
  simp [Aut.inStage, h]

/-- The state that a request leaves which is DONE, its owner's work having led to `v`. -/
def requestDone (l : Link) (f : Frame) (s v : State) : State :=
  conclude l f (answer .done [] (settle (dequeued l s) false v))

section

variable {l : Link} {f : Frame} {s v : State}

theorem requestDone_replied (hl : v.links = (dequeued l s).links) :
    Replied l f .done [] s (requestDone l f s v) ∧ Settled (requestDone l f s v) :=
  ⟨replied_conclude ((movesEngine_settle _ _ v).links.trans hl), settled_conclude _ _ _ _ _ _ _⟩

theorem requestDone_aut_of_none (h : v.aut.handover = none) : (requestDone l f s v).aut = v.aut :=
  (movesEngine_settle _ _ v).aut_of_none h

theorem requestDone_serviceLaw (h : ServiceLaw v) : ServiceLaw (requestDone l f s v) :=
  have hv : ServiceLaw (settle (dequeued l s) false v) := (keepsLaws_settle (dequeued l s) false v).service h
  (turn_conclude l f (answer .done [] (settle (dequeued l s) false v))).keeps.service hv

theorem requestDone_unchanged (hi : v.ins = s.ins) (hc : v.cfg = s.cfg) (hq : v.pending = s.pending) :
    Unchanged [.ins, .cfg] s (requestDone l f s v) := by
  have hm := movesEngine_settle (dequeued l s) false v
  have ki : AgreesOn s (settle (dequeued l s) false v) .ins := hm.ins.trans hi
  have kc : AgreesOn s (settle (dequeued l s) false v) .cfg := hm.cfg.trans hc
  exact unchanged_cons (agreesOn_conclude ki _ _ _ _) (unchanged_cons (agreesOn_conclude kc _ _ _ _)
    (unchanged_nil (hm.pending.trans hq)))

/-- Outside UNLOADING the end of the request moves only NTU and IRU. -/
theorem requestDone_of_ne (h : v.rsq.engine ≠ .unloading) :
    (requestDone l f s v).rsq = v.rsq ∧ (requestDone l f s v).spd = v.spd ∧ (requestDone l f s v).pru = v.pru ∧
      (requestDone l f s v).aut = v.aut := by
  simpa only [requestDone, conclude_answer_rsq, conclude_answer_spd, conclude_answer_pru, conclude_answer_aut]
    using settle_of_ne h

end

/-! ### YIELD to nobody (R134) -/

/-- The state in which the holder has just given up authority. -/
def vacated (l : Link) (s : State) : State := (dequeued l s).mapAut fun a => { a with holder := none }

theorem releaseHolder_eq (l : Link) (s : State) :
    releaseHolder (dequeued l s) = afterHolderChange s.aut.holder (vacated l s) := rfl

theorem holder_of_holds {a : Aut} {l : Link} (h : a.holds l = true) : a.holder = some (linkSource l) := by
  simpa [Aut.holds] using h

theorem holder_ne_service {a : Aut} {l : Link} (h : a.holds l = true) (hl : l ≠ .service) :
    a.holder ≠ some .service := by
  rw [holder_of_holds h]
  cases l <;> simp_all [linkSource]

/-- What a YIELD to nobody leaves of AUT and of forces and masks. -/
theorem yield_nobody {l : Link} {s : State} {f : Frame} (hh : s.aut.holds l = true) (hn : s.aut.handover = none) :
    let t := requestDone l f s (releaseHolder (dequeued l s))
    let live := decide (s.aut.trainline.state = .live)
    (t.aut.source l).outcome = (s.aut.source l).outcome ∧ (t.aut.holder = none ∨ t.aut.holder = some .trainline) ∧
      (l = .service → forcesActive t = false ∧ ∀ e : Entry, (t.pru.entry e).masked = false) ∧
      (l ≠ .service → t.aut.holder = if live = true then some .trainline else none) ∧
      (l ≠ .service → live = false → s.rsq.engine ≠ .unloading →
        Unchanged [.rsq, .spd, .ins, .pru, .cfg] s t ∧ t.aut = { s.aut with holder := none }) := by
  intro t live
  obtain ⟨x, hx⟩ := afterHolderChange_aut_of_none s.aut.holder (s := vacated l s) hn
  have ht : t.aut = autoTake { s.aut with trainline := x, holder := none } :=
    (requestDone_aut_of_none (by rw [releaseHolder_eq, hx, autoTake_handover]; exact hn)).trans hx
  have hholder : t.aut.holder = none ∨ t.aut.holder = some .trainline := by
    rw [ht, autoTake_holder]
    split
    · exact .inr rfl
    · exact .inl rfl
  refine ⟨?_, hholder, fun hl => ?_, fun hl => ?_, fun hl hlive hne => ?_⟩
  · rw [ht, autoTake_source]
    cases l <;> rfl
  · have hs : s.aut.holder = some .service := by rw [holder_of_holds hh, hl]; rfl
    refine (requestDone_serviceLaw ?_).released fun w => ?_
    · rw [releaseHolder_eq, hs]
      exact serviceLaw_afterHolderChange (by simp [vacated])
    · have w' : t.aut.holder = some .service := w
      rcases hholder with h | h <;> simp [h] at w'
  · have hm := movesEngine_afterHolderChange (vacated l s) (holder_ne_service hh hl)
    have ha : t.aut = autoTake { s.aut with holder := none } := by
      refine (requestDone_aut_of_none ?_).trans (hm.aut_of_none ?_)
      · rw [releaseHolder_eq, hx, autoTake_handover]
        exact hn
      · exact (autoTake_handover _).trans hn
    rw [ha, autoTake_holder]
    simp [live]
  · have hv : releaseHolder (dequeued l s) = vacated l s := by
      rw [releaseHolder_eq]
      exact afterHolderChange_of_vacant (holder_ne_service hh hl) rfl (of_decide_eq_false hlive)
    have hr : t = requestDone l f s (vacated l s) := congrArg (requestDone l f s) hv
    obtain ⟨h1, h2, h3, h4⟩ := requestDone_of_ne (l := l) (f := f) (s := s) (v := vacated l s) hne
    rw [hr]
    have hu : Unchanged [.ins, .cfg] s (requestDone l f s (vacated l s)) := requestDone_unchanged rfl rfl rfl
    exact ⟨unchanged_cons h1 (unchanged_cons h2 (unchanged_cons (hu.2 .ins (by simp)) (unchanged_cons h3
      (unchanged_cons (hu.2 .cfg (by simp)) (unchanged_nil hu.1))))), h4⟩

/-! ### YIELD to the trainline (R133) -/

/-- The state in which the trainline has just been given authority. -/
def handedToTrainline (l : Link) (s : State) : State := (dequeued l s).mapAut grantTrainline

theorem yieldToTrainline_eq (l : Link) (s : State) :
    yieldToTrainline (dequeued l s) = afterHolderChange s.aut.holder (handedToTrainline l s) := rfl

/-- What a YIELD to the trainline leaves of AUT and of forces and masks. -/
theorem yield_trainline {l : Link} {s : State} {f : Frame} (hh : s.aut.holds l = true) (hn : s.aut.handover = none) :
    let t := requestDone l f s (yieldToTrainline (dequeued l s))
    t.aut.holder = some .trainline ∧
      (l = .service → forcesActive t = false ∧ ∀ e : Entry, (t.pru.entry e).masked = false) ∧
      (l ≠ .service →
        Unchanged [.ins, .cfg] s t ∧ t.aut.trainline = { s.aut.trainline with fresh := true }) := by
  intro t
  obtain ⟨x, hx⟩ := afterHolderChange_aut_of_none s.aut.holder (s := handedToTrainline l s) hn
  have hd : (yieldToTrainline (dequeued l s)).aut.handover = none := by
    rw [yieldToTrainline_eq, hx, autoTake_handover]
    exact hn
  have ht : t.aut = autoTake { grantTrainline s.aut with trainline := x } := (requestDone_aut_of_none hd).trans hx
  have hholder : t.aut.holder = some .trainline := by
    rw [ht, autoTake_holder]
    rfl
  refine ⟨hholder, fun hl => ?_, fun hl => ?_⟩
  · have hs : s.aut.holder = some .service := by rw [holder_of_holds hh, hl]; rfl
    refine (requestDone_serviceLaw ?_).released fun w => ?_
    · rw [yieldToTrainline_eq, hs]
      exact serviceLaw_afterHolderChange (by simp [handedToTrainline, grantTrainline])
    · have w' : t.aut.holder = some .service := w
      simp [hholder] at w'
  · have hm := movesEngine_afterHolderChange (handedToTrainline l s) (holder_ne_service hh hl)
    have ha : t.aut = grantTrainline s.aut :=
      ((requestDone_aut_of_none hd).trans (hm.aut_of_none ((autoTake_handover _).trans hn))).trans
        (autoTake_of_held (a := grantTrainline s.aut) (by simp [grantTrainline]))
    exact ⟨requestDone_unchanged hm.ins hm.cfg hm.pending, by rw [ha]; rfl⟩

theorem liveForYield_of_link {l : Link} (h : l ≠ .service) (s : State) :
    liveForYield l s = decide (s.aut.trainline.state = .live) := by
  cases l
  case service => exact absurd rfl h
  all_goals rfl

theorem liveForYield_service (s : State) :
    liveForYield .service s = true ↔
      s.cfg.active.trainlineFollow = true ∧ s.aut.trainline.wires.debouncedLevels.run = true := by
  unfold liveForYield trainlineStateOf
  cases s.cfg.active.trainlineFollow <;> cases s.aut.trainline.wires.debouncedLevels.run <;> simp

/-! ### YIELD to the claimant (R124) -/

/-- What a YIELD to the claimant leaves: the stage moves on. -/
theorem yield_claimant {l : Link} {s : State} {f : Frame} {h : Handover} (hh : s.aut.handover = some h) :
    let t := requestDone l f s (advanceHandover (dequeued l s))
    Unchanged [.ins, .cfg] s t ∧
      (s.rsq.engine ≠ .unloading →
        Unchanged [.rsq, .spd, .pru] s t ∧
          t.aut = { s.aut with
            handover := some { h with stage := .awaitTake, timer := some (tenthsMs s.cfg.active.takeTime) } }) := by
  intro t
  have hu : Unchanged [.ins, .cfg] s t := requestDone_unchanged rfl rfl rfl
  refine ⟨hu, fun hne => ?_⟩
  obtain ⟨h1, h2, h3, h4⟩ := requestDone_of_ne (l := l) (f := f) (s := s) (v := advanceHandover (dequeued l s)) hne
  refine ⟨unchanged_cons h1 (unchanged_cons h2 (unchanged_cons h3 (unchanged_nil hu.1))), h4.trans ?_⟩
  simp [advanceHandover, hh]

theorem byte_eq_of_toNat {b : Byte} {n : Nat} (h : b.toNat = n) : b = byte n := by
  rw [← h]
  simp [byte]

/-- Settles O31: the target decides; each change of holder is one operation of AUT's and what follows from it. -/
theorem yieldMovesAuthority : Obligations.YieldMovesAuthority := by
  refine ⟨fun l seq payload s h hlen => ⟨_, exec_yield h, ?_⟩, fun l seq target s h => ?_⟩
  · rw [ownerYield_of_length hlen]
    exact refused_conclude _ _ _ _ _
  intro f refused live released
  refine ⟨_, exec_yield h, fun h4 => ?_, fun h4 hh => ?_, fun ht hh hs => ?_, fun ht hh hn => ?_,
    fun ht hh hn hl => ?_, fun ht hh hn hl => ?_, fun ht hh => ⟨fun x hx hst hco => ?_, fun hx => ?_⟩⟩
  · rw [ownerYield_of_gt h4]
    exact refused_conclude _ _ _ _ _
  · rw [ownerYield_of_notHolder (s := dequeued l s) h4 hh]
    exact refused_conclude _ _ _ _ _
  · have hs' : (dequeued l s).aut.inStage .awaitYield = true := hs
    rcases ht with ht | ht <;> obtain rfl := byte_eq_of_toNat ht
    · rw [ownerYield_nobody (s := dequeued l s) hh, if_pos hs']
      exact refused_conclude _ _ _ _ _
    · rw [ownerYield_trainline (s := dequeued l s) hh, if_pos hs']
      exact refused_conclude _ _ _ _ _
  · obtain rfl := byte_eq_of_toNat ht
    have hs : ¬(dequeued l s).aut.inStage .awaitYield = true := ne_true_of_eq_false (inStage_of_none hn _)
    rw [ownerYield_nobody (s := dequeued l s) hh, if_neg hs]
    obtain ⟨hrep, hset⟩ := requestDone_replied (l := l) (f := f) (s := s) (v := releaseHolder (dequeued l s))
      (by simp)
    exact ⟨hrep, hset, yield_nobody hh hn⟩
  · obtain rfl := byte_eq_of_toNat ht
    have hs : ¬(dequeued l s).aut.inStage .awaitYield = true := ne_true_of_eq_false (inStage_of_none hn _)
    have hlive : liveForYield l (dequeued l s) = live := liveForYield_of_link hl _
    rw [ownerYield_trainline (s := dequeued l s) hh, if_neg hs, hlive]
    cases live with
    | false => exact refused_conclude _ _ _ _ _
    | true =>
      obtain ⟨hrep, hset⟩ := requestDone_replied (l := l) (f := f) (s := s) (v := yieldToTrainline (dequeued l s))
        (by simp [yieldToTrainline])
      obtain ⟨hholder, -, hrest⟩ := yield_trainline (f := f) hh hn
      obtain ⟨hu, hline⟩ := hrest hl
      exact ⟨hrep, hset, hu, hholder, hline⟩
  · obtain rfl := byte_eq_of_toNat ht
    subst hl
    have hs : ¬(dequeued .service s).aut.inStage .awaitYield = true := ne_true_of_eq_false (inStage_of_none hn _)
    intro wires
    have hlive : liveForYield .service (dequeued .service s) = true ↔
        s.cfg.active.trainlineFollow = true ∧ wires.run = true := liveForYield_service (dequeued .service s)
    rw [ownerYield_trainline (s := dequeued .service s) hh, if_neg hs]
    by_cases hw : liveForYield .service (dequeued .service s) = true
    · rw [if_pos hw, if_pos (hlive.1 hw)]
      obtain ⟨hrep, hset⟩ := requestDone_replied (l := .service) (f := f) (s := s)
        (v := yieldToTrainline (dequeued .service s)) (by simp [yieldToTrainline])
      obtain ⟨hholder, hrel, -⟩ := yield_trainline (f := f) hh hn
      exact ⟨hrep, hset, hholder, hrel rfl⟩
    · rw [if_neg hw, if_neg fun w => hw (hlive.2 w)]
      exact refused_conclude _ _ _ _ _
  · have hs : (dequeued l s).aut.inStage .awaitYield = true ∧ (dequeued l s).aut.claimantCode = target.toNat := by
      simp [Aut.inStage, Aut.claimantCode, hx, hst, hco]
    rw [ownerYield_source (s := dequeued l s) ht hh, if_pos hs]
    obtain ⟨hrep, hset⟩ := requestDone_replied (l := l) (f := f) (s := s) (v := advanceHandover (dequeued l s))
      (by simp)
    exact ⟨hrep, hset, yield_claimant hx⟩
  · have hs : ¬((dequeued l s).aut.inStage .awaitYield = true ∧ (dequeued l s).aut.claimantCode = target.toNat) := by
      rintro ⟨h1, h2⟩
      cases ho : s.aut.handover with
      | none => simp [Aut.inStage, ho] at h1
      | some x => rcases hx x ho with w | w <;> simp_all [Aut.inStage, Aut.claimantCode]
    rw [ownerYield_source (s := dequeued l s) ht hh, if_neg hs]
    exact refused_conclude _ _ _ _ _

end Sys2Proof.Machine
end

section
/-! SUPPORT. The bytes of a status word and of the reads, field by field (R171, R176, R177, R187). -/

namespace Sys2Proof.Machine

/-! ### The fields of a byte -/

theorem toNat_byte (n : Nat) : (byte n).toNat = n % 256 := rfl

theorem flag_eq (b : Bool) (i : Nat) : flag b i = 2 ^ i * b.toNat := by
  cases b <;> simp [flag]

theorem toNat_byte_of_lt {n : Nat} (h : n < 256) : (byte n).toNat = n := Nat.mod_eq_of_lt h

/-- A bit of a byte is the digit of the count it is made of. -/
theorem getLsbD_byte {n i : Nat} {b : Bool} (hi : i < 8) (h : n / 2 ^ i % 2 = b.toNat) : (byte n).getLsbD i = b := by
  have ht : n.testBit i = b := by
    rw [Nat.testBit_eq_decide_div_mod_eq, h]
    cases b <;> rfl
  rw [byte, BitVec.getLsbD_ofNat, ht]
  simp [hi]

/-- Eight flags and the bits they set. -/
theorem getLsbD_flags (b0 b1 b2 b3 b4 b5 b6 b7 : Bool) :
    let w := byte (flag b0 0 + flag b1 1 + flag b2 2 + flag b3 3 + flag b4 4 + flag b5 5 + flag b6 6 + flag b7 7)
    w.getLsbD 0 = b0 ∧ w.getLsbD 1 = b1 ∧ w.getLsbD 2 = b2 ∧ w.getLsbD 3 = b3 ∧ w.getLsbD 4 = b4 ∧ w.getLsbD 5 = b5 ∧
      w.getLsbD 6 = b6 ∧ w.getLsbD 7 = b7 := by
  have h0 := b0.toNat_le
  have h1 := b1.toNat_le
  have h2 := b2.toNat_le
  have h3 := b3.toNat_le
  have h4 := b4.toNat_le
  have h5 := b5.toNat_le
  have h6 := b6.toNat_le
  have h7 := b7.toNat_le
  refine ⟨?_, ?_, ?_, ?_, ?_, ?_, ?_, ?_⟩ <;> refine getLsbD_byte (by decide) ?_ <;> simp only [flag_eq] <;> omega

/-- A three-bit field, a flag, a three-bit field and a flag. -/
theorem fields_holder {m n : Nat} (hm : m < 8) (hn : n < 8) (a b : Bool) :
    let w := byte (m + flag a 3 + n * 16 + flag b 7)
    w.toNat % 8 = m ∧ w.getLsbD 3 = a ∧ w.toNat / 16 % 8 = n ∧ w.getLsbD 7 = b := by
  have ha := a.toNat_le
  have hb := b.toNat_le
  refine ⟨?_, getLsbD_byte (by decide) ?_, ?_, getLsbD_byte (by decide) ?_⟩ <;>
    simp only [toNat_byte, flag_eq] <;> omega

/-- A four-bit field, a three-bit field and a flag. -/
theorem fields_governing {m n : Nat} (hm : m < 16) (hn : n < 8) (b : Bool) :
    let w := byte (m + n * 16 + flag b 7)
    w.toNat % 16 = m ∧ w.toNat / 16 % 8 = n ∧ w.getLsbD 7 = b := by
  have hb := b.toNat_le
  refine ⟨?_, ?_, getLsbD_byte (by decide) ?_⟩ <;> simp only [toNat_byte, flag_eq] <;> omega

/-- A two-bit field, two flags and a four-bit field. -/
theorem fields_record {m : Nat} (hm : m < 4) (a b : Bool) (n : Nat) :
    let w := byte (m + flag a 2 + flag b 3 + n * 16)
    w.toNat % 4 = m ∧ w.getLsbD 2 = a ∧ w.getLsbD 3 = b ∧ w.toNat / 16 = n % 16 := by
  have ha := a.toNat_le
  have hb := b.toNat_le
  refine ⟨?_, getLsbD_byte (by decide) ?_, getLsbD_byte (by decide) ?_, ?_⟩ <;>
    simp only [toNat_byte, flag_eq] <;> omega

/-! ### The governing entry (R88) -/

theorem getElem_allEntries (e : Entry) : allEntries[e.val]? = some e := by
  revert e
  decide

theorem nodup_allEntries : allEntries.Nodup := by decide

theorem governing_eq_some {p : Pru} {e : Entry} (he : (p.entry e).inService = true)
    (hk : ∀ k : Entry, k < e → (p.entry k).inService = false) : p.governing = some e := by
  obtain ⟨h, hg⟩ := List.getElem?_eq_some_iff.1 (getElem_allEntries e)
  refine List.find?_eq_some_iff_getElem.2 ⟨he, e.val, h, hg, fun j hj => ?_⟩
  obtain ⟨_, hg'⟩ := List.getElem?_eq_some_iff.1 (getElem_allEntries ⟨j, by omega⟩)
  simp only at hg'
  rw [hg', hk ⟨j, by omega⟩ hj]
  rfl

theorem governing_eq_none {p : Pru} (h : ∀ e : Entry, (p.entry e).inService = false) : p.governing = none :=
  List.find?_eq_none.2 fun e _ => by simp [h e]

theorem moreThanOne_iff {p : Pru} {e : Entry} (he : (p.entry e).inService = true) :
    p.moreThanOne = true ↔ ∃ k : Entry, k ≠ e ∧ (p.entry k).inService = true := by
  have hcard := List.toFinset_card_of_nodup (nodup_allEntries.filter fun k => (p.entry k).inService)
  have hmem (k : Entry) : k ∈ (allEntries.filter fun k => (p.entry k).inService).toFinset ↔
      (p.entry k).inService = true := by simp [mem_allEntries]
  rw [Pru.moreThanOne, decide_eq_true_iff, ← hcard]
  constructor
  · intro h
    obtain ⟨k, hk, hne⟩ := Finset.exists_mem_ne h e
    exact ⟨k, hne, (hmem k).1 hk⟩
  · rintro ⟨k, hne, hk⟩
    exact Finset.one_lt_card.2 ⟨k, (hmem k).2 hk, e, (hmem e).2 he, hne⟩

theorem classOf_code_lt (e : Entry) : (classOf e).code < 8 := by
  unfold classOf
  (repeat' split) <;> decide

/-! ### The status word (R171) -/

theorem holderCode_lt (a : Aut) : a.holderCode < 8 := by
  unfold Aut.holderCode
  split
  · next h _ => cases h <;> decide
  · decide

/-- A status word shows the state it is built from. -/
theorem statusShows_statusWord (t : State) (l : Link) : StatusShows t l (statusWord t l) := by
  refine ⟨⟨?_, rfl⟩, getLsbD_flags _ _ _ _ _ _ _ _, ?_, fun h => ?_, fun e he hk => ?_, fun h => ?_⟩
  · exact toNat_byte_of_lt (by cases t.rsq.engine <;> decide)
  · exact fields_holder (holderCode_lt t.aut) (by cases (t.aut.source l).outcome <;> decide) _ _
  · simp [statusWord, statusByte4, governing_eq_none h, byte]
  · have hb : (statusWord t l).b4 = byte (e.val + (classOf e).code * 16 + flag t.pru.moreThanOne 7) := by
      simp [statusWord, statusByte4, governing_eq_some he hk]
    obtain ⟨h0, h4, h7⟩ := fields_governing e.isLt (classOf_code_lt e) t.pru.moreThanOne
    rw [hb]
    exact ⟨h0, h4, by rw [h7]; exact moreThanOne_iff he⟩
  · have hc : t.iru.state.code < 8 := by cases t.iru.state <;> decide
    simp only [statusWord, toNat_byte]
    omega

end Sys2Proof.Machine
end

section
/-! SUPPORT. The tests of R169 that come before the owner's, for every request. -/

namespace Sys2Proof.Machine

/-! ### The owner of a request -/

/-- An owner answers every request, but for an ENROL that fails, which has no reply and touches no frame that is being
sent (R103). -/
def Answers (l : Link) (f : Frame) (owner : State → Answer) : Prop :=
  ∀ u, (owner u).reply = none →
    f.kind = kindEnrol ∧ ((owner u).state.links.link l).sending = (u.links.link l).sending

theorem answers_ownerEnrol (l : Link) (seq : Byte) (payload : List Byte) :
    Answers l ⟨kindEnrol, seq, payload⟩ (ownerEnrol l payload) := by
  intro u w
  unfold ownerEnrol at w ⊢
  split
  · next h => rw [if_pos h] at w; cases w
  · next h =>
    rw [if_neg h] at w
    split at w
    · cases w
    · refine ⟨rfl, ?_⟩
      simp [failEnrol, LinkIf.discardQueue]

/-- Every well-formed request is taken to an owner that answers it; STATUS is DONE (R169). -/
theorem exec_of_asRequest {c : Instr} {l : Link} {f : Frame} (h : asRequest c = some (l, f)) (hw : c.wf = true) :
    ∃ owner, (∀ s, exec c s = .next (request l f owner s)) ∧ Answers l f owner ∧
      (f.kind = kindStatus → owner = answer .done []) := by
  cases c <;> cases h
  case unknownKind k q p =>
    have hk : knownKind k = false := by
      obtain ⟨hk, -⟩ := (Bool.and_eq_true _ _).mp hw
      simpa using hk
    refine ⟨answer .badField [], fun s => congrArg Host.Outcome.next (if_neg (by simp [hk])), ?_, ?_⟩
    · intro u w
      cases w
    · rintro rfl
      cases hk
  case status q p =>
    refine ⟨_, fun _ => rfl, ?_, fun _ => rfl⟩
    intro u w
    cases w
  case enrol q p => exact ⟨_, fun _ => rfl, answers_ownerEnrol l q p, fun w => by cases w⟩
  case readLatched q p | readCrankHistory q p | readProtectionTable q p | readAnalogChannelRecords q p |
      readSourceTableSummary q p | readConfigurationEntry q p | readEngineRunRecord q p =>
    obtain ⟨-, hrow⟩ := (Bool.and_eq_true _ _).mp hw
    refine ⟨_, fun s => congrArg Host.Outcome.next (if_pos hrow), fun u w => ?_, fun w => by cases w⟩
    simp only [ownerReadLatched, ownerReadCrankHistory, ownerReadProtectionTable, ownerReadAnalogChannelRecords,
      ownerReadSourceTableSummary, ownerReadConfigurationEntry, ownerReadEngineRunRecord] at w
    (repeat' split at w) <;> cases w
  -- Every branch of every other owner is an answer.
  all_goals
    refine ⟨_, fun _ => rfl, fun u w => ?_, fun w => by cases w⟩
    simp only [ownerClaim, ownerYield, ownerTake, ownerKeep, ownerLatch, ownerResetProtection, ownerResetAll,
      ownerAcknowledge, ownerMask, ownerUnmask, ownerClearTripCount, ownerDemand, holderDemandEvent, ownerWriteEntry,
      ownerApply, ownerLockGroup, ownerUnlockGroup, ownerFixGroup, groupRequest, ownerForce, ownerReleaseForce] at w
    (repeat' split at w) <;> cases w

/-! ### The reply being sent -/

theorem conclude_sending {l : Link} {f : Frame} {a : Answer} (h : a.reply ≠ none) :
    ∃ r : Reply, ((conclude l f a).links.link l).sending = some r ∧ r.status = statusWord (conclude l f a) l := by
  obtain ⟨u, _ | ⟨r, p⟩⟩ := a
  · exact absurd rfl h
  · exact ⟨⟨f.kind ||| 0x80, f.seq, r, statusWord u l, p⟩, by simp [conclude], by simp [conclude]⟩

theorem conclude_of_none {l : Link} {f : Frame} {a : Answer} (h : a.reply = none) :
    ((conclude l f a).links.link l).sending = (a.state.links.link l).sending := by
  simp [conclude, h]

theorem screenRequest_reply {l : Link} {f : Frame} {s : State} {a : Answer} (h : screenRequest l f s = some a) :
    a.reply ≠ none := by
  unfold screenRequest at h
  (repeat' split at h) <;> cases h <;> simp [answer]

/-! ### The tests before the owner's -/

/-- A frame that finds the link INERT is discarded and counted (R103). -/
theorem request_of_inert {l : Link} {f : Frame} {s : State} (owner : State → Answer) (h : Front l f s)
    (hi : (s.aut.source l).linkState = .inert) :
    request l f owner s =
      (dequeued l s).mapLink l fun x => { x with inertDiscards := satInc 65535 x.inertDiscards } := by
  simp only [request, front_takes h, hi, if_true]
  rfl

/-- On a link that is not INERT a request ends in an answer; one without a reply is the owner's. -/
theorem request_eq_conclude {l : Link} {f : Frame} {s : State} (owner : State → Answer) (h : Front l f s)
    (hi : (s.aut.source l).linkState ≠ .inert) :
    ∃ a, request l f owner s = conclude l f a ∧
      (a.reply = none → s.cfg.checking = false ∧ a = owner (dequeued l s)) := by
  cases hs : screenRequest l f (dequeued l s) with
  | some a => exact ⟨a, request_of_screened owner h hi hs, fun w => absurd w (screenRequest_reply hs)⟩
  | none =>
    refine ⟨_, request_of_screen owner h hi hs, fun _ => ⟨?_, rfl⟩⟩
    rw [← Bool.not_eq_true]
    intro hc
    rw [screenRequest, if_pos (show (dequeued l s).cfg.checking = true from hc)] at hs
    cases hs

/-- The reply being sent after a request, and when there is one. -/
theorem request_sending {l : Link} {f : Frame} {s : State} {owner : State → Answer} (h : Front l f s)
    (ha : Answers l f owner) :
    (∀ r, ((request l f owner s).links.link l).sending = some r → StatusShows (request l f owner s) l r.status) ∧
      ((s.aut.source l).linkState ≠ .inert → s.cfg.checking = true ∨ f.kind ≠ kindEnrol →
        ((request l f owner s).links.link l).sending.isSome = true) := by
  by_cases hi : (s.aut.source l).linkState = .inert
  · refine ⟨fun r hr => ?_, fun w => absurd hi w⟩
    rw [request_of_inert owner h hi] at hr
    simp [h.1] at hr
  · obtain ⟨a, he, hn⟩ := request_eq_conclude owner h hi
    rw [he]
    by_cases hr : a.reply = none
    · obtain ⟨hc, rfl⟩ := hn hr
      obtain ⟨hk, hs⟩ := ha _ hr
      refine ⟨fun r w => ?_, fun _ w => ?_⟩
      · rw [conclude_of_none hr, hs] at w
        simp [h.1] at w
      · rcases w with w | w
        · rw [hc] at w
          cases w
        · exact absurd hk w
    · obtain ⟨r, hs, hw⟩ := conclude_sending (l := l) (f := f) hr
      refine ⟨fun q hq => ?_, fun _ _ => by rw [hs]; rfl⟩
      obtain rfl := Option.some.inj (hs.symm.trans hq)
      rw [hw]
      exact statusShows_statusWord _ l

section

variable {l : Link} {f : Frame} {s : State}

/-- A request that one of the tests answers: it is answered so and touches nothing but its link. -/
theorem request_answered {r : Result} (owner : State → Answer) (h : Front l f s)
    (hi : (s.aut.source l).linkState ≠ .inert)
    (hs : screenRequest l f (dequeued l s) = some (answer r [] (dequeued l s))) :
    Unchanged [.rsq, .spd, .ins, .pru, .aut, .ntu, .iru, .cfg] s (request l f owner s) ∧
      Replied l f r [] s (request l f owner s) := by
  rw [request_of_screened owner h hi hs]
  exact refused_conclude _ _ _ _ _

/-! Each test, given that those before it do not apply. -/

theorem screenRequest_checking (hc : s.cfg.checking = true) :
    screenRequest l f (dequeued l s) = some (answer .busy [] (dequeued l s)) :=
  if_pos hc

/-- After the self-check, with no deviation, the tests of KIND and link are left. -/
theorem screenRequest_eq (hc : s.cfg.checking = false) (hd : deviates l f s = false) :
    screenRequest l f (dequeued l s) =
      if knownKind f.kind = false then some (answer .badField [] (dequeued l s))
      else if (s.aut.source l).linkState = .down ∧ f.kind ≠ kindEnrol ∧ f.kind ≠ kindStatus then
        some (answer .refusedState [] (dequeued l s))
      else if serviceKind f.kind = true ∧ l ≠ .service then some (answer .notPermitted [] (dequeued l s))
      else none := by
  have hd' : deviates l f (dequeued l s) = false := hd
  cases hk : knownKind f.kind <;> simp only [screenRequest, dequeued_cfg, hc, hd', hk] <;> rfl

end

theorem knownKind_of_service {k : Byte} (h : serviceKind k = true) : knownKind k = true := by
  unfold knownKind
  rw [show (decide (16 ≤ k.toNat) && decide (k.toNat ≤ 25)) = true from h, Bool.or_true]

/-- Settles O19: the tests one by one, and the status word of the reply whatever the owner. -/
theorem requestsAreScreenedInOrder : Obligations.RequestsAreScreenedInOrder := by
  intro c l f s hc hw hf
  obtain ⟨owner, hex, hans, hstat⟩ := exec_of_asRequest hc hw
  refine ⟨⟨_, hex s, request_sending hf hans⟩, ?_⟩
  intro others answers
  refine ⟨fun hi => ⟨_, hex s, ?_⟩, fun hi hch => ⟨_, hex s, request_answered owner hf hi (screenRequest_checking hch)⟩,
    fun hi hch hd => ⟨fun hk => ⟨_, hex s, request_answered owner hf hi ?_⟩, fun hk => ⟨_, hex s, ?_⟩,
      fun hk he hs hdown => ⟨_, hex s, request_answered owner hf hi ?_⟩,
      fun hk hl hact => ⟨_, hex s, request_answered owner hf hi ?_⟩⟩⟩
  · rw [request_of_inert owner hf hi]
    refine ⟨⟨rfl, fun b hb => ?_⟩, ?_⟩
    · cases b
      case links => simp [others] at hb
      all_goals rfl
    · simp only [dequeued, State.mapLink, satInc_eq_min]
      cases l <;> rfl
  · rw [screenRequest_eq hch hd, if_pos hk]
  · have hs : screenRequest l f (dequeued l s) = none := by
      rw [screenRequest_eq hch hd, hk]
      simp [knownKind, serviceKind, kindStatus]
    rw [request_of_screen owner hf hi hs, hstat hk]
    exact refused_conclude _ _ _ _ _
  · rw [screenRequest_eq hch hd, if_neg (by simp [hk]), if_pos ⟨hdown, he, hs⟩]
  · rw [screenRequest_eq hch hd, if_neg (by simp [knownKind_of_service hk]), if_neg (by simp [hact]), if_pos ⟨hk, hl⟩]

end Sys2Proof.Machine
end

section
/-! SUPPORT. The reads of fixed layout, byte by byte, and the READs of no target (R174, R176, R177, R187). -/

namespace Sys2Proof.Machine

/-! ### The protection table (R176) -/

theorem getElem_protectionPayload (s : State) (e : Entry) :
    (protectionPayload s)[e.val]? = some (entryByte s e) := by
  have hlen : e.val < (allEntries.map (entryByte s)).length := e.isLt
  rw [protectionPayload, List.getElem?_append_left hlen, List.getElem?_map, getElem_allEntries]
  rfl

theorem entryByte_shows (s : State) (e : Entry) :
    (entryByte s e).toNat % 4 = (s.pru.entry e).state.code ∧
      (entryByte s e).getLsbD 2 = (s.pru.entry e).acknowledged ∧
      (entryByte s e).getLsbD 3 = (s.pru.entry e).masked ∧ (entryByte s e).toNat / 16 % 8 = (classOf e).code ∧
      (entryByte s e).getLsbD 7 = overTripLimit s.cfg.active e (s.pru.entry e) := by
  have hs : (s.pru.entry e).state.code < 4 := by cases (s.pru.entry e).state <;> decide
  have hc := classOf_code_lt e
  have ha := (s.pru.entry e).acknowledged.toNat_le
  have hm := (s.pru.entry e).masked.toNat_le
  have ho := (overTripLimit s.cfg.active e (s.pru.entry e)).toNat_le
  unfold entryByte
  refine ⟨?_, getLsbD_byte (by decide) ?_, getLsbD_byte (by decide) ?_, ?_, getLsbD_byte (by decide) ?_⟩ <;>
    simp only [toNat_byte, flag_eq] <;> omega

/-! ### The source table summary (R176) -/

/-- What the four bytes of a framed entry show. -/
def FramedShows (f : FramedSource) (b0 b1 b2 b3 : Byte) : Prop :=
  (b0.toNat % 4 = f.linkState.code ∧ b0.getLsbD 2 = f.envelope.isSome ∧ b0.getLsbD 3 = f.fresh ∧
      b0.toNat / 16 = f.demand % 16) ∧
    (f.envelope = none → b1 = 0 ∧ b2 = 0) ∧
    (∀ e, f.envelope = some e → e.maxNotch ≤ 8 →
      b1.toNat % 16 = e.maxNotch ∧ b1.getLsbD 4 = e.mayStart ∧ b1.getLsbD 5 = e.mayStop ∧
        b1.getLsbD 6 = e.autoStop ∧ b1.getLsbD 7 = false ∧ b2 = byte e.interval) ∧
    b3.toNat % 4 = f.run.code ∧ b3.getLsbD 2 = f.limited ∧ b3.toNat < 8

theorem envelopeByte_shows {e : Envelope} (h : e.maxNotch ≤ 8) :
    let b := byte (e.maxNotch + flag e.mayStart 4 + flag e.mayStop 5 + flag e.autoStop 6)
    b.toNat % 16 = e.maxNotch ∧ b.getLsbD 4 = e.mayStart ∧ b.getLsbD 5 = e.mayStop ∧ b.getLsbD 6 = e.autoStop ∧
      b.getLsbD 7 = false := by
  have h4 := e.mayStart.toNat_le
  have h5 := e.mayStop.toNat_le
  have h6 := e.autoStop.toNat_le
  refine ⟨?_, getLsbD_byte (by decide) ?_, getLsbD_byte (by decide) ?_, getLsbD_byte (by decide) ?_,
    getLsbD_byte (by decide) ?_⟩ <;> simp only [toNat_byte, flag_eq, Bool.toNat_false] <;> omega

theorem framedEntryBytes_shows (f : FramedSource) :
    ∃ b0 b1 b2 b3, framedEntryBytes f = [b0, b1, b2, b3] ∧ FramedShows f b0 b1 b2 b3 := by
  have h0 := fields_record (m := f.linkState.code) (by cases f.linkState <;> decide) f.envelope.isSome f.fresh f.demand
  have hr : f.run.code < 4 := by cases f.run <;> decide
  have h3 : (byte (f.run.code + flag f.limited 2)).toNat % 4 = f.run.code ∧
      (byte (f.run.code + flag f.limited 2)).getLsbD 2 = f.limited ∧
      (byte (f.run.code + flag f.limited 2)).toNat < 8 := by
    have hl := f.limited.toNat_le
    refine ⟨?_, getLsbD_byte (by decide) ?_, ?_⟩ <;> simp only [toNat_byte, flag_eq] <;> omega
  cases he : f.envelope with
  | none =>
    rw [he] at h0
    refine ⟨_, 0, 0, _, by simp only [framedEntryBytes, he]; rfl, ?_⟩
    refine ⟨by rw [he]; exact h0, fun _ => ⟨rfl, rfl⟩, fun e w => ?_, h3⟩
    rw [he] at w
    cases w
  | some e =>
    rw [he] at h0
    refine ⟨_, _, byte e.interval, _, by simp only [framedEntryBytes, he]; rfl, ?_⟩
    refine ⟨by rw [he]; exact h0, fun w => ?_, fun e' w hm => ?_, h3⟩
    · rw [he] at w
      cases w
    · obtain rfl := Option.some.inj (he.symm.trans w)
      obtain ⟨k0, k4, k5, k6, k7⟩ := envelopeByte_shows hm
      exact ⟨k0, k4, k5, k6, k7, rfl⟩

/-- What the three bytes of the trainline show. -/
def TrainlineShows (t : Trainline) (b0 b1 b2 : Byte) : Prop :=
  (b0.toNat % 4 = t.state.code ∧ b0.getLsbD 2 = t.invalid ∧ b0.getLsbD 3 = t.fresh ∧ b0.toNat < 16) ∧
    (b1.getLsbD 0 = t.used.w1 ∧ b1.getLsbD 1 = t.used.w2 ∧ b1.getLsbD 2 = t.used.w3 ∧ b1.getLsbD 3 = t.used.w4 ∧
      b1.getLsbD 4 = t.used.run ∧ b1.getLsbD 5 = t.used.stop ∧ b1.toNat < 64) ∧
    (t.decoded ≤ 8 → b2.toNat % 16 = t.decoded ∧ b2.toNat / 16 = t.effective % 16)

/-- A two-bit field and two flags. -/
theorem fields_state {m : Nat} (hm : m < 4) (a b : Bool) :
    let w := byte (m + flag a 2 + flag b 3)
    w.toNat % 4 = m ∧ w.getLsbD 2 = a ∧ w.getLsbD 3 = b ∧ w.toNat < 16 := by
  have ha := a.toNat_le
  have hb := b.toNat_le
  refine ⟨?_, getLsbD_byte (by decide) ?_, getLsbD_byte (by decide) ?_, ?_⟩ <;>
    simp only [toNat_byte, flag_eq] <;> omega

theorem trainlineBytes_shows (t : Trainline) :
    ∃ b0 b1 b2, trainlineBytes t = [b0, b1, b2] ∧ TrainlineShows t b0 b1 b2 := by
  refine ⟨_, _, _, rfl, fields_state (by cases t.state <;> decide) _ _, ?_, fun h => ?_⟩
  · obtain ⟨h0, h1, h2, h3, h4, h5, -⟩ :=
      getLsbD_flags t.used.w1 t.used.w2 t.used.w3 t.used.w4 t.used.run t.used.stop false false
    refine ⟨h0, h1, h2, h3, h4, h5, ?_⟩
    have k0 := t.used.w1.toNat_le
    have k1 := t.used.w2.toNat_le
    have k2 := t.used.w3.toNat_le
    have k3 := t.used.w4.toNat_le
    have k4 := t.used.run.toNat_le
    have k5 := t.used.stop.toNat_le
    simp only [toNat_byte, flag_eq]
    omega
  · simp only [toNat_byte]
    omega

/-- What the four bytes of the authority part show. -/
def AuthorityShows (a : Aut) (b0 b1 b2 b3 : Byte) : Prop :=
  b1 = (match a.handover with
    | some h => byte h.holderAtStart.code
    | none => 0) ∧
  b2 = (match a.handover with
    | some h => byte h.number
    | none => 0) ∧
  b3 = byte a.nextNumber ∧ b0.toNat % 8 = a.holderCode ∧ (a.handover = none → b0.toNat < 8) ∧
  ∀ h, a.handover = some h →
    b0.toNat / 8 % 8 = (linkSource h.claimant).code ∧ b0.getLsbD 6 = decide (h.stage = .awaitTake) ∧
      b0.getLsbD 7 = h.override

theorem authorityBytes_shows (a : Aut) :
    ∃ b0 b1 b2 b3, authorityBytes a = [b0, b1, b2, b3] ∧ AuthorityShows a b0 b1 b2 b3 := by
  have hh := holderCode_lt a
  unfold authorityBytes AuthorityShows
  cases a.handover with
  | none =>
    refine ⟨_, _, _, _, rfl, rfl, rfl, rfl, ?_, fun _ => ?_, fun h w => by cases w⟩ <;> simp only [toNat_byte] <;> omega
  | some h =>
    refine ⟨_, _, _, _, rfl, rfl, rfl, rfl, ?_, (fun w => by cases w), fun h' w => ?_⟩
    all_goals
      have hc : (linkSource h.claimant).code < 8 := by cases h.claimant <;> decide
      have h6 := (decide (h.stage = .awaitTake)).toNat_le
      have h7 := h.override.toNat_le
    · simp only [toNat_byte, flag_eq]
      omega
    · cases w
      refine ⟨?_, getLsbD_byte (by decide) ?_, getLsbD_byte (by decide) ?_⟩ <;>
        simp only [toNat_byte, flag_eq] <;> omega

theorem sourcePayload_shows (a : Aut) :
    (sourcePayload a).length = 19 ∧
      (∃ b0 b1 b2 b3, (sourcePayload a).take 4 = [b0, b1, b2, b3] ∧ FramedShows a.stand b0 b1 b2 b3) ∧
      (∃ b0 b1 b2, ((sourcePayload a).drop 4).take 3 = [b0, b1, b2] ∧ TrainlineShows a.trainline b0 b1 b2) ∧
      (∃ b0 b1 b2 b3, ((sourcePayload a).drop 7).take 4 = [b0, b1, b2, b3] ∧ FramedShows a.remote b0 b1 b2 b3) ∧
      (∃ b0 b1 b2 b3, ((sourcePayload a).drop 11).take 4 = [b0, b1, b2, b3] ∧ FramedShows a.service b0 b1 b2 b3) ∧
      ∃ b0 b1 b2 b3, (sourcePayload a).drop 15 = [b0, b1, b2, b3] ∧ AuthorityShows a b0 b1 b2 b3 := by
  obtain ⟨s0, s1, s2, s3, hs, ks⟩ := framedEntryBytes_shows a.stand
  obtain ⟨t0, t1, t2, ht, kt⟩ := trainlineBytes_shows a.trainline
  obtain ⟨r0, r1, r2, r3, hr, kr⟩ := framedEntryBytes_shows a.remote
  obtain ⟨v0, v1, v2, v3, hv, kv⟩ := framedEntryBytes_shows a.service
  obtain ⟨a0, a1, a2, a3, ha, ka⟩ := authorityBytes_shows a
  rw [sourcePayload, hs, ht, hr, hv, ha]
  exact ⟨rfl, ⟨_, _, _, _, rfl, ks⟩, ⟨_, _, _, rfl, kt⟩, ⟨_, _, _, _, rfl, kr⟩, ⟨_, _, _, _, rfl, kv⟩,
    ⟨_, _, _, _, rfl, ka⟩⟩

/-! ### The READs of no target (R174) -/

/-- The byte that names a target. -/
def ReadTarget.byte : ReadTarget → Byte
  | .latched => 0
  | .crankHistory => 1
  | .protection => 2
  | .analog => 3
  | .sources => 4
  | .configuration => 5
  | .runRecord => 6

theorem readTargetOf_eq_some {b : Byte} {t : ReadTarget} (h : readTargetOf b = some t) : b = t.byte := by
  unfold readTargetOf at h
  split at h <;> cases h
  all_goals
    next w => exact byte_eq_of_toNat w

theorem groupOperand_eq_some {b : Byte} {g : Fin 5} (h : groupOperand [b] = some g) : g.val = b.toNat := by
  rw [groupOperand] at h
  split at h
  · exact (congrArg Fin.val (Option.some.inj h)).symm
  · cases h

/-- The payloads that R174 gives a READ. -/
def Readable (payload : List Byte) : Prop :=
  payload = [0] ∨ payload = [2] ∨ payload = [4] ∨ payload = [6] ∨
    (∃ first : Byte, payload = [1, first] ∧ first.toNat ≤ 5) ∨
    (∃ first : Byte, payload = [3, first] ∧ first.toNat ≤ 6) ∨
    ∃ g f : Byte, payload = [5, g, f] ∧ fieldSpec g.toNat f.toNat ≠ none

section

variable {l : Link} {payload : List Byte} {s : State}

/-! Each owner answers BAD FIELD where the payload is none of R174's. -/

theorem ownerReadLatched_of_unreadable (h : ¬Readable payload) :
    ownerReadLatched l payload s = answer .badField [] s := by
  unfold ownerReadLatched
  split
  · refine if_neg fun w => h (.inl ?_)
    rw [readTargetOf_eq_some w]
    rfl
  · rfl

theorem ownerReadCrankHistory_of_unreadable (h : ¬Readable payload) :
    ownerReadCrankHistory payload s = answer .badField [] s := by
  unfold ownerReadCrankHistory
  split
  · next t first =>
    refine if_neg fun ⟨w, hf⟩ => h (.inr (.inr (.inr (.inr (.inl ⟨first, ?_, hf⟩)))))
    rw [readTargetOf_eq_some w]
    rfl
  · rfl

theorem ownerReadProtectionTable_of_unreadable (h : ¬Readable payload) :
    ownerReadProtectionTable payload s = answer .badField [] s := by
  unfold ownerReadProtectionTable
  split
  · refine if_neg fun w => h (.inr (.inl ?_))
    rw [readTargetOf_eq_some w]
    rfl
  · rfl

theorem ownerReadAnalogChannelRecords_of_unreadable (h : ¬Readable payload) :
    ownerReadAnalogChannelRecords payload s = answer .badField [] s := by
  unfold ownerReadAnalogChannelRecords
  split
  · next t first =>
    refine if_neg fun ⟨w, hf⟩ => h (.inr (.inr (.inr (.inr (.inr (.inl ⟨first, ?_, hf⟩))))))
    rw [readTargetOf_eq_some w]
    rfl
  · rfl

theorem ownerReadSourceTableSummary_of_unreadable (h : ¬Readable payload) :
    ownerReadSourceTableSummary payload s = answer .badField [] s := by
  unfold ownerReadSourceTableSummary
  split
  · refine if_neg fun w => h (.inr (.inr (.inl ?_)))
    rw [readTargetOf_eq_some w]
    rfl
  · rfl

theorem ownerReadConfigurationEntry_of_unreadable (h : ¬Readable payload) :
    ownerReadConfigurationEntry payload s = answer .badField [] s := by
  unfold ownerReadConfigurationEntry
  split
  · next t g f =>
    split
    · next group hg =>
      refine if_neg fun ⟨w, hf⟩ => h (.inr (.inr (.inr (.inr (.inr (.inr ⟨g, f, ?_, ?_⟩))))))
      · rw [readTargetOf_eq_some w]
        rfl
      · rw [← groupOperand_eq_some hg]
        exact Option.isSome_iff_ne_none.1 hf
    · rfl
  · rfl

theorem ownerReadEngineRunRecord_of_unreadable (h : ¬Readable payload) :
    ownerReadEngineRunRecord payload s = answer .badField [] s := by
  unfold ownerReadEngineRunRecord
  split
  · refine if_neg fun w => h (.inr (.inr (.inr (.inl ?_))))
    rw [readTargetOf_eq_some w]
    rfl
  · rfl

end

/-- A READ comes to the owner of its row, and that owner refuses what R174 does not give. -/
theorem exec_read_of_unreadable {c : Instr} {l : Link} {seq : Byte} {payload : List Byte} {s : State}
    (hc : asRequest c = some (l, ⟨kindRead, seq, payload⟩)) (hw : c.wf = true)
    (hh : Heard l ⟨kindRead, seq, payload⟩ s) (h : ¬Readable payload) :
    exec c s = .next (conclude l ⟨kindRead, seq, payload⟩ (answer .badField [] (dequeued l s))) := by
  have hreq (owner : State → Answer) (ho : owner (dequeued l s) = answer .badField [] (dequeued l s)) :
      request l ⟨kindRead, seq, payload⟩ owner s =
        conclude l ⟨kindRead, seq, payload⟩ (answer .badField [] (dequeued l s)) := by
    rw [← ho]
    exact request_of_ready owner (hh.ready (.inr (.inl rfl))) rfl (fun w => by cases w)
  have hrow {t : ReadTarget} (hw : readFits t payload = true) (owner : State → Answer)
      (ho : owner (dequeued l s) = answer .badField [] (dequeued l s)) :
      readRequest t l seq payload owner s =
        conclude l ⟨kindRead, seq, payload⟩ (answer .badField [] (dequeued l s)) := by
    obtain ⟨-, hr⟩ := (Bool.and_eq_true _ _).mp hw
    exact (if_pos hr).trans (hreq owner ho)
  cases c <;> cases hc
  case unknownKind => cases hw
  case readLatched => exact congrArg Host.Outcome.next (hrow hw _ (ownerReadLatched_of_unreadable h))
  case readCrankHistory => exact congrArg Host.Outcome.next (hrow hw _ (ownerReadCrankHistory_of_unreadable h))
  case readProtectionTable => exact congrArg Host.Outcome.next (hrow hw _ (ownerReadProtectionTable_of_unreadable h))
  case readAnalogChannelRecords =>
    exact congrArg Host.Outcome.next (hrow hw _ (ownerReadAnalogChannelRecords_of_unreadable h))
  case readSourceTableSummary =>
    exact congrArg Host.Outcome.next (hrow hw _ (ownerReadSourceTableSummary_of_unreadable h))
  case readConfigurationEntry =>
    exact congrArg Host.Outcome.next (hrow hw _ (ownerReadConfigurationEntry_of_unreadable h))
  case readEngineRunRecord => exact congrArg Host.Outcome.next (hrow hw _ (ownerReadEngineRunRecord_of_unreadable h))

/-! ### The reads of fixed layout -/

section

variable {l : Link} {seq : Byte} {s : State}

theorem exec_readProtectionTable (h : Heard l ⟨kindRead, seq, [2]⟩ s) :
    exec (.readProtectionTable l seq [2]) s =
      .next (conclude l ⟨kindRead, seq, [2]⟩ (answer .done (protectionPayload s) (dequeued l s))) :=
  congrArg Host.Outcome.next (readRequest_of_heard (ownerReadProtectionTable [2]) h rfl)

theorem exec_readSourceTableSummary (h : Heard l ⟨kindRead, seq, [4]⟩ s) :
    exec (.readSourceTableSummary l seq [4]) s =
      .next (conclude l ⟨kindRead, seq, [4]⟩ (answer .done (sourcePayload s.aut) (dequeued l s))) :=
  congrArg Host.Outcome.next (readRequest_of_heard (ownerReadSourceTableSummary [4]) h rfl)

theorem exec_readEngineRunRecord (h : Heard l ⟨kindRead, seq, [6]⟩ s) :
    exec (.readEngineRunRecord l seq [6]) s =
      .next (conclude l ⟨kindRead, seq, [6]⟩ (answer .done (runRecordPayload s.rsq) (dequeued l s))) :=
  congrArg Host.Outcome.next (readRequest_of_heard (ownerReadEngineRunRecord [6]) h rfl)

theorem groupOperand_byte (g : Fin 5) : groupOperand [byte g.val] = some g := by
  revert g
  decide

theorem exec_readConfigurationEntry {g : Fin 5} {f : Byte} (hf : (fieldSpec g.val f.toNat).isSome = true)
    (h : Heard l ⟨kindRead, seq, [5, byte g.val, f]⟩ s) :
    exec (.readConfigurationEntry l seq [5, byte g.val, f]) s =
      .next (conclude l ⟨kindRead, seq, [5, byte g.val, f]⟩
        (answer .done (configurationPayload s.cfg g f.toNat) (dequeued l s))) := by
  have ho : ownerReadConfigurationEntry [5, byte g.val, f] (dequeued l s) =
      answer .done (configurationPayload s.cfg g f.toNat) (dequeued l s) := by
    simp [ownerReadConfigurationEntry, groupOperand_byte, readTargetOf, hf]
  rw [← ho]
  exact congrArg Host.Outcome.next (readRequest_of_heard _ h rfl)

end

/-- Settles O23: each read is answered from the state it finds, and its bytes are taken apart field by field. -/
theorem fixedReadsShowTheState : Obligations.FixedReadsShowTheState := by
  intro l seq s
  refine ⟨fun h => ?_, fun h => ?_, fun g f spec hspec h => ?_, fun h => ?_,
    fun c payload hc hw hh h0 h2 h4 h6 h1 h3 h5 => ?_⟩
  · obtain ⟨hu, hr⟩ := refused_conclude l ⟨kindRead, seq, [2]⟩ .done (protectionPayload s) s
    refine ⟨_, _, exec_readProtectionTable h, hu, hr, rfl,
      fun e => ⟨_, getElem_protectionPayload s e, entryByte_shows s e⟩, rfl, ?_⟩
    cases hn : s.pru.notchLimit <;> simp [protectionPayload, allEntries, hn, byte]
  · obtain ⟨hu, hr⟩ := refused_conclude l ⟨kindRead, seq, [4]⟩ .done (sourcePayload s.aut) s
    obtain ⟨hlen, hstand, hline, hremote, hservice, a0, a1, a2, a3, ha, rfl, rfl, rfl, hrest⟩ :=
      sourcePayload_shows s.aut
    refine ⟨_, _, exec_readSourceTableSummary h, hu, hr, hlen, fun k => ?_, hline, a0, ha, hrest⟩
    cases k
    · exact hstand
    · exact hremote
    · exact hservice
  · obtain ⟨hu, hr⟩ := refused_conclude l ⟨kindRead, seq, [5, byte g.val, f]⟩ .done
      (configurationPayload s.cfg g f.toNat) s
    have he := exec_readConfigurationEntry (by rw [hspec]; rfl) h
    rw [configurationPayload, byte_toNat] at hu hr he
    exact ⟨_, _, he, hu, hr,
      fields_state (by cases s.cfg.groups[g] <;> decide) _ _⟩
  · obtain ⟨hu, hr⟩ := refused_conclude l ⟨kindRead, seq, [6]⟩ .done (runRecordPayload s.rsq) s
    have he := exec_readEngineRunRecord h
    have hp : runRecordPayload s.rsq =
        [byte (s.rsq.startKind.code + flag s.rsq.cold 2 + flag s.rsq.restartPending 3 + s.rsq.attempt * 16),
          byte s.rsq.startResult.code,
          (match s.rsq.startReason with
            | some why => byte why.code
            | none => 0),
          byte s.rsq.stopCause.code] := by
      rw [runRecordPayload]
      cases s.rsq.startReason <;> rfl
    rw [hp] at hu hr he
    exact ⟨_, _, he, hu, hr,
      fields_record (by cases s.rsq.startKind <;> decide) s.rsq.cold s.rsq.restartPending s.rsq.attempt⟩
  · refine ⟨_, exec_read_of_unreadable hc hw hh ?_, refused_conclude _ _ _ _ _⟩
    rintro (w | w | w | w | ⟨first, w, hle⟩ | ⟨first, w, hle⟩ | ⟨g, f, w, hne⟩)
    · exact h0 w
    · exact h2 w
    · exact h4 w
    · exact h6 w
    · exact absurd (h1 first w) (by omega)
    · exact absurd (h3 first w) (by omega)
    · exact hne (h5 g f w)

end Sys2Proof.Machine
end

section
/-! SUPPORT. A conversion judged by the conditions of its channel (R75, R78, R80 to R82, R87). -/

namespace Sys2Proof.Machine

/-! ### An arrival judged at one entry (R75, R78) -/

/-- The entry's record before and after an arrival that passes the set test, the clear test or neither. -/
def JudgedAs (e : Entry) (setTest clearTest : Bool) (filter : Option Nat) (r r' : EntryRec) : Prop :=
  (r.condition = true → clearTest = false → r' = r) ∧
    (r.condition = true → clearTest = true → r'.condition = false ∧ r'.filter = r.filter ∧
      (r.state = .active → r'.state = if e.val ≤ 7 then .held else .idle)) ∧
    (r.condition = false → setTest = true →
      (∀ ms, filter = some ms → r' = { r with filter := if r.filter = none then some ms else r.filter }) ∧
        (filter = none → r'.condition = true ∧ (r.state = .idle → r.masked = false → r'.state = .active))) ∧
    (r.condition = false → setTest = false → filter.isSome = true → r' = { r with filter := none }) ∧
    (r.condition = false → setTest = false → filter = none → r' = r)

/-- A condition that turns false, from ACTIVE by the latching of the entry. -/
theorem setCondition_false_judged {e : Entry} {p : Pru} (h : (p.entry e).condition = true) :
    ((setCondition e false p).entry e).filter = (p.entry e).filter ∧
      ((p.entry e).state = .active →
        ((setCondition e false p).entry e).state = if e.val ≤ 7 then .held else .idle) := by
  have hw : (setCondition e false p).entry e = (p.entry e).withCondition (latching e) false := by simp [setCondition]
  rw [hw, EntryRec.withCondition, if_neg (by simp [h])]
  constructor
  · cases (p.entry e).state <;> dsimp only
    split <;> rfl
  · intro ha
    rw [ha]
    by_cases hl : e.val ≤ 7 <;> simp [latching, hl, EntryRec.left]

theorem judge_judgedAs (e : Entry) (setTest clearTest : Bool) (filter : Option Nat) (p : Pru) :
    JudgedAs e setTest clearTest filter (p.entry e) ((judge e setTest clearTest filter p).entry e) := by
  refine ⟨?_, ?_, ?_, ?_, ?_⟩
  · rintro hc rfl
    simp [judge, hc]
  · rintro hc rfl
    rw [judge_clear hc]
    exact ⟨setCondition_condition e false p, setCondition_false_judged hc⟩
  · rintro hc rfl
    refine ⟨?_, ?_⟩
    · rintro ms rfl
      exact judge_set hc clearTest ms
    · rintro rfl
      have hj : judge e true clearTest none p = p.setEntry e (p.entry e).afterTrue := by
        simp [judge, hc, setCondition_true]
      rw [hj, Pru.entry_setEntry_same]
      exact ⟨rfl, fun hi hm => by simp [EntryRec.afterTrue, hi, hm]⟩
  · rintro hc rfl hf
    obtain ⟨ms, rfl⟩ := Option.isSome_iff_exists.1 hf
    exact judge_unset hc clearTest ms
  · rintro hc rfl rfl
    simp [judge, hc]

/-- Judging an entry when others of the same channel have been judged before it. -/
theorem judge_judgedAs_of_entry {e : Entry} {p q : Pru} (h : q.entry e = p.entry e) (setTest clearTest : Bool)
    (filter : Option Nat) :
    JudgedAs e setTest clearTest filter (p.entry e) ((judge e setTest clearTest filter q).entry e) :=
  h ▸ judge_judgedAs e setTest clearTest filter q

/-! ### What PRU judges of each channel (R78, R80 to R82) -/

section

variable (s : State) (p : Pru) {t : Table}

theorem pruValue_crankcase (ht : s.cfg.active = t) :
    let v := s.ins.crankcase.given
    JudgedAs 3 (t.crankcaseLimit ≤ v) (v < t.crankcaseLimit) (some (tenthsMs t.crankcaseFilter)) (p.entry 3)
      ((pruValue .crankcase s p).entry 3) := by
  subst ht
  exact judge_judgedAs _ _ _ _ p

theorem pruValue_battery (ht : s.cfg.active = t) :
    let v := s.ins.battery.given
    JudgedAs 12 (v < t.batteryLowSet) (t.batteryLowClear ≤ v) (some (tenthsMs t.batteryLowFilter)) (p.entry 12)
      ((pruValue .battery s p).entry 12) := by
  subst ht
  exact judge_judgedAs _ _ _ _ p

theorem pruValue_intake (ht : s.cfg.active = t) :
    let v := s.ins.intake.given
    JudgedAs 11 (t.intakeStart < v) (v ≤ t.intakeClear) none (p.entry 11) ((pruValue .intake s p).entry 11) := by
  subst ht
  exact judge_judgedAs _ _ _ _ p

/-- PRU after HOT ENGINE has been judged, and after COLD ENGINE has been where it holds. -/
theorem coolant_judged {e : Entry} (h6 : e ≠ 6) (h9 : e ≠ 9) (a b c d : Bool) (f g : Option Nat) (warm : Bool) :
    (if warm then judge 9 c d g (judge 6 a b f p) else judge 6 a b f p).entry e = p.entry e := by
  cases warm
  · exact judge_other a b f p h6
  · exact (judge_other c d g _ h9).trans (judge_other a b f p h6)

theorem pruValue_hotEngine (ht : s.cfg.active = t) :
    let v := s.ins.coolant.given
    JudgedAs 6 (t.hotSet ≤ v) (v < t.hotClear) (some (tenthsMs t.hotFilter)) (p.entry 6)
      ((pruValue .coolant s p).entry 6) := by
  subst ht
  intro v
  have h : (pruValue .coolant s p).entry 6 =
      (judge 6 (s.cfg.active.hotSet ≤ v) (v < s.cfg.active.hotClear) (some (tenthsMs s.cfg.active.hotFilter))
        p).entry 6 := by
    refine (judge_other (e := 10) _ _ _ _ (by decide)).trans ?_
    split
    · exact judge_other _ _ _ _ (by decide)
    · rfl
  rw [h]
  exact judge_judgedAs _ _ _ _ p

theorem pruValue_coolantDerate (ht : s.cfg.active = t) :
    let v := s.ins.coolant.given
    JudgedAs 10 (t.coolantStart < v) (v ≤ t.coolantClear) none (p.entry 10) ((pruValue .coolant s p).entry 10) := by
  subst ht
  exact judge_judgedAs_of_entry (coolant_judged p (by decide) (by decide) _ _ _ _ _ _ _) _ _ _

theorem pruValue_coldEngine (ht : s.cfg.active = t) (h : s.rsq.engine.runningFamily = true) :
    let v := s.ins.coolant.given
    JudgedAs 9 (v < t.coldSet) (t.coldClear ≤ v) none (p.entry 9) ((pruValue .coolant s p).entry 9) := by
  subst ht
  intro v
  have k : (pruValue .coolant s p).entry 9 =
      (judge 9 (v < s.cfg.active.coldSet) (s.cfg.active.coldClear ≤ v) none
        (judge 6 (s.cfg.active.hotSet ≤ v) (v < s.cfg.active.hotClear) (some (tenthsMs s.cfg.active.hotFilter))
          p)).entry 9 := by
    refine (judge_other (e := 10) _ _ _ _ (by decide)).trans ?_
    rw [if_pos h]
    rfl
  rw [k]
  exact judge_judgedAs_of_entry (judge_other _ _ _ p (by decide)) _ _ _

theorem pruValue_lowFuel (ht : s.cfg.active = t) (h : s.rsq.engine.runningFamily = true) :
    let v := s.ins.fuel.given
    JudgedAs 8 (v < t.lowFuelSet) (t.lowFuelClear ≤ v) (some (tenthsMs t.lowFuelFilter)) (p.entry 8)
      ((pruValue .fuel s p).entry 8) := by
  subst ht
  intro v
  rw [pruValue, if_pos h]
  exact judge_judgedAs _ _ _ _ p

theorem pruValue_lowLube {speed : Nat} (ht : s.cfg.active = t) (hs : s.spd.measured = speed)
    (h : s.rsq.lubeArmed = true) :
    let threshold := lubeThreshold t speed
    let v := s.ins.lube.given
    JudgedAs 4 (v < threshold) (threshold ≤ v) (some (tenthsMs t.lubeFilter)) (p.entry 4)
      ((pruValue .lube s p).entry 4) := by
  subst ht hs
  intro threshold v
  rw [pruValue, if_pos h]
  exact judge_judgedAs _ _ _ _ p

/-- The percentages (R87): a value of its channel computes one, and every other value keeps it. -/
theorem pruValue_coolantPct (c : Channel) :
    (pruValue c s p).coolantPct =
      if c = .coolant then
        deratePercent s.cfg.active.coolantStart s.cfg.active.coolantEnd s.cfg.active.coolantFloor s.ins.coolant.given
      else p.coolantPct := by
  unfold pruValue
  cases c <;> dsimp only
  case coolant => rfl
  case lube | fuel => split <;> simp
  all_goals simp

theorem pruValue_intakePct (c : Channel) :
    (pruValue c s p).intakePct =
      if c = .intake then
        deratePercent s.cfg.active.intakeStart s.cfg.active.intakeEnd s.cfg.active.intakeFloor s.ins.intake.given
      else p.intakePct := by
  unfold pruValue
  cases c <;> dsimp only
  case intake => rfl
  case lube | fuel => split <;> simp
  case coolant => split <;> simp
  all_goals simp

end

/-! ### The event of a conversion (R57, R65) -/

/-- The state in which RSQ has taken the value of a conversion and PRU is to judge it. -/
def rsqDone (c : Channel) (raw : Nat) (s : State) : State := rsqValue c (convertedState c raw s)

/-- The state that a conversion in its turn leaves. -/
def conversionEnd (c : Channel) (raw : Nat) (s : State) : State := finish s false (handOn c (convertedState c raw s))

theorem movesEngine_rsqDone (c : Channel) (raw : Nat) (s : State) :
    MovesEngine (convertedState c raw s) (rsqDone c raw s) := movesEngine_rsqValue c _

/-- What follows PRU's judgement of the value: IRU's answer and the end of the event. -/
theorem movesEngine_judgedOn (c : Channel) (raw : Nat) (s : State) :
    MovesEngine (valueJudged c (convertedState c raw s)) (settle s false (handOn c (convertedState c raw s))) := by
  rw [handOn_eq]
  exact (movesEngine_iruValue c _).trans (movesEngine_settle s false _)

theorem conversionEnd_ins (c : Channel) (raw : Nat) (s : State) :
    (conversionEnd c raw s).ins = (convertedState c raw s).ins :=
  (finish_ins _ _ _).trans (reports_conversion c c raw s).ins

theorem rsqDone_ins (c : Channel) (raw : Nat) (s : State) : (rsqDone c raw s).ins = (conversionEnd c raw s).ins :=
  (movesEngine_rsqDone c raw s).ins.trans (conversionEnd_ins c raw s).symm

theorem rsqDone_cfg (c : Channel) (raw : Nat) (s : State) : (rsqDone c raw s).cfg = s.cfg :=
  (movesEngine_rsqDone c raw s).cfg

/-- Whatever the engine does, an entry that no change of engine state judges is as PRU's judgement of the value leaves
it. -/
theorem conversionEnd_entry {c : Channel} {raw : Nat} {s : State} {e : Entry} (h4 : e ≠ 4) (h8 : e ≠ 8) (h9 : e ≠ 9)
    (h14 : e ≠ 14) :
    (rsqDone c raw s).pru.entry e = s.pru.entry e ∧
      (conversionEnd c raw s).pru.entry e = (pruValue c (rsqDone c raw s) (rsqDone c raw s).pru).entry e :=
  ⟨((movesEngine_rsqDone c raw s).entry e h4 h8 h9).trans (setCondition_other _ _ h14),
    (movesEngine_judgedOn c raw s).entry e h4 h8 h9⟩

theorem conversionEnd_coolantPct (c : Channel) (raw : Nat) (s : State) :
    (conversionEnd c raw s).pru.coolantPct =
      if c = .coolant then
        deratePercent s.cfg.active.coolantStart s.cfg.active.coolantEnd s.cfg.active.coolantFloor
          (conversionEnd c raw s).ins.coolant.given
      else s.pru.coolantPct := by
  rw [← rsqDone_ins, ← rsqDone_cfg c raw]
  exact ((movesEngine_judgedOn c raw s).coolantPct.trans (pruValue_coolantPct _ _ c)).trans
    (congrArg (ite _ _) (movesEngine_rsqDone c raw s).coolantPct)

theorem conversionEnd_intakePct (c : Channel) (raw : Nat) (s : State) :
    (conversionEnd c raw s).pru.intakePct =
      if c = .intake then
        deratePercent s.cfg.active.intakeStart s.cfg.active.intakeEnd s.cfg.active.intakeFloor
          (conversionEnd c raw s).ins.intake.given
      else s.pru.intakePct := by
  rw [← rsqDone_ins, ← rsqDone_cfg c raw]
  exact ((movesEngine_judgedOn c raw s).intakePct.trans (pruValue_intakePct _ _ c)).trans
    (congrArg (ite _ _) (movesEngine_rsqDone c raw s).intakePct)

/-! ### A conversion while the engine runs (R80, R81) -/

/-- Where a conversion leaves RSQ alone: the engine runs, and its unloading is not complete in this event. -/
def Fuelled (s : State) : Prop :=
  s.rsq.engine = .accelerating ∨ s.rsq.engine = .running ∨ (s.rsq.engine = .unloading ∧ 2 ≤ s.ntu.applied)

theorem iruValue_of_fuelled (c : Channel) {s : State} (h1 : s.rsq.engine ≠ .rundown)
    (h2 : s.rsq.engine ≠ .autoStopped) :
    (iruValue c s).rsq = s.rsq ∧ (iruValue c s).pru = s.pru ∧ (iruValue c s).ntu = s.ntu := by
  have hrestart : watchTrigger s = s ∨ watchTrigger s = s.mapIru fun i => { i with restartSent := true } := by
    unfold watchTrigger
    split
    · right
      unfold autoRestart
      split
      · next w => exact absurd w h2
      · next w => exact absurd w h1
      · rfl
    · exact .inl rfl
  unfold iruValue
  split
  · unfold coolantTrigger
    split
    · split
      · exact ⟨rfl, rfl, rfl⟩
      · rcases hrestart with h | h <;> rw [h] <;> exact ⟨rfl, rfl, rfl⟩
      all_goals exact ⟨rfl, rfl, rfl⟩
    · exact ⟨rfl, rfl, rfl⟩
  · unfold batteryWatch
    split <;> exact ⟨rfl, rfl, rfl⟩
  all_goals exact ⟨rfl, rfl, rfl⟩

/-- With two notches to go, the end of the event leaves PRU alone (R145, R148). -/
theorem settle_pru_of_applied {s : State} (h : 2 ≤ s.ntu.applied) (s0 : State) (test : Bool) :
    (settle s0 test s).pru = s.pru := by
  obtain ⟨x, hx, hc⟩ := settle_form s0 test s
  have hxa : 1 ≤ x.ntu.applied ∧ x.pru = s.pru := by
    rcases hc with rfl | rfl
    · exact ⟨by omega, rfl⟩
    · have := le_stepChannel_applied (settleInputs s)
      rw [settleInputs_applied] at this
      exact ⟨by omega, by simp⟩
  obtain ⟨ha, hp⟩ := hxa
  rw [hx]
  unfold reportUnload
  rw [if_neg]
  · simp [hp]
  · rintro ⟨-, h0, -, -⟩
    simp only [refreshGovernor_applied, settleInputs_applied] at h0
    omega

theorem settle_pru_of_fuelled {s : State} (h : Fuelled s) (s0 : State) (test : Bool) :
    (settle s0 test s).pru = s.pru := by
  rcases h with h | h | ⟨-, h⟩
  · exact (settle_of_ne (by simp [h])).2.2.1
  · exact (settle_of_ne (by simp [h])).2.2.1
  · exact settle_pru_of_applied h s0 test

/-- While the engine runs, every entry but 14 is as PRU's judgement of the value leaves it. -/
theorem conversionEnd_entry_of_fuelled {c : Channel} {raw : Nat} {s : State} (h : Fuelled s) {e : Entry}
    (h14 : e ≠ 14) :
    rsqDone c raw s = convertedState c raw s ∧ (rsqDone c raw s).pru.entry e = s.pru.entry e ∧
      (conversionEnd c raw s).pru.entry e = (pruValue c (rsqDone c raw s) (rsqDone c raw s).pru).entry e := by
  have hne : s.rsq.engine ≠ .prelube ∧ s.rsq.engine ≠ .priming ∧ s.rsq.engine ≠ .cranking ∧
      s.rsq.engine ≠ .rundown ∧ s.rsq.engine ≠ .autoStopped := by
    rcases h with h | h | ⟨h, -⟩ <;> simp [h]
  obtain ⟨n1, n2, n3, n4, n5⟩ := hne
  have hr : rsqDone c raw s = convertedState c raw s := rsqValue_of_calm (s := convertedState c raw s) n1 n2 n3
  let u := valueJudged c (convertedState c raw s)
  have hu : u.rsq.engine = s.rsq.engine ∧ u.ntu = s.ntu := by
    have hv : u = (rsqDone c raw s).mapPru fun p => ringBell (pruValue c (rsqDone c raw s) p) := rfl
    rw [hv, hr]
    exact ⟨rfl, rfl⟩
  obtain ⟨he, hn⟩ := hu
  obtain ⟨ir, ip, inn⟩ := iruValue_of_fuelled c (s := u) (he ▸ n4) (he ▸ n5)
  have hf : Fuelled (iruValue c u) := by
    unfold Fuelled
    rw [ir, inn, he, hn]
    exact h
  have hp : (conversionEnd c raw s).pru = u.pru := by
    change (settle s false (handOn c (convertedState c raw s))).pru = u.pru
    rw [handOn_eq, settle_pru_of_fuelled hf, ip]
  refine ⟨hr, ?_, ?_⟩
  · rw [hr]
    exact setCondition_other _ _ h14
  · rw [hp]
    rfl

/-- Settles O47: PRU judges the value at each entry of its channel, and what follows in the event touches the entry no
more; for entries 4, 8 and 9 because the engine runs on. -/
theorem conversionsAreJudged : Obligations.ConversionsAreJudged := by
  intro raw s p judged
  have hall (e : Entry) (c : Channel) (sets clears : Int → Bool) (filter : Option Nat) (h4 : e ≠ 4) (h8 : e ≠ 8)
      (h9 : e ≠ 9) (h14 : e ≠ 14)
      (hj : ∀ w : State, w.cfg.active = p →
        JudgedAs e (sets (w.ins.channel c).given) (clears (w.ins.channel c).given) filter
          (w.pru.entry e) ((pruValue c w w.pru).entry e)) : judged e c sets clears filter := by
    intro hturn
    obtain ⟨hb, ha⟩ := conversionEnd_entry (c := c) (raw := raw.toNat) (s := s) h4 h8 h9 h14
    have k := hj (rsqDone c raw.toNat s) (congrArg Cfg.active (rsqDone_cfg c raw.toNat s))
    rw [rsqDone_ins, hb, ← ha] at k
    exact ⟨_, exec_conversion hturn, k⟩
  have hrun (e : Entry) (c : Channel) (sets clears : Int → Bool) (filter : Option Nat) (h : Fuelled s) (h14 : e ≠ 14)
      (hj : ∀ w : State, w.cfg.active = p → w.rsq = s.rsq → w.spd = s.spd →
        JudgedAs e (sets (w.ins.channel c).given) (clears (w.ins.channel c).given) filter
          (w.pru.entry e) ((pruValue c w w.pru).entry e)) : judged e c sets clears filter := by
    intro hturn
    obtain ⟨hr, hb, ha⟩ := conversionEnd_entry_of_fuelled (c := c) (raw := raw.toNat) h h14
    have k := hj (rsqDone c raw.toNat s) (congrArg Cfg.active (rsqDone_cfg c raw.toNat s)) (by rw [hr]; rfl)
      (by rw [hr]; rfl)
    rw [rsqDone_ins, hb, ← ha] at k
    exact ⟨_, exec_conversion hturn, k⟩
  clear_value judged
  refine ⟨?_, ?_, ?_, ?_, ?_, fun c hturn => ?_, fun hr => ⟨?_, ?_⟩, fun hf ha => ?_⟩
  · exact hall _ _ _ _ _ (by decide) (by decide) (by decide) (by decide) fun w hc => pruValue_crankcase w w.pru hc
  · exact hall _ _ _ _ _ (by decide) (by decide) (by decide) (by decide) fun w hc => pruValue_hotEngine w w.pru hc
  · exact hall _ _ _ _ _ (by decide) (by decide) (by decide) (by decide) fun w hc => pruValue_coolantDerate w w.pru hc
  · exact hall _ _ _ _ _ (by decide) (by decide) (by decide) (by decide) fun w hc => pruValue_intake w w.pru hc
  · exact hall _ _ _ _ _ (by decide) (by decide) (by decide) (by decide) fun w hc => pruValue_battery w w.pru hc
  · exact ⟨_, exec_conversion hturn, conversionEnd_coolantPct c raw.toNat s, conversionEnd_intakePct c raw.toNat s, rfl⟩
  · have hfam : s.rsq.engine.runningFamily = true := by rcases hr with h | ⟨h, -⟩ <;> rw [h] <;> rfl
    exact hrun _ _ _ _ _ (.inr hr) (by decide) fun w hc hw _ => pruValue_lowFuel w w.pru hc (hw ▸ hfam)
  · have hfam : s.rsq.engine.runningFamily = true := by rcases hr with h | ⟨h, -⟩ <;> rw [h] <;> rfl
    exact hrun _ _ _ _ _ (.inr hr) (by decide) fun w hc hw _ => pruValue_coldEngine w w.pru hc (hw ▸ hfam)
  · exact hrun _ _ _ _ _ hf (by decide) fun w hc hw hs =>
      pruValue_lowLube w w.pru hc (congrArg Spd.measured hs) (hw ▸ ha)

end Sys2Proof.Machine
end
